-- ==== Sys2Proof/Word.lean ====
section
/-! DEFINITION. Word.lean: the bytes and words of the link and of the map store. -/

namespace Sys2Proof

/-- One byte of a link frame (spec chapter 12). -/
abbrev Byte := BitVec 8

/-- A 16-bit word: a cycle number, a map word, a field of two bytes (spec R58, R186). -/
abbrev Word := BitVec 16

end Sys2Proof
end

