-- ==== Sys2Proof/Config.lean ====
section
/-! DEFINITION. Config.lean: what the part's design fixes: its timing (spec 00, 2.6), its addresses (2.1), frame kinds (9.1)
and limits; and the one free value, for a point on which rules of the spec differ. -/

namespace Sys2Proof.Config

/-- tBLANK, 250 µs, in ticks of the 40 MHz timebase (spec 1.1). -/
def tBlank : Nat := 10000

/-- tCYC, 500 µs, in ticks (spec 1.1). -/
def tCyc : Nat := 20000

/-- tCYC + tGRACE, 625 µs, in ticks (spec 1.1). -/
def tCycGrace : Nat := 25000

/-- One microsecond of the timebase, in ticks. -/
def ticksPerUs : Nat := 40

/-- The supervision interval, 500 µs, in ticks (spec 9.6). -/
def supervisionTicks : Nat := 20000

/-- Whether the computation that clears the flag of an acceleration channel still drops it. R38 has the effect of a stuck channel
last through that computation; R31 and R39 drop only a channel that is stuck after the trackers are updated. A free value: the
spec settles it nowhere (log entry 22). -/
opaque clearingDrops : Bool

/-- One byte time on the link, 0.5 µs, in ticks (spec 9.1). -/
def byteTicks : Nat := 20

/-- The holdover limit (spec 00, 2.6). -/
def holdoverLimit : Nat := 16

/-- The frames a forwarding queue holds (R152). -/
def queueDepth : Nat := 16

/-- The places of the reply queue (R154). -/
def replyPlaces : Nat := 4

/-- Where a saturating counter stays (spec 00, 2.5; R181). -/
def counterMax : Nat := 4294967295

/-- The words of a map image (R58). -/
def imageWords : Nat := 144

/-- The samples of a calibration (R79). -/
def calibrationSamples : Nat := 64

/-- The proving window set at the return from SUSPENDED (R101). -/
def provingWindow : Nat := 64

/-- The leak run at which a corner faults (R98). -/
def leakPeriods : Nat := 8

/-- The run of supply samples that moves the low flag (R109). -/
def supplyRun : Nat := 8

/-- The clean run that clears loss of signal (R157). -/
def cleanIntervals : Nat := 8

/-- The supervision intervals of a quality window (R159). -/
def qualityWindow : Nat := 256

/-- The chassis controller's address (spec 00, 2.1). -/
def chassisAddress : Byte := 0x01

/-- The broadcast address (spec 00, 2.1). -/
def broadcast : Byte := 0xFF

/-- The CV420 address for given straps, 0x10 plus their value (spec 00, 2.1). -/
def ownAddress (straps : BitVec 2) : Byte := 0x10 + straps.setWidth 8

/-- Frame kind codes (spec 9.1). -/
def kindCyc : Byte := 0x01
def kindSample : Byte := 0x02
def kindLinkReset : Byte := 0x0E
def kindOrder : Byte := 0x10
def kindReply : Byte := 0x11
def kindReport : Byte := 0x12

end Sys2Proof.Config
end

