-- ==== Sys2Proof/Syntax.lean ====
section
/-! DEFINITION. Syntax.lean: the commands of the CV420, one constructor of `Instr` for each row of spec/opcode_table.json,
and the types of their operands. -/

namespace Sys2Proof

/-- The four corners, in index order (spec 00, 2.1). -/
inductive Corner
  | fl | fr | rl | rr
  deriving DecidableEq, Repr

/-- The two link ports: S toward the chassis controller, W toward the corner nodes (spec 00, 1.1). -/
inductive Port
  | s | w
  deriving DecidableEq, Repr

/-- The two banks of a corner's map store (spec R133). -/
inductive BankId
  | a | b
  deriving DecidableEq, Repr

/-- The three sample channels: body acceleration, wheel acceleration, height (spec 2.4). -/
inductive Channel
  | ab | aw | h
  deriving DecidableEq, Repr

/-- One value for each corner, in corner order. -/
structure Quad (α : Type) where
  fl : α
  fr : α
  rl : α
  rr : α
  deriving DecidableEq, Repr

/-- A link frame received or built good: its header and payload.
The length byte is the payload's length and the check is the CRC of R187, so neither is stored (log entry 10). -/
structure Frame where
  dst : Byte
  src : Byte
  kind : Byte
  payload : List Byte
  deriving DecidableEq, Repr

/-- The payload of a 14-byte CYC frame, field by field (spec R188). -/
structure CycPayload where
  number : Word
  speed : Word
  mode : Byte
  offsets : Quad Word
  flags : Byte
  deriving DecidableEq, Repr

/-- An ORDER frame addressed to the part: source address, tag, and the argument bytes as they arrived (spec R190). -/
structure OrderIn where
  src : Byte
  tag : Byte
  args : List Byte
  deriving DecidableEq, Repr

/-- What brings a valve test to its end (spec R127, R128). -/
inductive TestEndCause
  /-- A hand-off with this measured current: the open condition is met, or the duration is reached. -/
  | handoff (im : Int)
  /-- A LATCH trip of the comparator. -/
  | trip
  /-- The 64th sample of the CAL phase, with this raw reading, and outcome FAIL. -/
  | calibration (raw : BitVec 12)
  deriving DecidableEq, Repr

/-- The commands of the part: every row of spec/opcode_table.json. -/
inductive Instr
  /-- RESETN or power-up, with the address straps read at its end (R130, 9.11). -/
  | powerOnReset (straps : BitVec 2)
  /-- A good 14-byte CYC frame arrives at Port S at this instant, in ticks of the timebase (R1). -/
  | cycArrival (instant : Nat) (dst src : Byte) (cyc : CycPayload)
  /-- The miss timer expires (R6, R7). -/
  | missTimerExpiry
  /-- The deadline timer expires (R14). -/
  | deadlineExpiry
  /-- A held update of this corner crosses the hold limit (R32). -/
  | holdLimitCrossed (c : Corner)
  /-- A good SAMPLE frame arrives at Port W (R21). -/
  | sampleArrival (dst src : Byte) (payload : List Byte)
  /-- A usable value of the channel makes it stuck (R36). -/
  | channelStuck (c : Corner) (ch : Channel) (value : Int)
  /-- A usable value of the channel releases it (R36). -/
  | channelRelease (c : Corner) (ch : Channel) (value : Int)
  /-- A good LINK_RESET frame arrives at Port S (R160). -/
  | linkReset (dst src : Byte) (payload : List Byte)
  /-- A run of bytes received at a port ends at this instant (R149). -/
  | frameReceived (instant : Nat) (port : Port) (run : List Byte)
  /-- The transmission in progress at a port completes (R153, R156). -/
  | transmissionComplete (port : Port)
  | queryStatus (o : OrderIn)
  | readParam (o : OrderIn)
  | writeParam (o : OrderIn)
  | gainWrite (o : OrderIn)
  | gainClear (o : OrderIn)
  | mapOpen (o : OrderIn)
  | mapData (o : OrderIn)
  | mapClose (o : OrderIn)
  /-- The validation reading of a period start judges the bank being read (R140, R141). -/
  | validationBankJudged
  | mapSwap (o : OrderIn)
  | mapRead (o : OrderIn)
  | engage (o : OrderIn)
  | release (o : OrderIn)
  | valveTest (o : OrderIn)
  /-- The valve test of this corner ends from this cause (R129). -/
  | valveTestEnd (c : Corner) (cause : TestEndCause)
  | clearFault (o : OrderIn)
  | fetchEvent (o : OrderIn)
  | readCounters (o : OrderIn)
  | softReset (o : OrderIn)
  /-- An ORDER whose code names no order (R166). -/
  | unknownOrder (o : OrderIn) (code : Byte)
  /-- A PWM period starts, with this level of the valve supply in mV (R76, R109). -/
  | pwmPeriodStart (mv : Nat)
  /-- The supply sample, in mV, at which the low flag asserts (R109). -/
  | supplyLowAssert (mv : Nat)
  /-- The supply sample, in mV, at which the low flag clears (R109). -/
  | supplyLowClear (mv : Nat)
  /-- The setpoint of a ramping regulator reaches 0 (R84). -/
  | rampComplete (c : Corner)
  /-- The regulator of this corner takes its sample of the period, with this raw reading (R77). -/
  | currentSample (c : Corner) (raw : BitVec 12)
  /-- The hand-off, with this measured current, at which the open condition is met (R95). -/
  | openCondition (c : Corner) (im : Int)
  /-- The hand-off, with this measured current, at which a short suspicion arises (R96). -/
  | shortSuspicion (c : Corner) (im : Int)
  /-- The hand-off, with this measured current, at which the leak run reaches 8 (R98). -/
  | leakFault (c : Corner) (im : Int)
  /-- The 64th sample of a calibration, with this raw reading (R79). -/
  | calibrationComplete (c : Corner) (raw : BitVec 12)
  /-- The comparator of this corner trips while its sense input stands at this raw reading for the next so many ticks, 0 for a
  trip due at the present tick (R88). -/
  | overcurrentTrip (c : Corner) (raw : BitVec 12) (ticks : Nat)
  /-- The cycle start at which the proving window of this corner reaches 0 (R102). -/
  | episodeRecovered (c : Corner)
  /-- A 500 µs supervision interval ends (R157). -/
  | supervisionIntervalEnd
  /-- The judgment of an interval at which loss of signal asserts at a port (R157, R158). -/
  | losAssert (port : Port)
  /-- The judgment of an interval at which loss of signal clears at a port (R157, R158). -/
  | losClear (port : Port)
  /-- The interval end at which a port's quality window ends (R159). -/
  | qualityWindowEnd (port : Port)
  /-- A stored map word, or its parity bit, is disturbed; the stored value is then this one (R69). -/
  | wordUpset (c : Corner) (bank : BankId) (word : Fin 144) (value : Word)
  deriving DecidableEq, Repr

namespace Quad

/-- The value of one corner. -/
def get {α : Type} (q : Quad α) : Corner → α
  | .fl => q.fl
  | .fr => q.fr
  | .rl => q.rl
  | .rr => q.rr

/-- The quad with the value of one corner replaced. -/
def set {α : Type} (q : Quad α) (c : Corner) (x : α) : Quad α :=
  match c with
  | .fl => { q with fl := x }
  | .fr => { q with fr := x }
  | .rl => { q with rl := x }
  | .rr => { q with rr := x }

/-- The quad that holds one value at every corner. -/
def fill {α : Type} (x : α) : Quad α := ⟨x, x, x, x⟩

/-- The quad of the images. -/
def map {α β : Type} (f : α → β) (q : Quad α) : Quad β := ⟨f q.fl, f q.fr, f q.rl, f q.rr⟩

/-- The quad of a function of the corner. -/
def ofCorners {α : Type} (f : Corner → α) : Quad α := ⟨f .fl, f .fr, f .rl, f .rr⟩

/-- The four values in corner order. -/
def toList {α : Type} (q : Quad α) : List α := [q.fl, q.fr, q.rl, q.rr]

end Quad

namespace Corner

/-- The index of a corner, 0 to 3 (spec 00, 2.1). -/
def index : Corner → Nat
  | .fl => 0
  | .fr => 1
  | .rl => 2
  | .rr => 3

/-- The corners in index order. -/
def all : List Corner := [.fl, .fr, .rl, .rr]

/-- The corner of an index, if it names one. -/
def ofIndex : Nat → Option Corner
  | 0 => some .fl
  | 1 => some .fr
  | 2 => some .rl
  | 3 => some .rr
  | _ => none

end Corner

end Sys2Proof
end

