-- ==== Sys2Proof/WellFormed.lean ====
section
/-! DEFINITION. WellFormed.lean: which commands can come to the part at all: payloads that fit a frame, codes that name no
order where the row says so, samples of corner nodes, and sensed values in the range the part converts them to. -/

namespace Sys2Proof

/-- The order codes of the table of R190. -/
def orderCodes : List Byte :=
  [0x01, 0x02, 0x03, 0x10, 0x11, 0x20, 0x21, 0x22, 0x23, 0x24, 0x30, 0x31, 0x32, 0x33, 0x40, 0x41, 0x50]

/-- A frame payload is 0 to 60 bytes (spec 9.1). -/
def payloadFits (payload : List Byte) : Bool := payload.length ≤ 60

/-- The arguments of an order stand behind its tag and code in one payload (R190). -/
def OrderIn.fits (o : OrderIn) : Bool := o.args.length ≤ 58

/-- The addresses of the four corner nodes (spec 00, 2.1). -/
def nodeAddresses : List Byte := [0x21, 0x22, 0x23, 0x24]

/-- The range of a channel's field: accelerations signed 16 bits, height signed 24 bits (spec 2.1). -/
def Channel.inRange : Channel → Int → Bool
  | .h, v => decide (-8388608 ≤ v) && decide (v ≤ 8388607)
  | _, v => decide (-32768 ≤ v) && decide (v ≤ 32767)

/-- A command that can come to the part. -/
def Instr.wellFormed : Instr → Bool
  | .powerOnReset _ => true
  | .cycArrival _ _ _ _ => true
  | .missTimerExpiry => true
  | .deadlineExpiry => true
  | .holdLimitCrossed _ => true
  | .sampleArrival _ src payload => payloadFits payload && nodeAddresses.contains src
  | .channelStuck _ ch v => ch.inRange v
  | .channelRelease _ ch v => ch.inRange v
  | .linkReset _ _ payload => payloadFits payload
  | .frameReceived _ _ run => !run.isEmpty
  | .transmissionComplete _ => true
  | .queryStatus o => o.fits
  | .readParam o => o.fits
  | .writeParam o => o.fits
  | .gainWrite o => o.fits
  | .gainClear o => o.fits
  | .mapOpen o => o.fits
  | .mapData o => o.fits
  | .mapClose o => o.fits
  | .validationBankJudged => true
  | .mapSwap o => o.fits
  | .mapRead o => o.fits
  | .engage o => o.fits
  | .release o => o.fits
  | .valveTest o => o.fits
  | .valveTestEnd _ _ => true
  | .clearFault o => o.fits
  | .fetchEvent o => o.fits
  | .readCounters o => o.fits
  | .softReset o => o.fits
  | .unknownOrder o code => o.fits && !orderCodes.contains code
  | .pwmPeriodStart _ => true
  | .supplyLowAssert _ => true
  | .supplyLowClear _ => true
  | .rampComplete _ => true
  | .currentSample _ _ => true
  | .openCondition _ _ => true
  | .shortSuspicion _ _ => true
  | .leakFault _ _ => true
  | .calibrationComplete _ _ => true
  | .overcurrentTrip _ _ _ => true
  | .episodeRecovered _ => true
  | .supervisionIntervalEnd => true
  | .losAssert _ => true
  | .losClear _ => true
  | .qualityWindowEnd _ => true
  | .wordUpset _ _ _ _ => true

end Sys2Proof
end

