-- ==== Sys2Proof/Decode.lean ====
section
/-! DEFINITION. Decode.lean: the bytes of the link. Field encodings (R186), the frame check (R187), a received run as a
frame (R149), the CYC and SAMPLE payloads (R188) and the ORDER payload (R190), both ways; and `decodeTableWord`, which answers
none: no row of spec/opcode_table.json carries bits. -/

namespace Sys2Proof

/-! ## Fields, most significant byte first (R186) -/

/-- The two bytes of a 16-bit field. -/
def wordBytes (w : Word) : List Byte := [w.extractLsb' 8 8, w.extractLsb' 0 8]

/-- The 16-bit field of two bytes. -/
def wordOf (hi lo : Byte) : Word := hi ++ lo

/-- The 24-bit field of three bytes. -/
def word24Of (b2 b1 b0 : Byte) : BitVec 24 := b2 ++ (b1 ++ b0 : BitVec 16)

/-- The 32-bit field of four bytes. -/
def word32Of (b3 b2 b1 b0 : Byte) : BitVec 32 := (b3 ++ b2 : BitVec 16) ++ (b1 ++ b0 : BitVec 16)

/-- A number as one byte. -/
def u8 (n : Nat) : Byte := BitVec.ofNat 8 n

/-- A number as an unsigned 16-bit field. -/
def u16 (n : Nat) : List Byte := wordBytes (BitVec.ofNat 16 n)

/-- A number as an unsigned 32-bit field. -/
def u32 (n : Nat) : List Byte := u16 (n / 65536) ++ u16 (n % 65536)

/-- An integer as a signed 16-bit field, in two's complement. -/
def s16 (x : Int) : List Byte := wordBytes (BitVec.ofInt 16 x)

/-- A mark as one byte. -/
def flag (b : Bool) : Byte := if b then 1 else 0

/-! ## The frame check (R187) -/

/-- One bit enters the check register. -/
def crcBit (crc : Word) (bit : Bool) : Word :=
  if crc.msb != bit then (crc <<< 1) ^^^ 0x1021#16 else crc <<< 1

/-- The bits of a byte, most significant first, enter the check register. -/
def crcByte (crc : Word) (b : Byte) : Word :=
  [7, 6, 5, 4, 3, 2, 1, 0].foldl (fun r k => crcBit r (b.getLsbD k)) crc

/-- The frame check over header and payload. -/
def frameCheck (bytes : List Byte) : Word := bytes.foldl crcByte 0xFFFF#16

/-! ## Frames on the line (12.2) -/

/-- The bytes a frame's check is formed over: header and payload. -/
def Frame.body (f : Frame) : List Byte :=
  f.dst :: f.src :: f.kind :: u8 f.payload.length :: f.payload

/-- The bytes of a frame on the line. -/
def Frame.bytes (f : Frame) : List Byte := f.body ++ wordBytes (frameCheck f.body)

/-- What a receiver makes of a run of bytes (R149). -/
inductive Reception
  | badLength
  | badCheck
  | good (f : Frame)
  deriving DecidableEq, Repr

/-- The two tests of R149 on a received run, in their order. -/
def receive (run : List Byte) : Reception :=
  match run with
  | dst :: src :: kind :: len :: rest =>
    if 6 ≤ run.length ∧ run.length ≤ 66 ∧ len.toNat ≤ 60 ∧ run.length = len.toNat + 6 then
      let payload := rest.take len.toNat
      if rest.drop len.toNat = wordBytes (frameCheck (dst :: src :: kind :: len :: payload)) then
        .good ⟨dst, src, kind, payload⟩
      else .badCheck
    else .badLength
  | _ => .badLength

/-! ## Payloads -/

/-- The payload of a CYC frame as bytes (R188). -/
def CycPayload.bytes (c : CycPayload) : List Byte :=
  wordBytes c.number ++ wordBytes c.speed ++ [c.mode] ++ wordBytes c.offsets.fl ++ wordBytes c.offsets.fr ++
    wordBytes c.offsets.rl ++ wordBytes c.offsets.rr ++ [c.flags]

/-- The fields of a CYC payload of 14 bytes; none for any other length (R1, R188). -/
def decodeCyc : List Byte → Option CycPayload
  | [n1, n0, s1, s0, m, a1, a0, b1, b0, c1, c0, d1, d0, fl] =>
    some ⟨wordOf n1 n0, wordOf s1 s0, m, ⟨wordOf a1 a0, wordOf b1 b0, wordOf c1 c0, wordOf d1 d0⟩, fl⟩
  | _ => none

/-- The fields of a SAMPLE payload as the estimator reads them (R188): the invalid marks are bits 0 to 2 of the status. -/
structure Sample where
  corner : Byte
  tag : Byte
  ab : Int
  aw : Int
  h : Int
  abInvalid : Bool
  awInvalid : Bool
  hInvalid : Bool
  deriving DecidableEq, Repr

/-- The fields of a SAMPLE payload of 10 bytes; none for any other length (R21, R188). -/
def decodeSample : List Byte → Option Sample
  | [corner, tag, a1, a0, w1, w0, h2, h1, h0, status] =>
    some ⟨corner, tag, (wordOf a1 a0).toInt, (wordOf w1 w0).toInt, (word24Of h2 h1 h0).toInt,
      status.getLsbD 0, status.getLsbD 1, status.getLsbD 2⟩
  | _ => none

/-- The corner whose node has this address (spec 00, 2.1; R21). -/
def cornerOfAddress (src : Byte) : Option Corner :=
  if src = 0x21 then some .fl
  else if src = 0x22 then some .fr
  else if src = 0x23 then some .rl
  else if src = 0x24 then some .rr
  else none

/-- The code of an ORDER payload, 0 where it is missing (R163, R166, R190). -/
def orderCodeOf : List Byte → Byte
  | _ :: code :: _ => code
  | _ => 0

/-- The order of an ORDER payload: tag, 0 where it is missing, and arguments (R166, R190). -/
def orderOf (src : Byte) : List Byte → OrderIn
  | tag :: _ :: args => ⟨src, tag, args⟩
  | [tag] => ⟨src, tag, []⟩
  | [] => ⟨src, 0, []⟩

/-- The ORDER frame that carries an order to a part at this address (R190). -/
def OrderIn.frame (o : OrderIn) (code dst : Byte) : Frame := ⟨dst, o.src, Config.kindOrder, o.tag :: code :: o.args⟩

/-! ## Codes of corners' banks, ports and channels (R186) -/

def BankId.code : BankId → Byte
  | .a => 0
  | .b => 1

/-- The bank of a value carried in a frame (R145, R186). -/
def BankId.ofCode : Nat → Option BankId
  | 0 => some .a
  | 1 => some .b
  | _ => none

def Port.code : Port → Byte
  | .s => 0
  | .w => 1

def Channel.code : Channel → Byte
  | .ab => 0
  | .aw => 1
  | .h => 2

/-! ## The opcode table -/

/-- The command a word of the opcode table spells: none, since no row of the table carries bits. -/
def decodeTableWord (_nbits _w : Nat) : Option Instr := none

end Sys2Proof
end

