-- ==== Sys2Proof/Machine/State.lean ====
section
/-! DEFINITION. Machine/State.lean: everything the spec gives the part to hold, as plain data, and `State.reset`, the part
right after power-on reset. INVENTORY.md lists each item with its rule. -/

namespace Sys2Proof.Machine

open Sys2Proof

/-! ## Cycle tracker and vehicle context (chapter 1) -/

/-- The tracker states of 1.1. `localState` is LOCAL. -/
inductive TrackerState
  | unlocked | locked | holdover | localState
  deriving DecidableEq, Repr

/-- The start kind of a cycle (R13). -/
inductive StartKind
  | controller | substitute
  deriving DecidableEq, Repr

/-- The context source (R17). `localSource` is LOCAL. -/
inductive ContextSource
  | controller | held | localSource
  deriving DecidableEq, Repr

/-- The drive modes (R17). -/
inductive Mode
  | comfort | normal | sport
  deriving DecidableEq, Repr

/-- The cycle record (R13). Its number is also the current cycle number (log entry 14). -/
structure CycleRecord where
  number : Word
  kind : StartKind
  computed : Quad Bool
  fresh : Quad Bool
  closed : Bool
  deriving DecidableEq, Repr

/-- The tracker's state beside the vehicle context (1.1). Instants are ticks since the end of power-on reset;
a timer holds the instant of its expiry, or none while it is stopped. -/
structure Tracker where
  state : TrackerState
  previous : Option Word
  record : CycleRecord
  lastStart : Option Nat
  runCount : Nat
  missAt : Option Nat
  deadlineAt : Option Nat
  deriving DecidableEq, Repr

/-- The vehicle context (R17). -/
structure Context where
  speed : Nat
  mode : Mode
  offsets : Quad Int
  source : ContextSource
  deriving DecidableEq, Repr

/-! ## Motion estimation (chapter 2) -/

/-- The velocities, height and held count of a corner motion record (R27). -/
structure Motion where
  primed : Bool
  hPrev : Int
  held : Nat
  vf : Int
  vb : Int
  vw : Int
  deriving DecidableEq, Repr

/-- A stuck tracker (R35). -/
structure StuckTracker where
  last : Option Int
  same : Nat
  change : Nat
  stuck : Bool
  deriving DecidableEq, Repr

/-- The stuck trackers of the three channels of a corner (R27). -/
structure Channels where
  ab : StuckTracker
  aw : StuckTracker
  h : StuckTracker
  deriving DecidableEq, Repr

/-! ## Demand calculator (chapter 3) -/

/-- One entry of the gain schedule (3.1). -/
structure BandEntry where
  present : Bool
  bound : Nat
  cBase : Nat
  cSky : Nat
  cGnd : Nat
  deriving DecidableEq, Repr

/-- The eight bands of a mode (R42). -/
structure Bands where
  b0 : BandEntry
  b1 : BandEntry
  b2 : BandEntry
  b3 : BandEntry
  b4 : BandEntry
  b5 : BandEntry
  b6 : BandEntry
  b7 : BandEntry
  deriving DecidableEq, Repr

/-- The gain schedule (R42). -/
structure Schedule where
  comfort : Bands
  normal : Bands
  sport : Bands
  deriving DecidableEq, Repr

/-- A band selection that is not none (R47). -/
structure Selection where
  band : Nat
  mode : Mode
  deriving DecidableEq, Repr

/-! ## Map store (chapters 4 and 8) -/

/-- A stored map word: its value, and whether its parity matches it (R69: intact or upset). -/
structure StoredWord where
  value : Word
  intact : Bool
  deriving DecidableEq, Repr

/-- The words of a bank: pairs of index and word, indices rising, none equal to what an unlisted index reads as. -/
abbrev WordMem := List (Nat × StoredWord)

/-- The bank states (R133). -/
inductive BankState
  | empty | loading | checking | ready | active | corrupt
  deriving DecidableEq, Repr

/-- One bank: its state, its words, and the check value supplied when it was closed (R59, R139). -/
structure Bank where
  state : BankState
  words : WordMem
  check : Option Word
  deriving DecidableEq, Repr

/-- The banks of a corner with the active pointer and the swap-pending mark (R133). -/
structure Banks where
  a : Bank
  b : Bank
  active : Option BankId
  swapPending : Bool
  deriving DecidableEq, Repr

/-- The outcomes of validation (R60, R141). -/
inductive MapOutcome
  | none | valid | check | axis | range | monotone | parity
  deriving DecidableEq, Repr

/-- A validation in progress: the corners still to be judged, the words of the first of them as they were read, in index order,
and the outcomes so far (R59, R139, R140). -/
structure Validation where
  todo : List Corner
  read : List Word
  outcomes : Quad MapOutcome
  deriving DecidableEq, Repr

/-- What the map store holds for the part as a whole (R71, R134, R140). -/
structure Store where
  group : Quad Bool
  pointer : Nat
  validation : Option Validation
  scrub : Nat
  deriving DecidableEq, Repr

/-! ## Regulators (chapter 5) -/

/-- The regulator modes (R81). -/
inductive RegMode
  | disabled | tracking | ramping
  deriving DecidableEq, Repr

/-- Where in the period the current is sampled (R77). -/
inductive SamplePoint
  | valley | peak
  deriving DecidableEq, Repr

/-- A calibration in progress: whether its first period has begun, the samples taken and their sum (R79). -/
structure Calibration where
  begun : Bool
  taken : Nat
  sum : Nat
  deriving DecidableEq, Repr

/-- A valve regulator. `wanted` is the mode the supervisor has set; the driver is `enabled` from the period start at which an
enable takes effect (R82), and until then the regulator's mode is DISABLED. `overRun` is the comparator's filter: the ticks of
on-time, up to the present one, at which the sensed current has stood above TRIP_LEVEL without interruption (R88). -/
structure Regulator where
  wanted : RegMode
  enabled : Bool
  setpoint : Nat
  target : Nat
  duty : Nat
  compare : Nat
  e1 : Int
  e2 : Int
  u : Int
  offset : Nat
  calibration : Option Calibration
  firstTrip : Bool
  point : SamplePoint
  sampled : Bool
  overRun : Nat
  tripped : Bool
  trippedBefore : Bool
  meanSum : Int
  meanCount : Nat
  meanRunning : Bool
  deriving DecidableEq, Repr

/-- The PWM counter with its direction, the P of the period in progress, and the comparator's parameters held for the
period (R75, R88). `latchBefore` is the TRIP_MODE, LATCH or not, that held for the period before, which a valley hand-off's
Tripped item names (R91, R96). -/
structure Pwm where
  count : Nat
  up : Bool
  half : Nat
  tripLevel : Nat
  tripFilter : Nat
  tripLatch : Bool
  latchBefore : Bool
  deriving DecidableEq, Repr

/-! ## Valve diagnosis and supply (chapter 6) -/

/-- The fault kinds (R107). `noFault` is NONE, `openWinding` is OPEN and `shortWinding` is SHORT. -/
inductive FaultKind
  | noFault | openWinding | shortWinding | leak | senseOffset
  deriving DecidableEq, Repr

/-- An episode in progress: its limit and proving window. Its round, attempts and kind are fields of the fault record (6.2). -/
structure Episode where
  limit : Nat
  window : Option Nat
  deriving DecidableEq, Repr

/-- The fault record of a corner (R107). -/
structure FaultRecord where
  kind : FaultKind
  round : Nat
  attempts : Nat
  total : Nat
  recovered : Bool
  firstCycle : Word
  deriving DecidableEq, Repr

/-- A corner's diagnosis: the three runs, the episode and the fault record (6.1). -/
structure Diagnosis where
  openRun : Nat
  shortRun : Nat
  leakRun : Nat
  episode : Option Episode
  record : FaultRecord
  deriving DecidableEq, Repr

/-- The supply monitor (6.4). -/
structure Supply where
  low : Bool
  lowRun : Nat
  high : Bool
  deriving DecidableEq, Repr

/-! ## Supervisor (chapter 7) -/

/-- The control states (7.1). -/
inductive ControlState
  | unloaded | standby | engaging | engaged | releasing
  deriving DecidableEq, Repr

/-- What a corner calibrates for (R120). -/
inductive Purpose
  | engage | recal
  deriving DecidableEq, Repr

/-- The phases of a valve test (R126). -/
inductive TestPhase
  | cal | drive
  deriving DecidableEq, Repr

/-- The test record (R126). -/
structure TestRecord where
  current : Nat
  duration : Nat
  candidate : Nat
  driven : Nat
  count : Nat
  sum : Int
  least : Option Int
  greatest : Option Int
  finalDuty : Nat
  deriving DecidableEq, Repr

/-- The corner states, each with the items that belong to it (R120). -/
inductive CornerState
  | off
  | calibrating (purpose : Purpose) (calibrated : Bool)
  | control
  | suspended
  | passive (rampComplete : Bool)
  | fault
  | test (phase : TestPhase) (record : TestRecord)
  deriving DecidableEq, Repr

/-- A passive reason set (R121). -/
structure Reasons where
  stale : Bool
  sensor : Bool
  link : Bool
  supply : Bool
  map : Bool
  deriving DecidableEq, Repr

/-- The corner counters (R181), in the order of the table. -/
structure CornerCounters where
  fresh : Nat
  late : Nat
  duplicate : Nat
  staleTag : Nat
  held : Nat
  heightClamp : Nat
  passiveEntry : Nat
  overcurrent : Nat
  retry : Nat
  badSample : Nat
  deriving DecidableEq, Repr

/-- Everything one corner holds. -/
structure CornerPart where
  motion : Motion
  stuck : Channels
  lastDemand : Nat
  lastTarget : Nat
  banks : Banks
  reg : Regulator
  diag : Diagnosis
  state : CornerState
  reasons : Reasons
  counters : CornerCounters
  deriving DecidableEq, Repr

/-! ## Ports (chapter 9) -/

/-- A frame being sent and the instant its transmission completes (R153). -/
structure Sending where
  frame : Frame
  doneAt : Nat
  deriving DecidableEq, Repr

/-- The port counters (R181), in the order of the table. -/
structure PortCounters where
  goodFrames : Nat
  check : Nat
  length : Nat
  misaddressed : Nat
  forwardDrop : Nat
  deriving DecidableEq, Repr

/-- One port: its transmitter, its supervision state (9.6) and its counters. -/
structure PortPart where
  sending : Option Sending
  los : Bool
  silentRun : Nat
  cleanRun : Nat
  goodMark : Bool
  alarm : Bool
  errored : Nat
  window : Nat
  counters : PortCounters
  deriving DecidableEq, Repr

/-- The queues between the ports and what the part itself has to send (9.3 to 9.5). -/
structure Link where
  wheelBound : List Frame
  chassisBound : List Frame
  replies : List Frame
  report : Option Frame
  substitute : Option Frame
  deriving DecidableEq, Repr

/-! ## Order unit (chapter 10) -/

/-- The order that holds the slot (10.1). -/
structure HeldOrder where
  src : Byte
  tag : Byte
  code : Byte
  deriving DecidableEq, Repr

/-- The parameter store, one field for each id of 10.5, in the order of the table. -/
structure Params where
  velShift : Nat
  bodyLeak : Nat
  wheelLeak : Nat
  holdLimit : Nat
  stuckCount : Nat
  stuckClear : Nat
  endZone : Nat
  endGain : Nat
  demandMax : Nat
  bandHyst : Nat
  deadline : Nat
  substitute : Nat
  currentLimit : Nat
  slew : Nat
  ramp : Nat
  pwmHalf : Nat
  senseGain : Nat
  kp : Nat
  ki : Nat
  kd : Nat
  dutyMin : Nat
  dutyMax : Nat
  sampleMin : Nat
  tripLevel : Nat
  tripFilter : Nat
  tripMode : Nat
  tripRun : Nat
  openCheck : Nat
  satRun : Nat
  leakLevel : Nat
  retryLimit : Nat
  supplyLowOn : Nat
  supplyLowOff : Nat
  supplyHighOn : Nat
  supplyHighOff : Nat
  losTime : Nat
  qualOn : Nat
  qualOff : Nat
  eventMask : Nat
  resetFollowsLink : Nat
  deriving DecidableEq, Repr

/-! ## Event unit (chapter 11) -/

/-- A pair of event kind and subject (11.1). -/
inductive Event
  | valveFault (c : Corner)
  | supply
  | mapParity (c : Corner)
  | cornerPassive (c : Corner)
  | linkLos (p : Port)
  | cycleHoldover
  | cycleLocal
  | sensorStuck (c : Corner)
  | valveRecovered (c : Corner)
  | linkQuality (p : Port)
  | overcurrentLimit (c : Corner)
  | orderDropped
  | restarted
  | mapSwapped (c : Corner)
  deriving DecidableEq, Repr

/-- An entry of the pending event set (R177). The parameter is the byte of R190, 0 for kinds without one. -/
structure Entry where
  event : Event
  count : Nat
  firstCycle : Word
  parameter : Byte
  deriving DecidableEq, Repr

/-- The global counters (R181), in the order of the table. -/
structure GlobalCounters where
  unsynced : Nat
  earlyCycle : Nat
  contextClamp : Nat
  reportOverrun : Nat
  orderDropped : Nat
  substitutes : Nat
  deriving DecidableEq, Repr

/-! ## The whole part -/

/-- The levels at the analogue input pins: the raw sense readings and the supply in mV (R77, R109; log entry 8). -/
structure Pins where
  sense : Quad (BitVec 12)
  supplyMv : Nat
  deriving DecidableEq, Repr

/-- Everything the part holds. `now` counts the ticks of the timebase since the end of power-on reset. -/
structure Part where
  now : Nat
  straps : BitVec 2
  tracker : Tracker
  context : Context
  corners : Quad CornerPart
  control : ControlState
  schedule : Schedule
  selection : Option Selection
  store : Store
  pwm : Pwm
  supply : Supply
  portS : PortPart
  portW : PortPart
  intervalAt : Nat
  link : Link
  slot : Option HeldOrder
  params : Params
  events : List Entry
  globals : GlobalCounters
  pins : Pins
  deriving DecidableEq, Repr

/-- The state of the machine: the part, and the commands that wait, first in first out. -/
structure State where
  part : Part
  pending : List Instr
  deriving DecidableEq, Repr

/-- The part has no fault that stops it: bad frames, bad orders and parity failures all have effects of their own
(R149, R165, R70). No command raises one. -/
inductive Fault
  deriving DecidableEq, Repr

/-- Why a command would have no meaning. -/
inductive Refusal
  /-- Raised by an arm of `exec` whose command has no meaning yet; safe, since nothing is claimed of it. No arm raises it. -/
  | notModelled (mnemonic : String)
  deriving DecidableEq, Repr

/-! ## Power-on values -/

/-- The unprimed motion record (R33). -/
def Motion.unprimed : Motion := ⟨false, 0, 0, 0, 0, 0⟩

/-- A cleared stuck tracker (R41). -/
def StuckTracker.cleared : StuckTracker := ⟨none, 0, 0, false⟩

/-- The three stuck trackers cleared (R41). -/
def Channels.cleared : Channels := ⟨.cleared, .cleared, .cleared⟩

/-- An absent entry, its other fields 0 (R42). -/
def BandEntry.absent : BandEntry := ⟨false, 0, 0, 0, 0⟩

/-- The bands of a mode with no present band (R42, R46). -/
def Bands.absent : Bands :=
  ⟨.absent, .absent, .absent, .absent, .absent, .absent, .absent, .absent⟩

/-- A bank at power-on: EMPTY, every word 0 and intact (R58, R147). -/
def Bank.powerOn : Bank := ⟨.empty, [], none⟩

/-- The regulator at power-on (R93). The sample point is that of C = 0 (log entry 11). -/
def Regulator.powerOn : Regulator where
  wanted := .disabled
  enabled := false
  setpoint := 0
  target := 0
  duty := 0
  compare := 0
  e1 := 0
  e2 := 0
  u := 0
  offset := 2048
  calibration := none
  firstTrip := false
  point := .peak
  sampled := false
  overRun := 0
  tripped := false
  trippedBefore := false
  meanSum := 0
  meanCount := 0
  meanRunning := false

/-- The fault record after either reset (R112). -/
def FaultRecord.cleared : FaultRecord := ⟨.noFault, 0, 0, 0, false, 0⟩

/-- The diagnosis after either reset (R112). -/
def Diagnosis.cleared : Diagnosis := ⟨0, 0, 0, none, .cleared⟩

/-- The empty reason set. -/
def Reasons.empty : Reasons := ⟨false, false, false, false, false⟩

/-- Corner counters at 0 (R185). -/
def CornerCounters.zero : CornerCounters := ⟨0, 0, 0, 0, 0, 0, 0, 0, 0, 0⟩

/-- Port counters at 0 (R162, R185). -/
def PortCounters.zero : PortCounters := ⟨0, 0, 0, 0, 0⟩

/-- Global counters at 0 (R185). -/
def GlobalCounters.zero : GlobalCounters := ⟨0, 0, 0, 0, 0, 0⟩

/-- A corner at power-on (R41, R57, R74, R93, R112, R130, R147). -/
def CornerPart.powerOn : CornerPart where
  motion := .unprimed
  stuck := .cleared
  lastDemand := 0
  lastTarget := 0
  banks := ⟨.powerOn, .powerOn, none, false⟩
  reg := .powerOn
  diag := .cleared
  state := .off
  reasons := .empty
  counters := .zero

/-- A port at power-on (R162). -/
def PortPart.powerOn : PortPart := ⟨none, false, 0, 0, false, false, 0, 0, .zero⟩

/-- The defaults of 10.5. -/
def Params.defaults : Params where
  velShift := 2
  bodyLeak := 10
  wheelLeak := 8
  holdLimit := 3
  stuckCount := 120
  stuckClear := 16
  endZone := 70000
  endGain := 150
  demandMax := 16000
  bandHyst := 20
  deadline := 350
  substitute := 1
  currentLimit := 1800
  slew := 20
  ramp := 10
  pwmHalf := 1000
  senseGain := 1536
  kp := 48000
  ki := 8000
  kd := 0
  dutyMin := 0
  dutyMax := 29491
  sampleMin := 60
  tripLevel := 2600
  tripFilter := 1
  tripMode := 0
  tripRun := 4
  openCheck := 150
  satRun := 40
  leakLevel := 120
  retryLimit := 10
  supplyLowOn := 9000
  supplyLowOff := 9800
  supplyHighOn := 16500
  supplyHighOff := 15800
  losTime := 4
  qualOn := 8
  qualOff := 1
  eventMask := 0
  resetFollowsLink := 0

/-- The tracker at power-on (R18). -/
def Tracker.powerOn : Tracker where
  state := .unlocked
  previous := none
  record := ⟨0, .controller, .fill false, .fill false, true⟩
  lastStart := none
  runCount := 0
  missAt := none
  deadlineAt := none

/-- The part at the end of power-on reset, with the straps read then and the levels at its input pins. -/
def Part.powerOn (straps : BitVec 2) (pins : Pins) : Part where
  now := 0
  straps := straps
  tracker := .powerOn
  context := ⟨0, .normal, .fill 0, .localSource⟩
  corners := .fill .powerOn
  control := .unloaded
  schedule := ⟨.absent, .absent, .absent⟩
  selection := none
  store := ⟨.fill false, 0, none, 0⟩
  pwm := ⟨1000, false, 1000, 2600, 1, false, false⟩
  supply := ⟨false, 0, false⟩
  portS := .powerOn
  portW := .powerOn
  intervalAt := Config.supervisionTicks
  link := ⟨[], [], [], none, none⟩
  slot := none
  params := .defaults
  events := [⟨.restarted, 1, 0, 0⟩]
  globals := .zero
  pins := pins

/-- The input levels the model names for a part right after reset: a dead winding at the power-on offset of 2048, and
12,000 mV. DESIGN CHOICE, unsafe: the spec gives no pin a level (log entry 8). -/
def Pins.reset : Pins := ⟨.fill 2048, 12000⟩

/-- The machine right after power-on reset, nothing waiting. The straps read 0 (DESIGN CHOICE, log entry 9). -/
def State.reset : State := ⟨.powerOn 0 .reset, []⟩

end Sys2Proof.Machine
end

