-- ==== Sys2Proof/Machine/Flags.lean ====
section
/-! DEFINITION. Machine/Flags.lean: reason sets, masks, the codes of enumerated fields (R186, R190), compressed counts (R182)
and the attention flag's mask (R180). -/

namespace Sys2Proof.Machine

open Sys2Proof

/-! ## Passive reasons (R121) -/

/-- The five passive reasons (R121). -/
inductive Reason
  | stale | sensor | link | supply | map
  deriving DecidableEq, Repr

/-- Whether a set holds a reason. -/
def Reasons.has (r : Reasons) : Reason → Bool
  | .stale => r.stale
  | .sensor => r.sensor
  | .link => r.link
  | .supply => r.supply
  | .map => r.map

/-- The set with one reason put in or taken out. -/
def Reasons.put (r : Reasons) (which : Reason) (present : Bool) : Reasons :=
  match which with
  | .stale => { r with stale := present }
  | .sensor => { r with sensor := present }
  | .link => { r with link := present }
  | .supply => { r with supply := present }
  | .map => { r with map := present }

/-- Whether a set is empty. -/
def Reasons.none (r : Reasons) : Bool := !(r.stale || r.sensor || r.link || r.supply || r.map)

/-- A set of up to eight members as one byte, the first member in bit 0 (R186). -/
def maskByte (bits : List Bool) : Byte :=
  bits.foldr (fun b acc => (acc <<< 1) ||| flag b) 0

/-- A reason set as one byte (R186). -/
def Reasons.byte (r : Reasons) : Byte := maskByte [r.stale, r.sensor, r.link, r.supply, r.map]

/-- A set of corners as one byte (R186). -/
def cornerMask (q : Quad Bool) : Byte := maskByte q.toList

/-- The corners a mask names (R186). -/
def cornersOf (m : Byte) : Quad Bool := ⟨m.getLsbD 0, m.getLsbD 1, m.getLsbD 2, m.getLsbD 3⟩

/-- A mask names at least one corner and nothing beyond the four (R135, R142, R186). -/
def maskNamesCorners (m : Byte) : Bool := m.toNat ≠ 0 && decide (m.toNat < 16)

/-- The stuck channels as one byte (R186). -/
def Channels.byte (s : Channels) : Byte := maskByte [s.ab.stuck, s.aw.stuck, s.h.stuck]

/-! ## Codes of enumerated fields (R186) -/

def ControlState.code : ControlState → Byte
  | .unloaded => 0
  | .standby => 1
  | .engaging => 2
  | .engaged => 3
  | .releasing => 4

def TrackerState.code : TrackerState → Byte
  | .unlocked => 0
  | .locked => 1
  | .holdover => 2
  | .localState => 3

def CornerState.code : CornerState → Byte
  | .off => 0
  | .calibrating _ _ => 1
  | .control => 2
  | .suspended => 3
  | .passive _ => 4
  | .fault => 5
  | .test _ _ => 6

def ContextSource.code : ContextSource → Byte
  | .controller => 0
  | .held => 1
  | .localSource => 2

def StartKind.code : StartKind → Byte
  | .controller => 0
  | .substitute => 1

def BankState.code : BankState → Byte
  | .empty => 0
  | .loading => 1
  | .checking => 2
  | .ready => 3
  | .active => 4
  | .corrupt => 5

def pointerCode : Option BankId → Byte
  | none => 0
  | some .a => 1
  | some .b => 2

def FaultKind.code : FaultKind → Byte
  | .noFault => 0
  | .openWinding => 1
  | .shortWinding => 2
  | .leak => 3
  | .senseOffset => 4

def MapOutcome.code : MapOutcome → Byte
  | .none => 0
  | .valid => 1
  | .check => 2
  | .axis => 3
  | .range => 4
  | .monotone => 5
  | .parity => 6

def Mode.code : Mode → Byte
  | .comfort => 0
  | .normal => 1
  | .sport => 2

/-- The mode of a value carried in a frame; none where the value names no mode (R2, R44, R46). -/
def Mode.ofCode : Nat → Option Mode
  | 0 => some .comfort
  | 1 => some .normal
  | 2 => some .sport
  | _ => none

/-! ## Events (11.1) -/

/-- The kind code of a pair. -/
def Event.kindCode : Event → Nat
  | .valveFault _ => 1
  | .supply => 2
  | .mapParity _ => 3
  | .cornerPassive _ => 4
  | .linkLos _ => 5
  | .cycleHoldover => 6
  | .cycleLocal => 7
  | .sensorStuck _ => 8
  | .valveRecovered _ => 9
  | .linkQuality _ => 10
  | .overcurrentLimit _ => 11
  | .orderDropped => 12
  | .restarted => 13
  | .mapSwapped _ => 14

/-- The subject of a pair as it is carried: corner index, 0 for S and 1 for W, 0 for a global kind (R186). -/
def Event.subject : Event → Nat
  | .valveFault c => c.index
  | .mapParity c => c.index
  | .cornerPassive c => c.index
  | .linkLos p => p.code.toNat
  | .sensorStuck c => c.index
  | .valveRecovered c => c.index
  | .linkQuality p => p.code.toNat
  | .overcurrentLimit c => c.index
  | .mapSwapped c => c.index
  | .supply => 0
  | .cycleHoldover => 0
  | .cycleLocal => 0
  | .orderDropped => 0
  | .restarted => 0

/-- The place of a pair in the priority order of R179. -/
def Event.rank (e : Event) : Nat := 4 * e.kindCode + e.subject

/-- A kind is in the set EVENT_MASK names (10.5, note 1). -/
def masked (mask : Nat) (e : Event) : Bool := (mask / 2 ^ (e.kindCode - 1)) % 2 = 1

/-- The attention flag: an entry of a kind that is not masked is pending (R180). -/
def attention (mask : Nat) (events : List Entry) : Bool := events.any (fun x => !masked mask x.event)

/-! ## Compressed counts (R182) -/

/-- The exponent of a compressed count: the least e from the given one, at most 7, with floor(n / 4^e) at most 31. -/
def exponentFrom (n : Nat) : Nat → Nat → Nat
  | 0, e => e
  | k + 1, e => if n / 4 ^ e ≤ 31 then e else exponentFrom n k (e + 1)

/-- Exponent and mantissa of a count (R182). -/
def compress (n : Nat) : Nat × Nat :=
  let e := exponentFrom n 7 0
  if n / 4 ^ e ≤ 31 then (e, n / 4 ^ e) else (7, 31)

/-- The value a compressed count represents (R182). -/
def represented (em : Nat × Nat) : Nat := em.2 * 4 ^ em.1

/-- A compressed count as a byte: exponent in bits 7 to 5, mantissa in bits 4 to 0 (12.4). -/
def compressedByte (n : Nat) : Byte := u8 ((compress n).1 * 32 + (compress n).2)

end Sys2Proof.Machine
end

