-- ==== Sys2Proof/Machine/Arith.lean ====
section
/-! DEFINITION. Machine/Arith.lean: the arithmetic of the manual (spec 00, 2.4 and 2.5). -/

namespace Sys2Proof.Machine

/-- "x divided by d, rounded": the floor of (2x + d) / (2d), ties toward positive infinity (spec 00, 2.4). -/
def divRound (x : Int) (d : Int) : Int := (2 * x + d) / (2 * d)

/-- Truncation toward zero of x / d (spec 00, 2.4). -/
def trunc0 (x d : Int) : Int := Int.tdiv x d

/-- A value clamped to a range. -/
def clampInt (lo hi x : Int) : Int := if x < lo then lo else if hi < x then hi else x

/-- A natural value clamped to a range. -/
def clampNat (lo hi x : Nat) : Nat := if x < lo then lo else if hi < x then hi else x

/-- A sum that stays at a limit. -/
def satAdd (limit x y : Nat) : Nat := min limit (x + y)

/-- The largest index below `n` at which a test holds, 0 where it holds at none. -/
def lastIndex (test : Nat → Bool) : Nat → Nat
  | 0 => 0
  | n + 1 => if test n then n else lastIndex test n

end Sys2Proof.Machine
end

