-- ==== Sys2Proof/Machine/Params.lean ====
section
/-! DEFINITION. Machine/Params.lean: the parameters by id, with their ranges (10.5), and the parameter store read and written
by id (R168, R169). -/

namespace Sys2Proof.Machine

/-- The parameters of 10.5. -/
inductive ParamId
  | velShift | bodyLeak | wheelLeak | holdLimit | stuckCount
  | stuckClear | endZone | endGain | demandMax | bandHyst
  | deadline | substitute | currentLimit | slew | ramp
  | pwmHalf | senseGain | kp | ki | kd
  | dutyMin | dutyMax | sampleMin | tripLevel | tripFilter
  | tripMode | tripRun | openCheck | satRun | leakLevel
  | retryLimit | supplyLowOn | supplyLowOff | supplyHighOn | supplyHighOff
  | losTime | qualOn | qualOff | eventMask | resetFollowsLink
  deriving DecidableEq, Repr

/-- The parameter of an id, if the table has it (10.5). -/
def ParamId.ofCode : Nat → Option ParamId
  | 1 => some .velShift
  | 2 => some .bodyLeak
  | 3 => some .wheelLeak
  | 4 => some .holdLimit
  | 5 => some .stuckCount
  | 6 => some .stuckClear
  | 7 => some .endZone
  | 8 => some .endGain
  | 9 => some .demandMax
  | 10 => some .bandHyst
  | 11 => some .deadline
  | 12 => some .substitute
  | 13 => some .currentLimit
  | 14 => some .slew
  | 15 => some .ramp
  | 16 => some .pwmHalf
  | 17 => some .senseGain
  | 18 => some .kp
  | 19 => some .ki
  | 20 => some .kd
  | 21 => some .dutyMin
  | 22 => some .dutyMax
  | 23 => some .sampleMin
  | 24 => some .tripLevel
  | 25 => some .tripFilter
  | 26 => some .tripMode
  | 27 => some .tripRun
  | 28 => some .openCheck
  | 29 => some .satRun
  | 30 => some .leakLevel
  | 31 => some .retryLimit
  | 32 => some .supplyLowOn
  | 33 => some .supplyLowOff
  | 34 => some .supplyHighOn
  | 35 => some .supplyHighOff
  | 36 => some .losTime
  | 37 => some .qualOn
  | 38 => some .qualOff
  | 39 => some .eventMask
  | 40 => some .resetFollowsLink
  | _ => none

/-- The range of a parameter, its ends included (10.5). -/
def ParamId.range : ParamId → Nat × Nat
  | .velShift => (0, 7)
  | .bodyLeak => (6, 14)
  | .wheelLeak => (6, 14)
  | .holdLimit => (1, 7)
  | .stuckCount => (8, 255)
  | .stuckClear => (4, 64)
  | .endZone => (20000, 150000)
  | .endGain => (0, 2000)
  | .demandMax => (1000, 20000)
  | .bandHyst => (0, 100)
  | .deadline => (100, 450)
  | .substitute => (0, 1)
  | .currentLimit => (100, 3000)
  | .slew => (1, 255)
  | .ramp => (1, 255)
  | .pwmHalf => (500, 4000)
  | .senseGain => (256, 4095)
  | .kp => (0, 65535)
  | .ki => (0, 65535)
  | .kd => (0, 65535)
  | .dutyMin => (0, 32767)
  | .dutyMax => (0, 32767)
  | .sampleMin => (0, 500)
  | .tripLevel => (500, 3500)
  | .tripFilter => (0, 3)
  | .tripMode => (0, 1)
  | .tripRun => (1, 16)
  | .openCheck => (50, 1000)
  | .satRun => (4, 255)
  | .leakLevel => (20, 500)
  | .retryLimit => (1, 15)
  | .supplyLowOn => (6000, 14000)
  | .supplyLowOff => (6000, 14000)
  | .supplyHighOn => (12000, 20000)
  | .supplyHighOff => (12000, 20000)
  | .losTime => (2, 32)
  | .qualOn => (1, 255)
  | .qualOff => (0, 254)
  | .eventMask => (0, 16383)
  | .resetFollowsLink => (0, 1)

/-- The value held for a parameter. -/
def Params.get (p : Params) : ParamId → Nat
  | .velShift => p.velShift
  | .bodyLeak => p.bodyLeak
  | .wheelLeak => p.wheelLeak
  | .holdLimit => p.holdLimit
  | .stuckCount => p.stuckCount
  | .stuckClear => p.stuckClear
  | .endZone => p.endZone
  | .endGain => p.endGain
  | .demandMax => p.demandMax
  | .bandHyst => p.bandHyst
  | .deadline => p.deadline
  | .substitute => p.substitute
  | .currentLimit => p.currentLimit
  | .slew => p.slew
  | .ramp => p.ramp
  | .pwmHalf => p.pwmHalf
  | .senseGain => p.senseGain
  | .kp => p.kp
  | .ki => p.ki
  | .kd => p.kd
  | .dutyMin => p.dutyMin
  | .dutyMax => p.dutyMax
  | .sampleMin => p.sampleMin
  | .tripLevel => p.tripLevel
  | .tripFilter => p.tripFilter
  | .tripMode => p.tripMode
  | .tripRun => p.tripRun
  | .openCheck => p.openCheck
  | .satRun => p.satRun
  | .leakLevel => p.leakLevel
  | .retryLimit => p.retryLimit
  | .supplyLowOn => p.supplyLowOn
  | .supplyLowOff => p.supplyLowOff
  | .supplyHighOn => p.supplyHighOn
  | .supplyHighOff => p.supplyHighOff
  | .losTime => p.losTime
  | .qualOn => p.qualOn
  | .qualOff => p.qualOff
  | .eventMask => p.eventMask
  | .resetFollowsLink => p.resetFollowsLink

/-- The store with the value of one parameter replaced. -/
def Params.set (p : Params) (id : ParamId) (v : Nat) : Params :=
  match id with
  | .velShift => { p with velShift := v }
  | .bodyLeak => { p with bodyLeak := v }
  | .wheelLeak => { p with wheelLeak := v }
  | .holdLimit => { p with holdLimit := v }
  | .stuckCount => { p with stuckCount := v }
  | .stuckClear => { p with stuckClear := v }
  | .endZone => { p with endZone := v }
  | .endGain => { p with endGain := v }
  | .demandMax => { p with demandMax := v }
  | .bandHyst => { p with bandHyst := v }
  | .deadline => { p with deadline := v }
  | .substitute => { p with substitute := v }
  | .currentLimit => { p with currentLimit := v }
  | .slew => { p with slew := v }
  | .ramp => { p with ramp := v }
  | .pwmHalf => { p with pwmHalf := v }
  | .senseGain => { p with senseGain := v }
  | .kp => { p with kp := v }
  | .ki => { p with ki := v }
  | .kd => { p with kd := v }
  | .dutyMin => { p with dutyMin := v }
  | .dutyMax => { p with dutyMax := v }
  | .sampleMin => { p with sampleMin := v }
  | .tripLevel => { p with tripLevel := v }
  | .tripFilter => { p with tripFilter := v }
  | .tripMode => { p with tripMode := v }
  | .tripRun => { p with tripRun := v }
  | .openCheck => { p with openCheck := v }
  | .satRun => { p with satRun := v }
  | .leakLevel => { p with leakLevel := v }
  | .retryLimit => { p with retryLimit := v }
  | .supplyLowOn => { p with supplyLowOn := v }
  | .supplyLowOff => { p with supplyLowOff := v }
  | .supplyHighOn => { p with supplyHighOn := v }
  | .supplyHighOff => { p with supplyHighOff := v }
  | .losTime => { p with losTime := v }
  | .qualOn => { p with qualOn := v }
  | .qualOff => { p with qualOff := v }
  | .eventMask => { p with eventMask := v }
  | .resetFollowsLink => { p with resetFollowsLink := v }

/-- The parameters that may be written only while the part is UNLOADED or STANDBY with every corner OFF (R169, step 2). -/
def ParamId.static : ParamId → Bool
  | .pwmHalf => true
  | .senseGain => true
  | _ => false

/-- The clamps between parameters of R170, after the clamp to the range; `largest` is the largest present setpoint. -/
def Params.bound (p : Params) (largest : Nat) (id : ParamId) (v : Nat) : Nat :=
  match id with
  | .dutyMin => min v p.dutyMax
  | .dutyMax => max v p.dutyMin
  | .qualOff => if v < p.qualOn then v else p.qualOn - 1
  | .qualOn => if p.qualOff < v then v else p.qualOff + 1
  | .supplyLowOff => max v p.supplyLowOn
  | .supplyLowOn => min v p.supplyLowOff
  | .supplyHighOff => min v p.supplyHighOn
  | .supplyHighOn => max v p.supplyHighOff
  | .currentLimit => max v largest
  | _ => v

/-- The value a WRITE_PARAM stores: clamped to the range, then against the parameters it is bound to (R169, R170). -/
def Params.settled (p : Params) (largest : Nat) (id : ParamId) (v : Nat) : Nat :=
  p.bound largest id (clampNat id.range.1 id.range.2 v)

end Sys2Proof.Machine
end

