-- ==== Sys2Proof/Machine/Ops.lean ====
section
/-! DEFINITION. Machine/Ops.lean: the named operations every command is built from: updates of the part's blocks, counting,
raising events (R178), the stored words of a bank (R69), the queues and transmit arbiters (chapter 9), the regulator modes
(R81, R82), and what the corner supervisor does when a reason set changes (R122, R124) or the part becomes loaded (R113). -/

namespace Sys2Proof.Machine

open Sys2Proof

/-- A command acts on the part and leaves the queue as it stands. -/
def State.onPart (f : Part → Part) (s : State) : Host.Outcome State Fault Refusal := .next ⟨f s.part, s.pending⟩

/-- An event that comes about only under its rule's condition: where the condition does not hold the event has not happened,
and the part stays as it is (log entry 3). -/
def onlyWhen (condition : Part → Bool) (f : Part → Part) (p : Part) : Part := if condition p then f p else p

/-! ## One block of the part at a time -/

/-- The corner's part. -/
def Part.corner (p : Part) (c : Corner) : CornerPart := p.corners.get c

def Part.modCorner (c : Corner) (f : CornerPart → CornerPart) (p : Part) : Part :=
  { p with corners := p.corners.set c (f (p.corner c)) }

/-- The port's part. -/
def Part.port (p : Part) : Port → PortPart
  | .s => p.portS
  | .w => p.portW

def Part.modPort (q : Port) (f : PortPart → PortPart) (p : Part) : Part :=
  match q with
  | .s => { p with portS := f p.portS }
  | .w => { p with portW := f p.portW }

def Part.setNow (t : Nat) (p : Part) : Part := { p with now := t }
def Part.modTracker (f : Tracker → Tracker) (p : Part) : Part := { p with tracker := f p.tracker }
def Part.modContext (f : Context → Context) (p : Part) : Part := { p with context := f p.context }
def Part.setControl (x : ControlState) (p : Part) : Part := { p with control := x }
def Part.setSchedule (x : Schedule) (p : Part) : Part := { p with schedule := x }
def Part.setSelection (x : Option Selection) (p : Part) : Part := { p with selection := x }
def Part.modStore (f : Store → Store) (p : Part) : Part := { p with store := f p.store }
def Part.modPwm (f : Pwm → Pwm) (p : Part) : Part := { p with pwm := f p.pwm }
def Part.setSupply (x : Supply) (p : Part) : Part := { p with supply := x }
def Part.setIntervalAt (t : Nat) (p : Part) : Part := { p with intervalAt := t }
def Part.modLink (f : Link → Link) (p : Part) : Part := { p with link := f p.link }
def Part.setSlot (x : Option HeldOrder) (p : Part) : Part := { p with slot := x }
def Part.setParams (x : Params) (p : Part) : Part := { p with params := x }
def Part.setEvents (x : List Entry) (p : Part) : Part := { p with events := x }
def Part.modGlobals (f : GlobalCounters → GlobalCounters) (p : Part) : Part := { p with globals := f p.globals }
def Part.modPins (f : Pins → Pins) (p : Part) : Part := { p with pins := f p.pins }

/-- An operation taken at each corner, in corner order. -/
def forCorners (f : Corner → Part → Part) (p : Part) : Part := f .rr (f .rl (f .fr (f .fl p)))

/-- A command's instant is reached: the clock stands there, or where it already stood beyond it (log entry 1). -/
def Part.reach (t : Nat) (p : Part) : Part := p.setNow (max p.now t)

/-! ## Counters and events (chapter 11) -/

/-- One more, staying at the limit of R181. -/
def inc (n : Nat) : Nat := satAdd Config.counterMax n 1

def countCorner (c : Corner) (f : CornerCounters → CornerCounters) (p : Part) : Part :=
  p.modCorner c (fun k => { k with counters := f k.counters })

def countPort (q : Port) (f : PortCounters → PortCounters) (p : Part) : Part :=
  p.modPort q (fun k => { k with counters := f k.counters })

/-- Raising a pair against the entries in their order: a present pair is repeated, an absent one is set in its place
(R178, R179). -/
def raiseIn (e : Event) (first : Word) (parameter : Byte) : List Entry → List Entry
  | [] => [⟨e, 1, first, parameter⟩]
  | x :: xs =>
    if x.event = e then { x with count := satAdd 255 x.count 1, parameter := parameter } :: xs
    else if e.rank < x.event.rank then ⟨e, 1, first, parameter⟩ :: x :: xs
    else x :: raiseIn e first parameter xs

/-- A block raises an event (R178). A new entry's first cycle is the current cycle number (R177). -/
def raise (e : Event) (parameter : Byte) (p : Part) : Part :=
  p.setEvents (raiseIn e p.tracker.record.number parameter p.events)

/-! ## The stored words of a bank (R58, R69) -/

/-- What an unlisted word reads as: 0, intact (R58, the content after power-on reset). -/
def blankWord : StoredWord := ⟨0, true⟩

/-- The stored word at an index. -/
def memRead : WordMem → Nat → StoredWord
  | [], _ => blankWord
  | (i, w) :: rest, n => if i = n then w else memRead rest n

/-- Storing a word at an index, keeping the canonical form. -/
def memWrite : WordMem → Nat → StoredWord → WordMem
  | [], n, w => if w = blankWord then [] else [(n, w)]
  | (i, x) :: rest, n, w =>
    if i = n then (if w = blankWord then rest else (n, w) :: rest)
    else if n < i then (if w = blankWord then (i, x) :: rest else (n, w) :: (i, x) :: rest)
    else (i, x) :: memWrite rest n w

/-- The canonical form from a least index on: indices rise, lie below 144, and no word listed is blank. -/
def memWfFrom (least : Nat) : WordMem → Bool
  | [] => true
  | (i, w) :: rest => decide (least ≤ i) && decide (i < Config.imageWords) && decide (w ≠ blankWord) && memWfFrom (i + 1) rest

/-- The canonical form of a bank's words. -/
def memWf (m : WordMem) : Bool := memWfFrom 0 m

/-- The value stored at an index, as a number. -/
def Bank.value (b : Bank) (n : Nat) : Nat := (memRead b.words n).value.toNat

/-- Whether the word at an index is intact. -/
def Bank.intact (b : Bank) (n : Nat) : Bool := (memRead b.words n).intact

/-- Whether the words of a run of indices are all intact. -/
def Bank.intactRun (b : Bank) (start count : Nat) : Bool := (List.range count).all (fun k => b.intact (start + k))

def Banks.get (k : Banks) : BankId → Bank
  | .a => k.a
  | .b => k.b

def Banks.modBank (id : BankId) (f : Bank → Bank) (k : Banks) : Banks :=
  match id with
  | .a => { k with a := f k.a }
  | .b => { k with b := f k.b }

/-- The other bank. -/
def BankId.other : BankId → BankId
  | .a => .b
  | .b => .a

/-- The shadow: the bank the pointer does not name, or A when the pointer is NONE (R133). -/
def Banks.shadow (k : Banks) : BankId :=
  match k.active with
  | none => .a
  | some id => BankId.other id

/-- The bank the active pointer names, when it is ACTIVE (R62, R71). -/
def Banks.inUse (k : Banks) : Option BankId :=
  match k.active with
  | none => none
  | some id => if (k.get id).state = .active then some id else none

/-- The active pointer names a CORRUPT bank (R73). -/
def Banks.corrupt (k : Banks) : Bool :=
  match k.active with
  | none => false
  | some id => decide ((k.get id).state = .corrupt)

def CornerPart.modBanks (f : Banks → Banks) (k : CornerPart) : CornerPart := { k with banks := f k.banks }

/-! ## Transmitters and queues (chapter 9) -/

/-- The ticks a frame keeps its transmitter: its bytes and two byte times of idle line (R153). -/
def sendTicks (f : Frame) : Nat := (f.payload.length + 8) * Config.byteTicks

def beginSending (q : Port) (f : Frame) (p : Part) : Part :=
  p.modPort q (fun k => { k with sending := some ⟨f, p.now + sendTicks f⟩ })

/-- The Port S arbiter, when the transmitter is IDLE: the oldest reply, the head of the chassis-bound queue, the report (R153). -/
def arbitrateS (p : Part) : Part :=
  if p.portS.sending.isSome then p
  else match p.link.replies, p.link.chassisBound, p.link.report with
    | f :: rest, _, _ => beginSending .s f (p.modLink (fun k => { k with replies := rest }))
    | [], f :: rest, _ => beginSending .s f (p.modLink (fun k => { k with chassisBound := rest }))
    | [], [], some f => beginSending .s f (p.modLink (fun k => { k with report := none }))
    | [], [], none => p

/-- The Port W arbiter, when the transmitter is IDLE: the pending substitute, the head of the wheel-bound queue (R156). -/
def arbitrateW (p : Part) : Part :=
  if p.portW.sending.isSome then p
  else match p.link.substitute, p.link.wheelBound with
    | some f, _ => beginSending .w f (p.modLink (fun k => { k with substitute := none }))
    | none, f :: rest => beginSending .w f (p.modLink (fun k => { k with wheelBound := rest }))
    | none, [] => p

/-- A frame is placed in the wheel-bound queue, or dropped and counted for Port W (R152). -/
def placeWheelBound (f : Frame) (p : Part) : Part :=
  if p.link.wheelBound.length < Config.queueDepth then
    arbitrateW (p.modLink (fun k => { k with wheelBound := k.wheelBound ++ [f] }))
  else countPort .w (fun k => { k with forwardDrop := inc k.forwardDrop }) p

/-- A frame is placed in the chassis-bound queue, or dropped and counted for Port S (R152). -/
def placeChassisBound (f : Frame) (p : Part) : Part :=
  if p.link.chassisBound.length < Config.queueDepth then
    arbitrateS (p.modLink (fun k => { k with chassisBound := k.chassisBound ++ [f] }))
  else countPort .s (fun k => { k with forwardDrop := inc k.forwardDrop }) p

/-- A reply is placed in the reply queue (R154, R165). -/
def placeReply (f : Frame) (p : Part) : Part :=
  arbitrateS (p.modLink (fun k => { k with replies := k.replies ++ [f] }))

/-- A report is placed in the report slot; one it replaces unsent is counted (R155). -/
def placeReport (f : Frame) (p : Part) : Part :=
  arbitrateS ((if p.link.report.isSome then p.modGlobals (fun g => { g with reportOverrun := inc g.reportOverrun }) else p).modLink
    (fun k => { k with report := some f }))

/-- A substitute CYC is set pending, replacing one not yet sent (R8, R156). -/
def setSubstitute (f : Frame) (p : Part) : Part :=
  arbitrateW (p.modLink (fun k => { k with substitute := some f }))

/-- The places of the reply queue neither occupied nor reserved; the reservation stands exactly while the slot is HELD
(R154, R163). -/
def availablePlaces (p : Part) : Nat :=
  Config.replyPlaces - p.link.replies.length - (if p.slot.isSome then 1 else 0)

/-- The part's own address (spec 00, 2.1). -/
def Part.address (p : Part) : Byte := Config.ownAddress p.straps

/-! ## Regulator modes (R81 to R83) -/

/-- The regulator's mode: DISABLED until the enable takes effect (R82, R94). -/
def Regulator.mode (r : Regulator) : RegMode := if r.enabled then r.wanted else .disabled

/-- A change to DISABLED; the gate turns off, which restarts the comparator's filter time (R82, R83, R88). -/
def Regulator.disable (r : Regulator) : Regulator :=
  { r with
    wanted := .disabled, enabled := false, setpoint := 0, target := 0, duty := 0, e1 := 0, e2 := 0, u := 0, overRun := 0 }

/-- A change to RAMPING: an enabled driver goes on from where it stands, and the target becomes 0 (R81, R83). -/
def Regulator.ramp (r : Regulator) : Regulator := { r with wanted := .ramping, target := 0 }

/-- A change to TRACKING: an enabled driver goes on from where it stands (R81). -/
def Regulator.track (r : Regulator) : Regulator := { r with wanted := .tracking }

/-- A calibration is requested; its driver is disabled (R79). -/
def Regulator.calibrate (r : Regulator) : Regulator := { r.disable with calibration := some ⟨false, 0, 0⟩ }

/-- A calibration in progress ends without result (R80). -/
def Regulator.endCalibration (r : Regulator) : Regulator := { r with calibration := none }

/-! ## Episodes (R105) -/

/-- The attempts of the current round join the record's total. -/
def FaultRecord.tally (r : FaultRecord) : FaultRecord := { r with total := satAdd Config.counterMax r.total r.attempts }

/-- An episode in progress is abandoned; without one, nothing changes (R105). -/
def Diagnosis.abandon (d : Diagnosis) : Diagnosis :=
  if d.episode.isSome then
    { d with episode := none, record := { d.record.tally with kind := .noFault, round := 0, attempts := 0 } }
  else d

/-! ## Motion records (R33) -/

def unprime (c : Corner) (p : Part) : Part := p.modCorner c (fun k => { k with motion := .unprimed })

/-! ## The corner supervisor (7.4, 7.5) -/

/-- A corner enters OFF: the regulator is disabled, a calibration ends, an episode is abandoned (R80, R105, R118). -/
def CornerPart.turnOff (k : CornerPart) : CornerPart :=
  { k with state := .off, reg := k.reg.disable.endCalibration, diag := k.diag.abandon }

/-- An entry to PASSIVE (R122). -/
def enterPassive (c : Corner) (p : Part) : Part :=
  raise (.cornerPassive c) (p.corner c).reasons.byte
    (p.modCorner c (fun k => { k with
      state := .passive false
      reg := k.reg.ramp.endCalibration
      diag := k.diag.abandon
      counters := { k.counters with passiveEntry := inc k.counters.passiveEntry } }))

/-- A return from PASSIVE to CONTROL (R124). -/
def returnToControl (c : Corner) (p : Part) : Part :=
  p.modCorner c (fun k => { k with state := .control, reg := k.reg.track })

/-- What the supervisor does at the event of a reason set's change: in ENGAGED, a corner regulating or on the path of
retries enters PASSIVE when the set is not empty, and a PASSIVE corner returns when it is (R122, R124). -/
def supervise (c : Corner) (p : Part) : Part :=
  match p.control, (p.corner c).state with
  | .engaged, .control => if (p.corner c).reasons.none then p else enterPassive c p
  | .engaged, .suspended => if (p.corner c).reasons.none then p else enterPassive c p
  | .engaged, .calibrating .recal _ => if (p.corner c).reasons.none then p else enterPassive c p
  | .engaged, .passive _ => if (p.corner c).reasons.none then returnToControl c p else p
  | _, _ => p

/-- A reason is added to or removed from a corner, and the supervisor acts on the set at that event (R121). -/
def putReason (which : Reason) (present : Bool) (c : Corner) (p : Part) : Part :=
  supervise c (p.modCorner c (fun k => { k with reasons := k.reasons.put which present }))

/-! ## Loadedness (R113) -/

def Schedule.get (s : Schedule) : Mode → Bands
  | .comfort => s.comfort
  | .normal => s.normal
  | .sport => s.sport

def Schedule.set (s : Schedule) (m : Mode) (b : Bands) : Schedule :=
  match m with
  | .comfort => { s with comfort := b }
  | .normal => { s with normal := b }
  | .sport => { s with sport := b }

/-- The schedule is complete when band 0 of each mode is present (R43). -/
def Schedule.complete (s : Schedule) : Bool := s.comfort.b0.present && s.normal.b0.present && s.sport.b0.present

/-- The part is loaded: every corner's pointer names an ACTIVE bank and the schedule is complete (R113). -/
def Part.loaded (p : Part) : Bool := p.corners.toList.all (fun k => k.banks.inUse.isSome) && p.schedule.complete

/-- The control state enters UNLOADED: every motion record is unprimed (R22, R113). -/
def enterUnloaded (p : Part) : Part := forCorners unprime (p.setControl .unloaded)

/-- In UNLOADED and STANDBY the control state follows the loaded condition (R113). -/
def judgeLoaded (p : Part) : Part :=
  match p.control with
  | .unloaded => if p.loaded then p.setControl .standby else p
  | .standby => if p.loaded then p else enterUnloaded p
  | _ => p

/-- The control state for which no dampers are in the part's hands, by the loaded condition (R117, R119, R131). -/
def settleUnengaged (p : Part) : Part := if p.loaded then p.setControl .standby else enterUnloaded p

/-- RELEASING ends at the instant every corner is in OFF or FAULT (R119). -/
def judgeReleased (p : Part) : Part :=
  if p.control = .releasing ∧ p.corners.toList.all (fun k => k.state = .off || k.state = .fault) then settleUnengaged p else p

/-! ## The gate and the comparator (R76, R78, R88) -/

/-- The measured current of a raw reading (R78). -/
def measured (offset gain raw : Nat) : Int := divRound (((raw : Int) - offset) * gain) 1024

/-- The corner's measured current of a raw reading, by the offset and gain in force (R78). -/
def Part.currentOf (p : Part) (c : Corner) (raw : BitVec 12) : Int :=
  measured (p.corner c).reg.offset p.params.senseGain raw.toNat

/-- The gate of the corner is on: its driver is enabled, no trip has forced it off, and the counter is below C (R76, R82, R88). -/
def Regulator.gate (r : Regulator) (w : Pwm) : Bool := r.enabled && !r.tripped && decide (w.count < r.compare)

/-- The level of a corner's gate output (R76). -/
def Part.gate (p : Part) (c : Corner) : Bool := (p.corner c).reg.gate p.pwm

/-- How many of the 2C − 1 ticks of the period's on-interval have begun by this position of the counter (R76). -/
def Pwm.onTicks (w : Pwm) (compare : Nat) : Nat :=
  if w.up then min (compare + w.count) (2 * compare - 1) else compare - w.count

/-- A raw reading of the sense input stands above the trip level of the period (R88; log entry 28). -/
def Part.over (p : Part) (c : Corner) (raw : BitVec 12) : Bool := decide ((p.pwm.tripLevel : Int) < p.currentOf c raw)

/-- The comparator's run of ticks while the gate is on, 0 while it is off (R88). -/
def Regulator.runNow (r : Regulator) (w : Pwm) : Nat := if r.gate w then r.overRun else 0

/-- The filter follows the counter from one position of the period to a later one, the sense input standing where it is: the
on-ticks between them join the run, which starts again where the current is not above the level or the gate is off (R88). -/
def Regulator.follow (r : Regulator) (w w' : Pwm) (above : Bool) : Regulator :=
  { r with overRun := if above && r.gate w' then r.runNow w + (w'.onTicks r.compare - w.onTicks r.compare) else 0 }

/-- The counter goes on to a later position of its period, and every comparator follows it (R75, R88). -/
def Part.pass (w : Pwm) (p : Part) : Part :=
  { p with
    pwm := w
    corners := .ofCorners (fun c =>
      { p.corner c with reg := (p.corner c).reg.follow p.pwm w (p.over c (p.pins.sense.get c)) }) }

/-- The filter time in ticks (R88). -/
def filterTicks : Nat → Nat
  | 0 => 0
  | 1 => 5
  | 2 => 10
  | _ => 20

/-- The comparator's run has passed the filter time with the gate on: the trip is due at the present tick (R88). -/
def Part.tripDue (p : Part) (c : Corner) : Bool :=
  p.gate c && decide (filterTicks p.pwm.tripFilter < (p.corner c).reg.overRun)

/-! ## Time passes -/

/-- The PWM counter steps by one tick: down to 0, then up to P, where it stands until the period start is taken (R75). -/
def Pwm.tick (w : Pwm) : Pwm :=
  if w.up then (if w.count < w.half then { w with count := w.count + 1 } else w)
  else if w.count ≤ 1 then { w with count := 0, up := true } else { w with count := w.count - 1 }

/-- One tick of the timebase passes. -/
def Part.tick (p : Part) : Part := (p.setNow (p.now + 1)).pass p.pwm.tick

/-- The instant of a timer, when it has come. -/
def due (at? : Option Nat) (now : Nat) : Bool :=
  match at? with
  | none => false
  | some t => decide (t ≤ now)

/-- The samples that fall at a point of the period, each with the level its sense pin holds (R77). -/
def Part.samplesAt (p : Part) (point : SamplePoint) : List Instr :=
  (Corner.all.filter (fun c => decide ((p.corner c).reg.point = point) && !(p.corner c).reg.sampled)).map
    (fun c => .currentSample c (p.pins.sense.get c))

/-- The comparator trips that fall due, each with the level its sense pin holds (R88). -/
def Part.tripsDue (p : Part) : List Instr :=
  (Corner.all.filter p.tripDue).map (fun c => .overcurrentTrip c (p.pins.sense.get c) 0)

/-- The timed events that fall due at this tick, in the order the model takes them (log entry 2). -/
def Part.dueEvents (p : Part) : List Instr :=
  (if due (p.portS.sending.map (·.doneAt)) p.now then [.transmissionComplete .s] else []) ++
  (if due (p.portW.sending.map (·.doneAt)) p.now then [.transmissionComplete .w] else []) ++
  (if due p.tracker.deadlineAt p.now then [.deadlineExpiry] else []) ++
  (if due p.tracker.missAt p.now then [.missTimerExpiry] else []) ++
  (if p.intervalAt ≤ p.now then [.supervisionIntervalEnd] else []) ++
  p.tripsDue ++
  (if p.pwm.count = 0 then p.samplesAt .valley else []) ++
  (if p.pwm.up ∧ p.pwm.count = p.pwm.half then p.samplesAt .peak ++ [.pwmPeriodStart p.pins.supplyMv] else [])

/-- What a step does when no command waits: one tick, after which the events then due wait in the queue. -/
def State.idle (s : State) : State := ⟨s.part.tick, s.part.tick.dueEvents⟩

end Sys2Proof.Machine
end

