-- ==== Sys2Proof/Machine/Operands.lean ====
section
/-! DEFINITION. Machine/Operands.lean: the arguments of orders, the answers and REPLY frames (R165, R190), and the frames the
part builds from its state: substitute CYC (R8), REPORT (R184, R189) and the QUERY_STATUS snapshots (R167, R190). -/

namespace Sys2Proof.Machine

open Sys2Proof

/-! ## Argument fields -/

/-- A 16-bit argument as a number. -/
def nat16 (hi lo : Byte) : Nat := (wordOf hi lo).toNat

/-- A 32-bit argument as a number. -/
def nat32 (b3 b2 b1 b0 : Byte) : Nat := (word32Of b3 b2 b1 b0).toNat

/-- The words of a MAP_DATA, two bytes each (R191); a byte left over makes no word. -/
def wordsOf : List Byte → List Word
  | hi :: lo :: rest => wordOf hi lo :: wordsOf rest
  | _ => []

/-! ## Answers (R165) -/

/-- What an order comes to: a reply at once, or a reply owed while the order holds the slot (R164). -/
inductive Answer
  | reply (result reason : Byte) (data : List Byte)
  | held
  deriving DecidableEq, Repr

/-- Results and reasons of R190. -/
def Answer.done (data : List Byte) : Answer := .reply 0 0 data
def Answer.clamped (data : List Byte) : Answer := .reply 1 0 data
def Answer.busy (data : List Byte) : Answer := .reply 2 0 data
def Answer.refusedState (data : List Byte) : Answer := .reply 3 1 data
def Answer.refusedArgument (data : List Byte) : Answer := .reply 3 2 data
def Answer.refusedSequence (data : List Byte) : Answer := .reply 3 3 data
def Answer.refusedNoCycle : Answer := .reply 3 4 []
def Answer.refusedUnknown : Answer := .reply 3 5 []
def Answer.invalidIncomplete (data : List Byte) : Answer := .reply 4 1 data

/-- The reason code after INVALID of an outcome that is not VALID (R190). -/
def MapOutcome.invalidReason : MapOutcome → Byte
  | .check => 2
  | .axis => 3
  | .range => 4
  | .monotone => 5
  | .parity => 6
  | .none => 0
  | .valid => 0

/-- The REPLY frame that answers an order (R165, R190). -/
def replyFrame (own dst tag code result reason : Byte) (data : List Byte) : Frame :=
  ⟨dst, own, Config.kindReply, tag :: code :: result :: reason :: data⟩

/-- What an order does once it is taken: its effect and its answer. -/
abbrev Handler := List Byte → Part → Part × Answer

/-! ## Frames the part builds -/

/-- The substitute CYC of a new cycle number: offsets 0, SUBSTITUTED set (R8). -/
def substituteFrame (p : Part) (number : Word) : Frame :=
  ⟨Config.broadcast, p.address, Config.kindCyc,
    CycPayload.bytes ⟨number, BitVec.ofNat 16 p.context.speed, p.context.mode.code, .fill 0, 1⟩⟩

/-- The mean current of a corner over the cycle: the sum divided by the count, rounded, 0 without samples (R92). -/
def Regulator.mean (r : Regulator) : Int := if r.meanCount = 0 then 0 else divRound r.meanSum r.meanCount

/-- How the report shows a corner's computation (R15, R184): FRESH, HELD or NONE. -/
def computationCode (computed fresh : Bool) : Byte := if fresh then 1 else if computed then 2 else 0

/-- A corner's eleven bytes of the report (R189). -/
def reportCorner (k : CornerPart) (computed fresh : Bool) : List Byte :=
  [k.state.code, k.reasons.byte, k.stuck.byte ||| (computationCode computed fresh <<< 4)] ++ s16 k.motion.vf ++
    u16 k.lastDemand ++ u16 k.lastTarget ++ s16 k.reg.mean

/-- The total LATE count (R183). -/
def totalLate (p : Part) : Nat :=
  satAdd Config.counterMax (p.corners.fl.counters.late + p.corners.fr.counters.late)
    (p.corners.rl.counters.late + p.corners.rr.counters.late)

/-- The part's eleven bytes of the report (R189). -/
def reportHead (p : Part) : List Byte :=
  wordBytes p.tracker.record.number ++
    [p.tracker.record.kind.code, p.control.code, p.tracker.state.code, p.context.source.code,
      maskByte [attention p.params.eventMask p.events, p.portS.alarm, p.portW.alarm], u8 p.events.length,
      compressedByte p.portS.counters.check, compressedByte p.portW.counters.check, compressedByte (totalLate p)]

/-- The REPORT of the cycle being closed, from the record and the state of the part at the closure (R184). -/
def reportFrame (p : Part) : Frame :=
  let r := p.tracker.record
  ⟨Config.chassisAddress, p.address, Config.kindReport,
    reportHead p ++ reportCorner p.corners.fl r.computed.fl r.fresh.fl ++ reportCorner p.corners.fr r.computed.fr r.fresh.fr ++
      reportCorner p.corners.rl r.computed.rl r.fresh.rl ++ reportCorner p.corners.rr r.computed.rr r.fresh.rr⟩

/-! ## Status snapshots (R167, R190) -/

/-- The 26 bytes of view PART. -/
def statusPart (p : Part) : List Byte :=
  [p.control.code, p.tracker.state.code] ++ wordBytes p.tracker.record.number ++ [u8 p.tracker.runCount] ++
    u16 p.context.speed ++ [p.context.mode.code] ++ s16 p.context.offsets.fl ++ s16 p.context.offsets.fr ++
    s16 p.context.offsets.rl ++ s16 p.context.offsets.rr ++ [p.context.source.code] ++
    (match p.selection with
      | none => [0xFF, 0xFF]
      | some x => [u8 x.band, x.mode.code]) ++
    [maskByte [p.supply.low, p.supply.high], maskByte [p.portS.los, p.portS.alarm, p.portW.los, p.portW.alarm],
      u8 p.link.wheelBound.length, u8 p.link.chassisBound.length, cornerMask p.store.group, u8 p.store.pointer,
      u8 p.events.length]

/-- The detail byte of view CORNER: purpose RECAL, calibrated, ramp complete (R190). -/
def CornerState.detail : CornerState → Byte
  | .calibrating purpose calibrated => maskByte [decide (purpose = .recal), calibrated]
  | .passive rampComplete => maskByte [false, false, rampComplete]
  | _ => 0

/-- The regulator mode code of R186. -/
def Regulator.modeCode (r : Regulator) : Byte :=
  match r.mode with
  | .disabled => if r.calibration.isSome then 1 else 0
  | .tracking => 2
  | .ramping => 3

/-- The proving window as carried, 0 where it is absent (R186, R190). -/
def windowByte : Option Episode → Byte
  | some ⟨_, some w⟩ => u8 w
  | _ => 0

/-- The 28 bytes of view CORNER. -/
def statusCorner (c : Corner) (k : CornerPart) : List Byte :=
  let f := k.diag.record
  [u8 c.index, k.state.code, k.state.detail, k.reasons.byte, k.stuck.byte, f.kind.code, u8 f.round, u8 f.attempts] ++
    u32 f.total ++ [flag f.recovered] ++ wordBytes f.firstCycle ++ [flag k.diag.episode.isSome, windowByte k.diag.episode] ++
    [k.reg.modeCode] ++ u16 k.reg.setpoint ++ u16 k.reg.duty ++ u16 k.reg.offset ++
    [k.banks.a.state.code, k.banks.b.state.code, pointerCode k.banks.active, flag k.banks.swapPending]

/-! ## Counter groups (R174, R181) -/

def PortCounters.values (k : PortCounters) : List Nat := [k.goodFrames, k.check, k.length, k.misaddressed, k.forwardDrop]

def CornerCounters.values (k : CornerCounters) : List Nat :=
  [k.fresh, k.late, k.duplicate, k.staleTag, k.held, k.heightClamp, k.passiveEntry, k.overcurrent, k.retry, k.badSample]

def GlobalCounters.values (k : GlobalCounters) : List Nat :=
  [k.unsynced, k.earlyCycle, k.contextClamp, k.reportOverrun, k.orderDropped, k.substitutes]

/-- The groups of READ_COUNTERS (R174). -/
inductive CounterGroup
  | port (q : Port)
  | corner (c : Corner)
  | whole
  deriving DecidableEq, Repr

/-- The group of a value carried (R190). -/
def CounterGroup.ofCode : Nat → Option CounterGroup
  | 0 => some (.port .s)
  | 1 => some (.port .w)
  | 2 => some (.corner .fl)
  | 3 => some (.corner .fr)
  | 4 => some (.corner .rl)
  | 5 => some (.corner .rr)
  | 6 => some .whole
  | _ => none

def CounterGroup.values (p : Part) : CounterGroup → List Nat
  | .port q => (p.port q).counters.values
  | .corner c => (p.corner c).counters.values
  | .whole => p.globals.values

def CounterGroup.clear (p : Part) : CounterGroup → Part
  | .port q => countPort q (fun _ => .zero) p
  | .corner c => countCorner c (fun _ => .zero) p
  | .whole => p.modGlobals (fun _ => .zero)

end Sys2Proof.Machine
end

