-- ==== Sys2Proof/Machine/Demand.lean ====
section
/-! DEFINITION. Machine/Demand.lean: the demand calculator (chapter 3): the gain schedule with GAIN_WRITE and GAIN_CLEAR, the
band selection, and the five demand terms. -/

namespace Sys2Proof.Machine

open Sys2Proof

/-! ## The schedule (R42 to R46) -/

def Bands.get (b : Bands) : Nat → BandEntry
  | 0 => b.b0
  | 1 => b.b1
  | 2 => b.b2
  | 3 => b.b3
  | 4 => b.b4
  | 5 => b.b5
  | 6 => b.b6
  | 7 => b.b7
  | _ => .absent

def Bands.set (b : Bands) (n : Nat) (x : BandEntry) : Bands :=
  match n with
  | 0 => { b with b0 := x }
  | 1 => { b with b1 := x }
  | 2 => { b with b2 := x }
  | 3 => { b with b3 := x }
  | 4 => { b with b4 := x }
  | 5 => { b with b5 := x }
  | 6 => { b with b6 := x }
  | 7 => { b with b7 := x }
  | _ => b

/-- The number of present bands of a mode (R45). -/
def Bands.presentCount (b : Bands) : Nat := ((List.range 8).filter (fun k => (b.get k).present)).length

/-- The tests of R44 on the addressed mode's bands: the entry may be written at this band. -/
def Bands.admits (b : Bands) (band : Nat) (x : BandEntry) : Bool :=
  decide (band ≤ 7) && decide (x.cBase ≤ 20000) && decide (x.cSky ≤ 20000) && decide (x.cGnd ≤ 20000) &&
    decide (x.bound ≤ 3000) && (decide (band ≠ 0) || decide (x.bound = 0)) &&
    (decide (band = 0) || ((b.get (band - 1)).present && decide ((b.get (band - 1)).bound < x.bound))) &&
    (decide (band = 7) || !(b.get (band + 1)).present || decide (x.bound < (b.get (band + 1)).bound))

/-- GAIN_WRITE (R44, R45). -/
def gainWrite : Handler
  | [mode, band, n1, n0, b1, b0, s1, s0, g1, g0], p =>
    match Mode.ofCode mode.toNat with
    | none => (p, .refusedArgument [])
    | some m =>
      let x : BandEntry := ⟨true, nat16 n1 n0, nat16 b1 b0, nat16 s1 s0, nat16 g1 g0⟩
      let bands := p.schedule.get m
      if bands.admits band.toNat x then
        (judgeLoaded (p.setSchedule (p.schedule.set m (bands.set band.toNat x))),
          .done [mode, band, u8 (bands.set band.toNat x).presentCount])
      else (p, .refusedArgument [])
  | _, p => (p, .refusedArgument [])

/-- GAIN_CLEAR (R46). -/
def gainClear : Handler
  | [mode], p =>
    match Mode.ofCode mode.toNat with
    | none => (p, .refusedArgument [])
    | some m =>
      match p.control with
      | .engaging => (p, .refusedState [])
      | .engaged => (p, .refusedState [])
      | _ => (judgeLoaded ((p.setSchedule (p.schedule.set m .absent)).setSelection none), .done [mode, 0])
  | _, p => (p, .refusedArgument [])

/-! ## Band selection (R47 to R50) -/

/-- The candidate: the highest present band whose bound is at most the speed (R48). -/
def Bands.candidate (b : Bands) (speed : Nat) : Nat :=
  lastIndex (fun k => (b.get k).present && decide ((b.get k).bound ≤ speed)) 8

/-- The selection made at a demand computation (R48 to R50). -/
def selectBand (b : Bands) (mode : Mode) (speed hyst : Nat) : Option Selection → Selection
  | none => ⟨b.candidate speed, mode⟩
  | some x =>
    if x.mode ≠ mode then ⟨b.candidate speed, mode⟩
    else if x.band < b.candidate speed then ⟨b.candidate speed, mode⟩
    else if b.candidate speed < x.band ∧ speed + hyst < (b.get x.band).bound then ⟨b.candidate speed, mode⟩
    else x

/-- The selection of the part at this instant. -/
def Part.selectBand (p : Part) : Selection :=
  Machine.selectBand (p.schedule.get p.context.mode) p.context.mode p.context.speed p.params.bandHyst p.selection

/-! ## The terms (R52 to R56) -/

/-- The base term B (R52). -/
def baseTerm (cBase : Nat) (vf : Int) : Int := divRound (cBase * |vf|) 1000

/-- The skyhook term S (R53). -/
def skyTerm (cSky : Nat) (usable : Bool) (vb vf : Int) : Int :=
  if usable ∧ 0 < vb * vf then divRound (cSky * |vb|) 1000000 else 0

/-- The groundhook term G (R54). -/
def groundTerm (cGnd : Nat) (usable : Bool) (vw vf : Int) : Int :=
  if usable ∧ vw * vf < 0 then divRound (cGnd * |vw|) 1000000 else 0

/-- The end-stop term E (R55). -/
def endStopTerm (gain zone : Nat) (h vf : Int) : Int :=
  if (zone : Int) < |h| ∧ ((0 < h ∧ 0 < vf) ∨ (h < 0 ∧ vf < 0)) then trunc0 (gain * (|h| - zone)) 1000 else 0

/-- The demand D: the sum of the terms and the offset, clamped to 0 to DEMAND_MAX (R56). -/
def demandOf (params : Params) (x : BandEntry) (m : Motion) (skyUsable groundUsable : Bool) (offset : Int) : Nat :=
  (clampInt 0 params.demandMax
    (baseTerm x.cBase m.vf + skyTerm x.cSky skyUsable m.vb m.vf + groundTerm x.cGnd groundUsable m.vw m.vf +
      endStopTerm params.endGain params.endZone m.hPrev m.vf + offset)).toNat

end Sys2Proof.Machine
end

