-- ==== Sys2Proof/Machine/MapStore.lean ====
section
/-! DEFINITION. Machine/MapStore.lean: the map store (chapters 4 and 8): interpolation, parity failures, validation and its
reading, the swap, and the orders MAP_OPEN, MAP_DATA, MAP_CLOSE, MAP_SWAP and MAP_READ. -/

namespace Sys2Proof.Machine

open Sys2Proof

/-! ## The image (R58 to R61) -/

/-- The velocity axis point v[k], word k (R58). -/
def Bank.velocityAxis (b : Bank) (k : Nat) : Nat := b.value k

/-- The demand axis point d[k], word 8 + k (R58). -/
def Bank.demandAxis (b : Bank) (k : Nat) : Nat := b.value (8 + k)

/-- The word of cell [i][j] in the half that starts at word `half`: 16 for rebound, 80 for compression (R58). -/
def cellIndex (half i j : Nat) : Nat := half + 8 * i + j

def Bank.cell (b : Bank) (half i j : Nat) : Nat := b.value (cellIndex half i j)

/-- The positional check over the 144 words of an image, given by their values (R59). -/
def positionalCheck (value : Nat → Nat) : Nat :=
  ((List.range Config.imageWords).foldl (fun acc n => acc + (n + 1) * value n) 0) % 65536

/-- The axis conditions of R60 for one axis: it starts at 0, rises strictly, and ends at or below a limit. -/
def axisValid (axis : Nat → Nat) (limit : Nat) : Bool :=
  decide (axis 0 = 0) && (List.range 7).all (fun k => decide (axis k < axis (k + 1))) && decide (axis 7 ≤ limit)

/-- Every cell of both halves is at most the limit (R60, RANGE). -/
def cellsWithin (value : Nat → Nat) (limit : Nat) : Bool := (List.range 128).all (fun k => decide (value (16 + k) ≤ limit))

/-- Every row of both halves rises along the demand axis (R60, MONOTONE): the sixteen rows stand from word 16 on. -/
def rowsMonotone (value : Nat → Nat) : Bool :=
  (List.range 16).all (fun r => (List.range 7).all (fun j => decide (value (16 + 8 * r + j) ≤ value (16 + 8 * r + j + 1))))

/-- The judgment of an image read without a parity failure, against the check value supplied (R60, tests 2 to 5; R61). -/
def judgeImage (value : Nat → Nat) (check : Option Word) (limit : Nat) : MapOutcome :=
  if check ≠ some (BitVec.ofNat 16 (positionalCheck value)) then .check
  else if !(axisValid value 8000 && axisValid (fun k => value (8 + k)) 20000) then .axis
  else if !cellsWithin value limit then .range
  else if !rowsMonotone value then .monotone
  else .valid

/-! ## Interpolation (R62 to R68) -/

/-- The first word of the half chosen by the sign of v_f (R63). -/
def halfOf (vf : Int) : Nat := if 0 ≤ vf then 16 else 80

/-- The index of an input on an axis: the largest from 0 to 6 whose point is at most the input (R65). -/
def segment (axis : Nat → Nat) (x : Nat) : Nat := lastIndex (fun k => decide (axis k ≤ x)) 7

/-- The fraction of an input within its segment, 0 to 256 (R65). -/
def fraction (axis : Nat → Nat) (x : Nat) : Nat :=
  (x - axis (segment axis x)) * 256 / (axis (segment axis x + 1) - axis (segment axis x))

/-- A move from one value toward another by a fraction of 256 (R66, R67). -/
def between (x y : Int) (f : Nat) : Int := x + divRound ((y - x) * f) 256

/-- The interpolation inputs, clamped to the ends of their axes (R64). -/
def Bank.inputX (b : Bank) (vf : Int) : Nat := min vf.natAbs (b.velocityAxis 7)
def Bank.inputY (b : Bank) (demand : Nat) : Nat := min demand (b.demandAxis 7)

/-- The interpolated current I (R66, R67). -/
def Bank.interpolate (b : Bank) (vf : Int) (demand : Nat) : Int :=
  let i := segment b.velocityAxis (b.inputX vf)
  let j := segment b.demandAxis (b.inputY demand)
  let fx := fraction b.velocityAxis (b.inputX vf)
  let fy := fraction b.demandAxis (b.inputY demand)
  let half := halfOf vf
  let row (i : Nat) : Int := between (b.cell half i j) (b.cell half i (j + 1)) fy
  between (row i) (row (i + 1)) fx

/-- The words an interpolation reads are intact: the axes and the four cells (R69, R70). -/
def Bank.interpolationIntact (b : Bank) (vf : Int) (demand : Nat) : Bool :=
  let i := segment b.velocityAxis (b.inputX vf)
  let j := segment b.demandAxis (b.inputY demand)
  let half := halfOf vf
  b.intactRun 0 16 && b.intact (cellIndex half i j) && b.intact (cellIndex half i (j + 1)) &&
    b.intact (cellIndex half (i + 1) j) && b.intact (cellIndex half (i + 1) (j + 1))

/-! ## Parity failures of an active bank (R70, R71, R72) -/

/-- A parity failure is found in the ACTIVE bank of a corner: the bank becomes CORRUPT, the corner gains MAP, MAP_PARITY is
raised and the supervisor acts (R70, effects 1 to 3 and 5); the control state follows the loaded condition (R113). -/
def corruptActive (c : Corner) (id : BankId) (p : Part) : Part :=
  judgeLoaded (supervise c (raise (.mapParity c) id.code (p.modCorner c (fun k =>
    { k.modBanks (Banks.modBank id (fun b => { b with state := .corrupt })) with reasons := k.reasons.put .map true }))))

/-- The scrub at a corner: the word at the scrub pointer of its ACTIVE bank is read (R71). -/
def scrubCorner (c : Corner) (p : Part) : Part :=
  match (p.corner c).banks.inUse with
  | none => p
  | some id => if ((p.corner c).banks.get id).intact p.store.scrub then p else corruptActive c id p

/-- The scrub at a period start, its pointer then advancing (R71). -/
def scrub (p : Part) : Part :=
  (forCorners scrubCorner p).modStore (fun s => { s with scrub := if s.scrub + 1 < Config.imageWords then s.scrub + 1 else 0 })

/-! ## The swap (R143) -/

/-- The banks after a swap takes effect: the shadow ACTIVE and named, the bank named before READY, or EMPTY if CORRUPT, the
mark clear (R143, steps 1 to 4). -/
def Banks.swap (k : Banks) : Banks :=
  let retired : Banks :=
    match k.active with
    | none => k
    | some id => k.modBank id (fun b =>
        if b.state = .active then { b with state := .ready } else if b.state = .corrupt then { b with state := .empty } else b)
  { retired.modBank k.shadow (fun b => { b with state := .active }) with active := some k.shadow, swapPending := false }

/-- A swap takes effect at a corner (R143). -/
def swapEffect (c : Corner) (p : Part) : Part :=
  judgeLoaded (raise (.mapSwapped c) (p.corner c).banks.shadow.code
    (putReason .map false c (p.modCorner c (CornerPart.modBanks Banks.swap))))

/-- At a cycle start, a pending swap takes effect (R144). -/
def swapIfPending (c : Corner) (p : Part) : Part := if (p.corner c).banks.swapPending then swapEffect c p else p

/-! ## MAP_OPEN (R135, R136) -/

/-- The corners of a set that meet a test. -/
def whichCorners (q : Quad Bool) (test : Corner → Bool) : Quad Bool :=
  ⟨q.fl && test .fl, q.fr && test .fr, q.rl && test .rl, q.rr && test .rr⟩

/-- Whether a set of corners has a member. -/
def anyCorner (q : Quad Bool) : Bool := q.fl || q.fr || q.rl || q.rr

/-- What MAP_OPEN makes of a corner's banks: a named corner's shadow becomes LOADING with its check value gone, and a LOADING
bank of a corner not named becomes EMPTY (R136). -/
def Banks.opened (named : Bool) (k : Banks) : Banks :=
  if named then k.modBank k.shadow (fun b => { b with state := .loading, check := none })
  else
    let drop (b : Bank) : Bank := if b.state = .loading then { b with state := .empty } else b
    { k with a := drop k.a, b := drop k.b }

/-- MAP_OPEN (R135, R136). -/
def mapOpen : Handler
  | [m], p =>
    if maskNamesCorners m then
      let named := cornersOf m
      let checking := whichCorners named (fun c =>
        decide (((p.corner c).banks.get (p.corner c).banks.shadow).state = .checking))
      let marked := whichCorners named (fun c => (p.corner c).banks.swapPending)
      if anyCorner checking then (p, .busy [cornerMask checking])
      else if anyCorner marked then (p, .refusedState [cornerMask marked])
      else
        ((forCorners (fun c p => p.modCorner c (CornerPart.modBanks (Banks.opened (named.get c)))) p).modStore
            (fun s => { s with group := named, pointer := 0 }),
          .done [cornerMask named, 0])
    else (p, .refusedArgument [])
  | _, p => (p, .refusedArgument [])

/-! ## MAP_DATA (R137, R138) -/

/-- Words written one after another from an index on, each then intact (R138). -/
def memWriteRun (start : Nat) : List Word → WordMem → WordMem
  | [], m => m
  | w :: rest, m => memWriteRun (start + 1) rest (memWrite m start ⟨w, true⟩)

/-- The words are written into the shadow of a corner of the load group (R138). -/
def Banks.load (start : Nat) (words : List Word) (k : Banks) : Banks :=
  k.modBank k.shadow (fun b => { b with words := memWriteRun start words b.words })

/-- MAP_DATA (R137, R138); every reply carries the write pointer as it stands after the order. -/
def mapData : Handler
  | start :: count :: bytes, p =>
    if ¬ (1 ≤ count.toNat ∧ count.toNat ≤ 24 ∧ bytes.length = 2 * count.toNat) then
      (p, .refusedArgument [u8 p.store.pointer])
    else if ¬ anyCorner p.store.group then (p, .refusedSequence [u8 p.store.pointer])
    else if start.toNat ≠ p.store.pointer then (p, .refusedSequence [u8 p.store.pointer])
    else if Config.imageWords < start.toNat + count.toNat then (p, .refusedArgument [u8 p.store.pointer])
    else
      ((forCorners (fun c p =>
          if p.store.group.get c then p.modCorner c (CornerPart.modBanks (Banks.load start.toNat (wordsOf bytes))) else p) p).modStore
          (fun s => { s with pointer := start.toNat + count.toNat }),
        .done [u8 (start.toNat + count.toNat)])
  | _, p => (p, .refusedArgument [u8 p.store.pointer])

/-! ## MAP_CLOSE and validation (R139 to R141) -/

/-- A bank of the load group at an accepted MAP_CLOSE (R139). -/
def Banks.closed (check : Word) (k : Banks) : Banks :=
  k.modBank k.shadow (fun b => { b with state := .checking, check := some check })

/-- MAP_CLOSE (R139). Accepted, it holds the slot until validation ends. -/
def mapClose : Handler
  | [k1, k0], p =>
    if ¬ anyCorner p.store.group then (p, .refusedSequence [])
    else if p.store.pointer < Config.imageWords then (p, .invalidIncomplete [u8 p.store.pointer])
    else
      ((forCorners (fun c p =>
          if p.store.group.get c then p.modCorner c (CornerPart.modBanks (Banks.closed (wordOf k1 k0))) else p) p).modStore
          (fun s => { s with
            group := .fill false
            pointer := 0
            validation := some ⟨Corner.all.filter (fun c => s.group.get c), [], .fill .none⟩ }),
        .held)
  | _, p => (p, .refusedArgument [])

/-- The first outcome in corner order that is neither NONE nor VALID (R141). -/
def firstInvalid (q : Quad MapOutcome) : Option MapOutcome :=
  q.toList.find? (fun x => decide (x ≠ .none) && decide (x ≠ .valid))

/-- The reply of a validation that has ended (R141, R190). -/
def validationAnswer (q : Quad MapOutcome) : Byte × Byte × List Byte :=
  match firstInvalid q with
  | none => (0, 0, q.toList.map (·.code))
  | some x => (4, x.invalidReason, q.toList.map (·.code))

/-- The held order's reply is placed in the reserved place and the slot released (R154, R164). -/
def answerHeld (result reason : Byte) (data : List Byte) (p : Part) : Part :=
  match p.slot with
  | none => p
  | some h => placeReply (replyFrame p.address h.src h.tag h.code result reason data) (p.setSlot none)

/-- The bank under validation at a corner takes its new state (R141). -/
def Banks.judged (x : MapOutcome) (k : Banks) : Banks :=
  k.modBank k.shadow (fun b => { b with state := if x = .valid then .ready else .empty })

/-- A bank is judged: it takes its state, and after the last bank of the list the reply is placed (R141). -/
def judgeBank (c : Corner) (rest : List Corner) (x : MapOutcome) (outcomes : Quad MapOutcome) (p : Part) : Part :=
  let q := p.modCorner c (CornerPart.modBanks (Banks.judged x))
  match rest with
  | [] =>
    let r := validationAnswer (outcomes.set c x)
    answerHeld r.1 r.2.1 r.2.2 (q.modStore (fun s => { s with validation := none }))
  | _ :: _ => q.modStore (fun s => { s with validation := some ⟨rest, [], outcomes.set c x⟩ })

/-- The values of a run of words as they stand. -/
def Bank.readRun (b : Bank) (start count : Nat) : List Word :=
  (List.range count).map (fun k => (memRead b.words (start + k)).value)

/-- The value of a word of an image as it was read. -/
def wordRead (image : List Word) (n : Nat) : Nat := (image.getD n 0).toNat

/-- What a reading of 16 words does to the bank under validation. -/
inductive Reading
  /-- The bank is not judged yet: the words read of it so far. -/
  | goesOn (read : List Word)
  /-- The bank is judged with this outcome. -/
  | judges (outcome : MapOutcome)
  deriving DecidableEq, Repr

/-- The next reading of the bank under validation at a corner, of which these words have been read: a word that fails parity
ends it, and the last of the 144 words brings the judgment of the words as read (R59, R60, R140). -/
def readingOf (p : Part) (c : Corner) (read : List Word) : Reading :=
  let b := (p.corner c).banks.get (p.corner c).banks.shadow
  let image := read ++ b.readRun read.length 16
  if !b.intactRun read.length 16 then .judges .parity
  else if image.length < Config.imageWords then .goesOn image
  else .judges (judgeImage (wordRead image) b.check p.params.currentLimit)

/-- Validation at a period start: the next 16 words of the first bank of the list (R140). -/
def validationReading (p : Part) : Part :=
  match p.store.validation with
  | none => p
  | some ⟨[], _, _⟩ => p
  | some ⟨c :: rest, read, outcomes⟩ =>
    match readingOf p c read with
    | .goesOn image => p.modStore (fun s => { s with validation := some ⟨c :: rest, image, outcomes⟩ })
    | .judges x => judgeBank c rest x outcomes p

/-- The reading due judges its bank (R140). -/
def judgmentDue (p : Part) : Bool :=
  match p.store.validation with
  | some ⟨c :: _, read, _⟩ =>
    match readingOf p c read with
    | .judges _ => true
    | .goesOn _ => false
  | _ => false

/-! ## MAP_SWAP (R142) -/

/-- The outcomes of a swap at a corner (R142). -/
inductive SwapOutcome
  | none | swapped | pending | alreadyPending | notReady
  deriving DecidableEq, Repr

def SwapOutcome.code : SwapOutcome → Byte
  | .none => 0
  | .swapped => 1
  | .pending => 2
  | .alreadyPending => 3
  | .notReady => 4

/-- The judgment of a corner at the order's arrival (R142). -/
def swapOutcome (p : Part) (named : Bool) (c : Corner) : SwapOutcome :=
  let k := (p.corner c).banks
  if !named then .none
  else if k.swapPending then .alreadyPending
  else if (k.get k.shadow).state ≠ .ready then .notReady
  else if p.control = .engaging ∨ p.control = .engaged then .pending
  else .swapped

/-- What an outcome does at its corner (R142). -/
def swapAct (o : SwapOutcome) (c : Corner) (p : Part) : Part :=
  match o with
  | .swapped => swapEffect c p
  | .pending => p.modCorner c (CornerPart.modBanks (fun k => { k with swapPending := true }))
  | _ => p

/-- MAP_SWAP (R142). -/
def mapSwap : Handler
  | [m], p =>
    if maskNamesCorners m then
      let named := cornersOf m
      let o (c : Corner) : SwapOutcome := swapOutcome p (named.get c) c
      let data := Corner.all.map (fun c => (o c).code)
      if Corner.all.any (fun c => decide (o c = .pending) || decide (o c = .swapped)) then
        (forCorners (fun c => swapAct (o c) c) p, .done data)
      else (p, .refusedState data)
    else (p, .refusedArgument [])
  | _, p => (p, .refusedArgument [])

/-! ## MAP_READ (R145, R72) -/

/-- The index of the first word of a run that is upset (R145). -/
def Bank.firstUpset (b : Bank) (start : Nat) (count : Nat) : Option Nat :=
  ((List.range count).map (start + ·)).find? (fun n => !b.intact n)

/-- What a parity failure found by MAP_READ does to the bank and the corner (R72, R144). -/
def readFailure (c : Corner) (id : BankId) (p : Part) : Part :=
  match ((p.corner c).banks.get id).state with
  | .active => corruptActive c id p
  | .ready => p.modCorner c (CornerPart.modBanks (fun k =>
      { k.modBank id (fun b => { b with state := .empty }) with swapPending := false }))
  | _ => p

/-- MAP_READ (R145). -/
def mapRead : Handler
  | [corner, bank, start, count], p =>
    match Corner.ofIndex corner.toNat, BankId.ofCode bank.toNat with
    | some c, some id =>
      if ¬ (1 ≤ count.toNat ∧ count.toNat ≤ 24 ∧ start.toNat + count.toNat ≤ Config.imageWords) then (p, .refusedArgument [])
      else
        let b := (p.corner c).banks.get id
        if b.state = .checking then (p, .refusedState [])
        else
          let words := (List.range count.toNat).flatMap (fun k => wordBytes (memRead b.words (start.toNat + k)).value)
          match b.firstUpset start.toNat count.toNat with
          | none => (p, .done ([corner, bank, start, count, b.state.code, 0, 0] ++ words))
          | some n => (readFailure c id p, .done ([corner, bank, start, count, b.state.code, 1, u8 n] ++ words))
    | _, _ => (p, .refusedArgument [])
  | _, p => (p, .refusedArgument [])

/-! ## Resets (R148) -/

/-- A bank whose load a reset abandons: LOADING and CHECKING become EMPTY (R148). -/
def Bank.reset (b : Bank) : Bank :=
  match b.state with
  | .loading => { b with state := .empty }
  | .checking => { b with state := .empty }
  | _ => b

/-- The banks of a corner whose load a reset abandons (R148). -/
def Banks.reset (k : Banks) : Banks := { k with a := k.a.reset, b := k.b.reset }

/-- The load group and the validation in progress abandoned by a reset; the scrub goes on from its pointer (R74, R148). -/
def Store.reset (k : Store) : Store := { k with group := .fill false, pointer := 0, validation := none }

end Sys2Proof.Machine
end

