-- ==== Sys2Proof/Machine/Estimator.lean ====
section
/-! DEFINITION. Machine/Estimator.lean: the motion estimators (chapter 2) with the chain behind them: stuck trackers, fresh and
held updates, the demand and target of a computation by corner state (R125), and the classification of samples (R23). -/

namespace Sys2Proof.Machine

open Sys2Proof

/-! ## Stuck trackers (R35 to R37) -/

def Channels.get (s : Channels) : Channel → StuckTracker
  | .ab => s.ab
  | .aw => s.aw
  | .h => s.h

def Channels.set (s : Channels) (ch : Channel) (t : StuckTracker) : Channels :=
  match ch with
  | .ab => { s with ab := t }
  | .aw => { s with aw := t }
  | .h => { s with h := t }

/-- The counts after a usable value (R35, steps 1 to 4). -/
def StuckTracker.counted (t : StuckTracker) (v : Int) : StuckTracker :=
  match t.last with
  | none => { t with last := some v }
  | some x =>
    if x = v then { t with last := some v, same := satAdd 255 t.same 1, change := 0 }
    else { t with last := some v, same := 0, change := satAdd 64 t.change 1 }

/-- The flag after the counts of a usable value (R36). -/
def StuckTracker.tested (t : StuckTracker) (stuckCount stuckClear : Nat) : StuckTracker :=
  { t with stuck := if t.stuck then decide (t.change < stuckClear) else decide (stuckCount ≤ t.same) }

/-- The tracker after a usable value (R35, R36). -/
def StuckTracker.feed (t : StuckTracker) (v : Int) (stuckCount stuckClear : Nat) : StuckTracker :=
  (t.counted v).tested stuckCount stuckClear

/-- The tracker after an invalid mark (R37). -/
def StuckTracker.interrupted (t : StuckTracker) : StuckTracker := { t with same := 0, change := 0 }

/-- A channel's tracker as a usable value, or none for an invalid mark, leaves it. -/
def Part.fed (p : Part) (c : Corner) (ch : Channel) (v : Option Int) : StuckTracker :=
  match v with
  | none => ((p.corner c).stuck.get ch).interrupted
  | some x => ((p.corner c).stuck.get ch).feed x p.params.stuckCount p.params.stuckClear

/-- A channel's value of a FRESH sample reaches its tracker; SENSOR_STUCK is raised at an assertion (R35 to R37). -/
def feedChannel (c : Corner) (ch : Channel) (v : Option Int) (p : Part) : Part :=
  let q := p.modCorner c (fun k => { k with stuck := k.stuck.set ch (p.fed c ch v) })
  if !((p.corner c).stuck.get ch).stuck && (p.fed c ch v).stuck then raise (.sensorStuck c) ch.code q else q

/-- SENSOR after the h tracker went from one flag to another: added at an assertion, removed at a release (R38). -/
def sensorAfter (before after old : Bool) : Bool := if before = after then old else after

/-! ## Integrators and filter (R29 to R31) -/

/-- A leaky integrator at a fresh computation; 0 where the channel is stuck or marked invalid (R31). -/
def integrate (dropped : Bool) (v : Int) (leak : Nat) (a : Int) : Int :=
  if dropped then 0 else clampInt (-2000000) 2000000 (v - trunc0 v (2 ^ leak) + 4 * a)

/-- A leaky integrator with the acceleration term 0 (R31). -/
def leakAway (dropped : Bool) (v : Int) (leak : Nat) : Int := if dropped then 0 else v - trunc0 v (2 ^ leak)

/-- The raw damper velocity (R29, steps 1 and 2). -/
def rawVelocity (h hPrev : Int) (held : Nat) : Int := clampInt (-8000) 8000 (divRound (2 * (h - hPrev)) (held + 1))

/-- The filtered damper velocity (R30). -/
def filtered (vf raw : Int) (shift : Nat) : Int := clampInt (-8000) 8000 (vf + divRound (raw - vf) (2 ^ shift))

/-- The height used, after its clamp (R28). -/
def clampHeight (h : Int) : Int := clampInt (-150000) 150000 h

/-- The motion record after a fresh update with a usable height (R29 to R31). -/
def Motion.fresh (m : Motion) (params : Params) (h ab aw : Int) (dropB dropW : Bool) : Motion where
  primed := true
  hPrev := h
  held := 0
  vf := if m.primed then filtered m.vf (rawVelocity h m.hPrev m.held) params.velShift else m.vf
  vb := integrate dropB m.vb params.bodyLeak ab
  vw := integrate dropW m.vw params.wheelLeak aw

/-- The motion record after a held update that neither finds STALE nor crosses the hold limit (R32). -/
def Motion.heldOn (m : Motion) (params : Params) (dropB dropW : Bool) : Motion :=
  { m with held := m.held + 1, vb := leakAway dropB m.vb params.bodyLeak, vw := leakAway dropW m.vw params.wheelLeak }

/-- The held update on a corner: HELD is counted, and the first case of R32 is taken. -/
def CornerPart.heldUpdate (k : CornerPart) (params : Params) (dropB dropW : Bool) : CornerPart :=
  let k := { k with counters := { k.counters with held := inc k.counters.held } }
  if k.reasons.stale then { k with motion := .unprimed }
  else if params.holdLimit < k.motion.held + 1 then
    { k with motion := .unprimed, reasons := k.reasons.put .stale true }
  else { k with motion := k.motion.heldOn params dropB dropW }

/-- The fresh update on a corner with a usable height: HEIGHT_CLAMP where the clamp changes it, the record, and STALE cleared
where the record was primed (R28, R29, R34). -/
def CornerPart.freshUpdate (k : CornerPart) (params : Params) (h ab aw : Int) (dropB dropW : Bool) : CornerPart :=
  { k with
    counters := if clampHeight h = h then k.counters else { k.counters with heightClamp := inc k.counters.heightClamp }
    motion := k.motion.fresh params (clampHeight h) ab aw dropB dropW
    reasons := if k.motion.primed then k.reasons.put .stale false else k.reasons }

/-! ## Demand and target of a computation (R125) -/

/-- A target formed, or none: the last target, and the regulator target where it is applied (R62, R83, R125). -/
def CornerPart.takeTarget (k : CornerPart) (target : Nat) (apply : Bool) : CornerPart :=
  { k with lastTarget := target, reg := if apply then { k.reg with target := target } else k.reg }

/-- The map store interpolates at a demand computation (R62, R67, R70). -/
def formTarget (c : Corner) (demand : Nat) (apply : Bool) (p : Part) : Part :=
  let k := p.corner c
  match k.banks.inUse with
  | none => p.modCorner c (fun k => { k with lastTarget := 0 })
  | some id =>
    let b := k.banks.get id
    if b.interpolationIntact k.motion.vf demand then
      p.modCorner c (fun k => k.takeTarget (min (b.interpolate k.motion.vf demand) p.params.currentLimit).toNat apply)
    else corruptActive c id (p.modCorner c (fun k => { k with lastTarget := 0 }))

/-- A demand is formed and handed to the map store (R51, R56). -/
def formDemand (c : Corner) (skyUsable groundUsable apply : Bool) (p : Part) : Part :=
  let x := p.selectBand
  let d := demandOf p.params ((p.schedule.get p.context.mode).get x.band) (p.corner c).motion skyUsable groundUsable
    (p.context.offsets.get c)
  formTarget c d apply ((p.setSelection (some x)).modCorner c (fun k => { k with lastDemand := d }))

/-- The end of a corner computation: whether a demand is formed and its target applied, by control and corner state (R125). -/
def demandStep (c : Corner) (skyUsable groundUsable : Bool) (p : Part) : Part :=
  match p.control, (p.corner c).state with
  | .engaged, .control => formDemand c skyUsable groundUsable true p
  | .engaged, .passive false => formDemand c skyUsable groundUsable false p
  | _, _ => p.modCorner c (fun k => { k with lastDemand := 0, lastTarget := 0 })

/-! ## Corner computations (R24, R32, R39) -/

/-- The control states in which corners are computed (R22). -/
def ControlState.computes : ControlState → Bool
  | .standby => true
  | .engaging => true
  | .engaged => true
  | .unloaded => false
  | .releasing => false

/-- A corner joins the record's corners computed, and the corners computed fresh where it is fresh (R13). -/
def addComputed (c : Corner) (fresh : Bool) (p : Part) : Part :=
  p.modTracker (fun t => { t with record := { t.record with
    computed := t.record.computed.set c true
    fresh := if fresh then t.record.fresh.set c true else t.record.fresh } })

/-- A held computation of a corner (R15, R32, R39). -/
def heldComputation (c : Corner) (p : Part) : Part :=
  let q := supervise c ((addComputed c false p).modCorner c (fun k => k.heldUpdate p.params false false))
  demandStep c (!(p.corner c).stuck.ab.stuck) (!(p.corner c).stuck.aw.stuck) q

/-- Whether a channel's term and velocity are dropped at a fresh computation: the channel is marked invalid, or stuck after
step 3 of R24; one whose flag this computation clears is dropped as the free value says (R31, R37 to R39; log entry 22). -/
def dropped (before after invalid : Bool) : Bool := invalid || after || (before && Config.clearingDrops)

/-- A valid mark keeps the value; an invalid one leaves none (R35, R37). -/
def usable (invalid : Bool) (v : Int) : Option Int := if invalid then none else some v

/-- The fresh computation of a corner from a sample (R24). The channels are fed in the order a_b, a_w, h, so of two that become
stuck in one sample the later names the parameter of SENSOR_STUCK (log entry 21); the supervisor acts once, on the reason set
that the changes of STALE and SENSOR leave (log entry 25). -/
def freshComputation (c : Corner) (x : Sample) (p : Part) : Part :=
  let before := (p.corner c).stuck
  let counted := addComputed c true (countCorner c (fun k => { k with fresh := inc k.fresh }) p)
  let q := feedChannel c .h (usable x.hInvalid x.h) (feedChannel c .aw (usable x.awInvalid x.aw)
    (feedChannel c .ab (usable x.abInvalid x.ab) counted))
  let after := (q.corner c).stuck
  let dropB := dropped before.ab.stuck after.ab.stuck x.abInvalid
  let dropW := dropped before.aw.stuck after.aw.stuck x.awInvalid
  let r := q.modCorner c (fun k =>
    let k := if x.hInvalid then k.heldUpdate q.params dropB dropW else k.freshUpdate q.params x.h x.ab x.aw dropB dropW
    { k with reasons := k.reasons.put .sensor (sensorAfter before.h.stuck after.h.stuck k.reasons.sensor) })
  demandStep c (!dropB) (!dropW) (supervise c r)

/-! ## Samples (R21 to R25) -/

/-- The classes of a usable sample (R23). -/
inductive SampleClass
  | unsynced | late | duplicate | fresh | staleTag
  deriving DecidableEq, Repr

/-- The first test of R23 that holds. -/
def classify (t : Tracker) (c : Corner) (tag : Byte) : SampleClass :=
  if t.state = .unlocked then .unsynced
  else if tag = t.record.number.extractLsb' 0 8 then
    (if t.record.closed then .late else if t.record.fresh.get c then .duplicate else .fresh)
  else if t.previous.map (·.extractLsb' 0 8) = some tag then .late
  else .staleTag

/-- A sample taken by its class (R23 to R25). -/
def takeSample (c : Corner) (x : Sample) (p : Part) : Part :=
  match classify p.tracker c x.tag with
  | .unsynced => p.modGlobals (fun g => { g with unsynced := inc g.unsynced })
  | .late => countCorner c (fun k => { k with late := inc k.late }) p
  | .duplicate => countCorner c (fun k => { k with duplicate := inc k.duplicate }) p
  | .staleTag => countCorner c (fun k => { k with staleTag := inc k.staleTag }) p
  | .fresh => freshComputation c x p

/-- A SAMPLE offered to the estimator of a corner: the checks of R21, then its class where corners are computed (R22). -/
def offerSample (c : Corner) (payload : List Byte) (p : Part) : Part :=
  let bad := countCorner c (fun k => { k with badSample := inc k.badSample }) p
  match decodeSample payload with
  | none => bad
  | some x =>
    if x.corner.toNat ≠ c.index then bad
    else if p.control.computes then takeSample c x p
    else p

/-! ## Meanings -/

/-- HOLD_LIMIT_CROSSED (R32): the held update due at the corner, in an open cycle, finds held + 1 above HOLD_LIMIT. -/
def holdLimitDue (c : Corner) (p : Part) : Bool :=
  p.control.computes && !p.tracker.record.closed && !p.tracker.record.computed.get c && !(p.corner c).reasons.stale &&
    decide (p.params.holdLimit < (p.corner c).motion.held + 1)

def execHoldLimitCrossed (c : Corner) (s : State) : Host.Outcome State Fault Refusal :=
  s.onPart (onlyWhen (holdLimitDue c) (heldComputation c))

/-- A usable value of a channel reaches its tracker, and for h the supervisor acts on SENSOR (R36, R38). -/
def feedAndSettle (c : Corner) (ch : Channel) (v : Int) (p : Part) : Part :=
  let q := feedChannel c ch (some v) p
  if ch = .h then putReason .sensor ((q.corner c).stuck.h.stuck) c q else q

/-- CHANNEL_STUCK (R36): this value of the channel makes it stuck. -/
def stuckDue (c : Corner) (ch : Channel) (v : Int) (p : Part) : Bool :=
  p.control.computes && !((p.corner c).stuck.get ch).stuck && (p.fed c ch (some v)).stuck

def execChannelStuck (c : Corner) (ch : Channel) (v : Int) (s : State) : Host.Outcome State Fault Refusal :=
  s.onPart (onlyWhen (stuckDue c ch v) (feedAndSettle c ch v))

/-- CHANNEL_RELEASE (R36): this value of the channel releases it. -/
def releaseDue (c : Corner) (ch : Channel) (v : Int) (p : Part) : Bool :=
  p.control.computes && ((p.corner c).stuck.get ch).stuck && !(p.fed c ch (some v)).stuck

def execChannelRelease (c : Corner) (ch : Channel) (v : Int) (s : State) : Host.Outcome State Fault Refusal :=
  s.onPart (onlyWhen (releaseDue c ch v) (feedAndSettle c ch v))

end Sys2Proof.Machine
end

