-- ==== Sys2Proof/Machine/Diagnosis.lean ====
section
/-! DEFINITION. Machine/Diagnosis.lean: the valve diagnosis (chapter 6): the three runs judged at a hand-off, suspicions and
episodes, the entry to FAULT, the proving window, the supply monitor; and the hand-offs and the end of a valve test (R128, R129). -/

namespace Sys2Proof.Machine

open Sys2Proof

/-! ## The end of a valve test (R129) -/

/-- The test outcomes, with their codes of R186. -/
inductive TestOutcome
  | complete | openWinding | tripped | offset
  deriving DecidableEq, Repr

def TestOutcome.code : TestOutcome → Byte
  | .complete => 0
  | .openWinding => 1
  | .tripped => 2
  | .offset => 3

/-- The mean of the statistics, 0 without samples (R129). -/
def TestRecord.mean (r : TestRecord) : Int := if r.count = 0 then 0 else divRound r.sum r.count

/-- The data of a valve test's reply (R129, R190). -/
def testData (c : Corner) (x : TestOutcome) (r : TestRecord) : List Byte :=
  [u8 c.index, x.code] ++ u16 r.candidate ++ u16 r.driven ++ u16 r.count ++ s16 r.mean ++ s16 (r.least.getD 0) ++
    s16 (r.greatest.getD 0) ++ u16 r.finalDuty

/-- A valve test ends with its record: the corner enters OFF and the reply is placed in the reserved place (R129). -/
def endTest (c : Corner) (x : TestOutcome) (r : TestRecord) (p : Part) : Part :=
  answerHeld 0 0 (testData c x r) (p.modCorner c CornerPart.turnOff)

/-! ## Entry to FAULT (R104) -/

/-- The corner's diagnosis at an entry to FAULT. -/
def Diagnosis.latch (d : Diagnosis) (kind : FaultKind) : Diagnosis where
  openRun := 0
  shortRun := 0
  leakRun := 0
  episode := none
  record := if d.episode.isSome then { d.record.tally with kind := kind }
    else { d.record with kind := kind, round := 0, attempts := 0 }

/-- A corner enters FAULT (R104); in RELEASING, that may be the last corner it waited for (R119). -/
def enterFault (c : Corner) (kind : FaultKind) (p : Part) : Part :=
  judgeReleased (raise (.valveFault c) kind.code (p.modCorner c (fun k => { k with
    state := .fault, reg := k.reg.disable.endCalibration, diag := k.diag.latch kind })))

/-! ## Suspicions (R97, R99, R100) -/

/-- The episode a suspicion belongs to: the one in progress, or one set up at this instant (R99). -/
def Diagnosis.inEpisode (d : Diagnosis) (retryLimit : Nat) (cycle : Word) : Diagnosis :=
  if d.episode.isSome then d
  else { d with
    episode := some ⟨retryLimit, none⟩
    record := { d.record with round := 1, attempts := 0, firstCycle := cycle } }

/-- Steps 1 to 3 of R100 on the diagnosis. -/
def Diagnosis.suspect (d : Diagnosis) (kind : FaultKind) : Diagnosis :=
  { d with
    openRun := 0
    shortRun := 0
    episode := d.episode.map (fun e => { e with window := none })
    record := { d.record with kind := kind, attempts := d.record.attempts + 1 } }

/-- The limit of the episode in progress (R99). -/
def Diagnosis.limit (d : Diagnosis) : Nat :=
  match d.episode with
  | none => 0
  | some e => e.limit

/-- The corner enters SUSPENDED: a retry, or the pause after a passed recalibration (R100, R103). -/
def CornerPart.suspend (k : CornerPart) : CornerPart := { k with state := .suspended, reg := k.reg.disable.endCalibration }

/-- A suspicion at a corner: counted, then a retry, the recalibration, or FAULT (R100). -/
def suspicion (c : Corner) (kind : FaultKind) (p : Part) : Part :=
  let d := ((p.corner c).diag.inEpisode p.params.retryLimit p.tracker.record.number).suspect kind
  let q := p.modCorner c (fun k => { k with diag := d, counters := { k.counters with retry := inc k.counters.retry } })
  if d.record.attempts ≤ d.limit then q.modCorner c CornerPart.suspend
  else if d.record.round = 1 then q.modCorner c (fun k => { k with state := .calibrating .recal false, reg := k.reg.calibrate })
  else enterFault c kind q

/-! ## The hand-off (R91, R94 to R98, R128) -/

/-- What a hand-off is judged for (R94). -/
inductive Judged
  | regulating | testing (r : TestRecord) | leak | nothing
  deriving DecidableEq, Repr

/-- The line of R94's table that applies. A calibration is in progress from its request on (log entry 12). A corner in CONTROL or
PASSIVE whose enable still waits for a period start has mode DISABLED and is judged for leak, in RELEASING too (log entry 29). -/
def CornerPart.judged (k : CornerPart) : Judged :=
  match k.state, k.reg.mode with
  | .control, .tracking => .regulating
  | .test .drive r, .tracking => .testing r
  | .fault, _ => .nothing
  | _, .disabled => if k.reg.calibration.isSome then .nothing else .leak
  | _, _ => .nothing

/-- The Tripped item: the period just ended at a valley sample, its own period at a peak sample (R91, R94). -/
def Regulator.trippedItem (r : Regulator) : Bool :=
  match r.point with
  | .valley => r.trippedBefore
  | .peak => r.tripped

/-- The period counts toward the open run (R95). -/
def CornerPart.openCounts (k : CornerPart) (params : Params) (im : Int) : Bool :=
  decide (params.openCheck ≤ k.reg.setpoint) && decide (k.reg.duty = params.dutyMax) && decide (2 * im < k.reg.setpoint) &&
    !k.reg.trippedItem && !k.reasons.supply

/-- The open run after a hand-off judged for open, before the condition is tested (R95). -/
def CornerPart.openRunNext (k : CornerPart) (params : Params) (im : Int) : Nat :=
  if k.openCounts params im then k.diag.openRun + 1 else 0

/-- The open condition is met at this hand-off (R95): the period counts and its run reaches or passes SAT_RUN. -/
def CornerPart.openMet (k : CornerPart) (params : Params) (im : Int) : Bool :=
  k.openCounts params im && decide (params.satRun ≤ k.openRunNext params im)

/-- The period that a hand-off's Tripped item names counts toward the short run: it tripped, and TRIP_MODE was LIMIT in it. A
LATCH trip is the suspicion of R97 instead, and its period does not count (R96). -/
def Regulator.shortCounts (r : Regulator) (w : Pwm) : Bool :=
  r.trippedItem &&
    match r.point with
    | .valley => !w.latchBefore
    | .peak => !w.tripLatch

/-- The short run after a hand-off judged for short, before the condition is tested (R96; log entry 23). -/
def CornerPart.shortRunNext (k : CornerPart) (w : Pwm) : Nat := if k.reg.shortCounts w then k.diag.shortRun + 1 else 0

/-- The short condition is met at this hand-off (R96): the period counts and its run reaches or passes TRIP_RUN. -/
def CornerPart.shortMet (k : CornerPart) (params : Params) (w : Pwm) : Bool :=
  k.reg.shortCounts w && decide (params.tripRun ≤ k.shortRunNext w)

/-- The leak run after a hand-off judged for leak, before the condition is tested (R98). -/
def CornerPart.leakRunNext (k : CornerPart) (params : Params) (im : Int) : Nat :=
  if (params.leakLevel : Int) < im then k.diag.leakRun + 1 else 0

/-- The three runs set. -/
def CornerPart.setRuns (k : CornerPart) (o s l : Nat) : CornerPart :=
  { k with diag := { k.diag with openRun := o, shortRun := s, leakRun := l } }

/-- Steps 1 of R128: the period is driven and its duty recorded. -/
def TestRecord.drive (r : TestRecord) (duty : Nat) : TestRecord := { r with driven := r.driven + 1, finalDuty := duty }

/-- Step 3 of R128: the statistics of the second half take in the measured current. -/
def TestRecord.take (r : TestRecord) (im : Int) : TestRecord :=
  if r.duration - r.duration / 2 < r.driven then
    { r with
      count := r.count + 1
      sum := r.sum + im
      least := some (match r.least with | none => im | some x => min x im)
      greatest := some (match r.greatest with | none => im | some x => max x im) }
  else r

/-- A hand-off of a corner in CONTROL, TRACKING (R94 to R96). -/
def handoffRegulating (c : Corner) (im : Int) (p : Part) : Part :=
  let k := p.corner c
  if k.openMet p.params im then suspicion c .openWinding (p.modCorner c (fun k => k.setRuns 0 (k.shortRunNext p.pwm) 0))
  else if k.shortMet p.params p.pwm then suspicion c .shortWinding (p.modCorner c (fun k => k.setRuns 0 0 0))
  else p.modCorner c (fun k => k.setRuns (k.openRunNext p.params im) (k.shortRunNext p.pwm) 0)

/-- A hand-off of a corner in TEST, phase DRIVE, TRACKING (R94, R95, R128). -/
def handoffTesting (c : Corner) (im : Int) (r : TestRecord) (p : Part) : Part :=
  let k := p.corner c
  let driven := r.drive k.reg.duty
  let taken := driven.take im
  if k.openMet p.params im then
    endTest c .openWinding driven (p.modCorner c (fun k => { k.setRuns 0 0 0 with state := .test .drive driven }))
  else if taken.driven = taken.duration then
    endTest c .complete taken
      (p.modCorner c (fun k => { k.setRuns (k.openRunNext p.params im) 0 0 with state := .test .drive taken }))
  else p.modCorner c (fun k => { k.setRuns (k.openRunNext p.params im) 0 0 with state := .test .drive taken })

/-- A hand-off judged for leak (R98). -/
def handoffLeak (c : Corner) (im : Int) (p : Part) : Part :=
  if Config.leakPeriods ≤ (p.corner c).leakRunNext p.params im then enterFault c .leak p
  else p.modCorner c (fun k => k.setRuns 0 0 (k.leakRunNext p.params im))

/-- The hand-off of a period's data to the corner's diagnosis (R91, R94). -/
def handoff (c : Corner) (im : Int) (p : Part) : Part :=
  match (p.corner c).judged with
  | .regulating => handoffRegulating c im p
  | .testing r => handoffTesting c im r p
  | .leak => handoffLeak c im p
  | .nothing => p.modCorner c (fun k => k.setRuns 0 0 0)

/-! ## The cycle start at a corner (R101, R102) -/

/-- The diagnosis of an episode that ends recovered (R102). -/
def Diagnosis.recover (d : Diagnosis) : Diagnosis :=
  { d with
    episode := none
    record := { d.record.tally with recovered := true, kind := .noFault, round := 0, attempts := 0 } }

/-- The proving window of a corner in CONTROL counts one cycle start (R102). -/
def countWindow (c : Corner) (e : Episode) (w : Nat) (p : Part) : Part :=
  if w ≤ 1 then
    raise (.valveRecovered c) (p.corner c).diag.record.kind.code (p.modCorner c (fun k => { k with diag := k.diag.recover }))
  else p.modCorner c (fun k => { k with diag := { k.diag with episode := some { e with window := some (w - 1) } } })

/-- A SUSPENDED corner returns to CONTROL with a proving window of 64 (R101). -/
def CornerPart.resume (k : CornerPart) : CornerPart :=
  { k with
    state := .control
    reg := k.reg.track
    diag := { k.diag with episode := k.diag.episode.map (fun e => { e with window := some Config.provingWindow }) } }

/-- What a cycle start does at a corner's episode (R101, R102). -/
def episodeAtCycleStart (c : Corner) (p : Part) : Part :=
  match (p.corner c).state, (p.corner c).diag.episode with
  | .suspended, _ => p.modCorner c CornerPart.resume
  | .control, some ⟨limit, some w⟩ => countWindow c ⟨limit, some w⟩ w p
  | _, _ => p

/-! ## The supply monitor (R109 to R111) -/

/-- A step of the low detector (R109). -/
def Supply.stepLow (s : Supply) (params : Params) (mv : Nat) : Supply :=
  let counts := if s.low then decide (params.supplyLowOff ≤ mv) else decide (mv < params.supplyLowOn)
  if !counts then { s with lowRun := 0 }
  else if Config.supplyRun ≤ s.lowRun + 1 then { s with low := !s.low, lowRun := 0 }
  else { s with lowRun := s.lowRun + 1 }

/-- A step of the high detector (R110). -/
def Supply.stepHigh (s : Supply) (params : Params) (mv : Nat) : Supply :=
  { s with high := if s.high then decide (params.supplyHighOff < mv) else decide (params.supplyHighOn < mv) }

/-- The two detectors at one sample. -/
def Supply.step (s : Supply) (params : Params) (mv : Nat) : Supply := (s.stepLow params mv).stepHigh params mv

/-- An assertion: SUPPLY is raised with the detector and every corner gains the reason (R111). -/
def assertSupply (detector : Byte) (p : Part) : Part := forCorners (putReason .supply true) (raise .supply detector p)

/-- The supply sample of a period start (R109 to R111). Where both detectors assert, LOW is raised before HIGH (log entry 24). -/
def supplySample (mv : Nat) (p : Part) : Part :=
  let before := p.supply
  let after := before.step p.params mv
  let p := p.setSupply after
  let p := if after.low && !before.low then assertSupply 0 p else p
  let p := if after.high && !before.high then assertSupply 1 p else p
  if (before.low || before.high) && !(after.low || after.high) then forCorners (putReason .supply false) p else p

/-! ## Meanings -/

/-- OPEN_CONDITION (R95): the hand-off with this measured current meets the open condition. -/
def openDue (c : Corner) (im : Int) (p : Part) : Bool :=
  match (p.corner c).judged with
  | .regulating => (p.corner c).openMet p.params im
  | .testing _ => (p.corner c).openMet p.params im
  | _ => false

def execOpenCondition (c : Corner) (im : Int) (s : State) : Host.Outcome State Fault Refusal :=
  s.onPart (onlyWhen (openDue c im) (handoff c im))

/-- SHORT_SUSPICION (R96): the hand-off with this measured current meets the short condition. -/
def shortDue (c : Corner) (p : Part) : Bool :=
  decide ((p.corner c).judged = .regulating) && (p.corner c).shortMet p.params p.pwm

def execShortSuspicion (c : Corner) (im : Int) (s : State) : Host.Outcome State Fault Refusal :=
  s.onPart (onlyWhen (shortDue c) (handoff c im))

/-- LEAK_FAULT (R98): the hand-off with this measured current brings the leak run to 8. -/
def leakDue (c : Corner) (im : Int) (p : Part) : Bool :=
  decide ((p.corner c).judged = .leak) && decide (Config.leakPeriods ≤ (p.corner c).leakRunNext p.params im)

def execLeakFault (c : Corner) (im : Int) (s : State) : Host.Outcome State Fault Refusal :=
  s.onPart (onlyWhen (leakDue c im) (handoff c im))

/-- EPISODE_RECOVERED (R102): a cycle start finds the corner in CONTROL with a proving window of 1. -/
def recoveryDue (c : Corner) (p : Part) : Bool :=
  decide ((p.corner c).state = .control) && decide ((p.corner c).diag.episode.bind (·.window) = some 1)

def execEpisodeRecovered (c : Corner) (s : State) : Host.Outcome State Fault Refusal :=
  s.onPart (onlyWhen (recoveryDue c) (episodeAtCycleStart c))

/-- SUPPLY_LOW_ASSERT (R109): the low flag asserts at this supply sample. -/
def execSupplyLowAssert (mv : Nat) (s : State) : Host.Outcome State Fault Refusal :=
  s.onPart (onlyWhen (fun p => !p.supply.low && (p.supply.step p.params mv).low) (supplySample mv))

/-- SUPPLY_LOW_CLEAR (R109): the low flag clears at this supply sample. -/
def execSupplyLowClear (mv : Nat) (s : State) : Host.Outcome State Fault Refusal :=
  s.onPart (onlyWhen (fun p => p.supply.low && !(p.supply.step p.params mv).low) (supplySample mv))

end Sys2Proof.Machine
end

