-- ==== Sys2Proof/Machine/Cycle.lean ====
section
/-! DEFINITION. Machine/Cycle.lean: the cycle tracker (chapter 1): closure, cycle starts, CYC arrivals, the miss timer with its
substitutes, the deadline, and the entries to LOCAL and UNLOCKED. -/

namespace Sys2Proof.Machine

open Sys2Proof

/-! ## Closure (R15, R16, R92) -/

/-- The mean accumulator stops until the next cycle start (R92). -/
def Regulator.stopMean (r : Regulator) : Regulator := { r with meanRunning := false }

/-- The mean accumulator starts afresh (R92). -/
def Regulator.startMean (r : Regulator) : Regulator := { r with meanSum := 0, meanCount := 0, meanRunning := true }

/-- The held computation of a closure at a corner not computed in the cycle, in a control state that computes (R15, step 2). -/
def computeHeld (c : Corner) (p : Part) : Part :=
  if p.control.computes && !p.tracker.record.computed.get c then heldComputation c p else p

/-- The closed flag is set and the deadline timer stops (R14, R15). -/
def Tracker.shut (t : Tracker) : Tracker := { t with record := { t.record with closed := true }, deadlineAt := none }

/-- The closure of a cycle: closed flag, held computations, report, and the means stop (R15, R184, R92). -/
def closeCycle (p : Part) : Part :=
  let q := forCorners computeHeld (p.modTracker Tracker.shut)
  forCorners (fun c p => p.modCorner c (fun k => { k with reg := k.reg.stopMean })) (placeReport (reportFrame q) q)

/-- An open cycle is closed; a closed one stays as it is. -/
def closeOpen (p : Part) : Part := if p.tracker.record.closed then p else closeCycle p

/-! ## Cycle starts (R4) -/

/-- The time from a cycle start to its miss expiry: tCYC + tGRACE in LOCKED, tCYC in HOLDOVER and LOCAL (R6, R7). -/
def TrackerState.missTicks : TrackerState → Nat
  | .locked => Config.tCycGrace
  | .unlocked => Config.tCycGrace
  | .holdover => Config.tCyc
  | .localState => Config.tCyc

/-- Steps 2 to 6 of R4 on the tracker. -/
def Tracker.start (t : Tracker) (kind : StartKind) (number : Word) (now deadline : Nat) : Tracker :=
  { t with
    previous := some t.record.number
    record := ⟨number, kind, .fill false, .fill false, false⟩
    deadlineAt := some (now + deadline * Config.ticksPerUs)
    missAt := some (now + t.state.missTicks)
    lastStart := some now }

/-- What a cycle start does at a corner: the mean starts, a pending swap takes effect, and the episode counts (R92, R144,
R101, R102). -/
def cornerAtCycleStart (c : Corner) (p : Part) : Part :=
  episodeAtCycleStart c (swapIfPending c (p.modCorner c (fun k => { k with reg := k.reg.startMean })))

/-- A cycle start, the cycle before it being closed (R4). -/
def cycleStart (kind : StartKind) (number : Word) (p : Part) : Part :=
  forCorners cornerAtCycleStart (p.modTracker (fun t => t.start kind number p.now p.params.deadline))

/-! ## CYC arrivals (R1 to R5, R11) -/

/-- The number of fields of a CYC that are clamped or left unchanged (R2). -/
def contextClamps (c : CycPayload) : Nat :=
  (if 3000 < c.speed.toNat then 1 else 0) + (if (Mode.ofCode c.mode.toNat).isNone then 1 else 0) +
    ((c.offsets.toList.filter (fun w => decide (clampInt (-8000) 8000 w.toInt ≠ w.toInt))).length)

/-- The context after a CYC is adopted (R2). -/
def Context.adopt (x : Context) (c : CycPayload) : Context where
  speed := min c.speed.toNat 3000
  mode := (Mode.ofCode c.mode.toNat).getD x.mode
  offsets := c.offsets.map (fun w => clampInt (-8000) 8000 w.toInt)
  source := .controller

/-- A CYC's context is adopted and its clamps counted (R2). -/
def adopt (c : CycPayload) (p : Part) : Part :=
  (p.modContext (fun x => x.adopt c)).modGlobals (fun g =>
    { g with contextClamp := satAdd Config.counterMax g.contextClamp (contextClamps c) })

/-- The tracker enters LOCKED with run count 0 (R3, R5, R11). -/
def Tracker.lock (t : Tracker) : Tracker := { t with state := .locked, runCount := 0 }

/-- A CYC arriving now would be blanked (R3). -/
def Part.blanks (p : Part) : Bool :=
  match p.tracker.lastStart with
  | none => false
  | some t => decide (p.now < t + Config.tBlank)

/-- The tracker after a blanked CYC: LOCKED, its miss timer measuring from this arrival (R3). -/
def Tracker.blank (t : Tracker) (now : Nat) : Tracker := { t.lock with missAt := some (now + Config.tCycGrace) }

/-- The frame that carries a CYC payload. -/
def cycFrame (c : CycPayload) (dst src : Byte) : Frame := ⟨dst, src, Config.kindCyc, c.bytes⟩

/-- The tracker takes a CYC; one that is not blanked is then forwarded (R1 to R5). -/
def takeCyc (dst src : Byte) (c : CycPayload) (p : Part) : Part :=
  if p.blanks then
    ((adopt c p).modTracker (fun t => t.blank p.now)).modGlobals (fun g => { g with earlyCycle := inc g.earlyCycle })
  else
    placeWheelBound (cycFrame c dst src)
      (cycleStart .controller c.number ((adopt c (closeOpen p)).modTracker Tracker.lock))

/-! ## UNLOCKED, LOCAL and substitutes (R6 to R12) -/

/-- The tracker enters UNLOCKED: its timers stop, the record is closed, the run count is 0 (R12). -/
def Tracker.unlock (t : Tracker) : Tracker :=
  { t with state := .unlocked, missAt := none, deadlineAt := none, runCount := 0, record := { t.record with closed := true } }

/-- The tracker's entry to UNLOCKED: every record is unprimed and every corner gains STALE (R12). -/
def enterUnlocked (p : Part) : Part :=
  forCorners (putReason .stale true) (forCorners unprime (p.modTracker Tracker.unlock))

/-- The tracker enters LOCAL, with cause 0 LIMIT or 1 LOS (R9). -/
def enterLocal (cause : Byte) (p : Part) : Part :=
  raise .cycleLocal cause
    ((p.modTracker (fun t => { t with state := .localState })).modContext (fun x =>
      { x with offsets := .fill 0, source := .localSource }))

/-- The tracker enters HOLDOVER (R6, R9). -/
def enterHoldover (p : Part) : Part :=
  (raise .cycleHoldover 0 (p.modTracker (fun t => { t with state := .holdover, runCount := 0 }))).modContext (fun x =>
    { x with source := .held })

/-- The number of the next substitute: the current one plus 1, wrapping (R8). -/
def Part.nextNumber (p : Part) : Word := p.tracker.record.number + 1

/-- A substitute is originated (R8). -/
def originate (p : Part) : Part :=
  setSubstitute (substituteFrame p p.nextNumber)
    ((cycleStart .substitute p.nextNumber (closeOpen p)).modGlobals (fun g => { g with substitutes := inc g.substitutes }))

/-- One more substitute of the run. -/
def countRun (p : Part) : Part := p.modTracker (fun t => { t with runCount := t.runCount + 1 })

/-- The expiry of the miss timer, by tracker state (R6, R7). -/
def missExpiry (p : Part) : Part :=
  match p.tracker.state with
  | .unlocked => p
  | .locked => if p.control = .engaged ∧ p.params.substitute = 1 then originate (countRun (enterHoldover p)) else enterUnlocked p
  | .holdover =>
    if p.tracker.runCount < Config.holdoverLimit then originate (countRun p) else originate (enterLocal 0 p)
  | .localState => originate p

/-- Substitution stops when the control state leaves ENGAGED for RELEASING: an open cycle is closed, and the tracker enters
UNLOCKED (R10; log entry 5). -/
def stopSubstitution (p : Part) : Part :=
  match p.tracker.state with
  | .holdover => enterUnlocked (closeOpen p)
  | .localState => enterUnlocked (closeOpen p)
  | _ => p

/-! ## Frames received good -/

/-- A frame is received good at a port: counted, and the interval's mark set (R149, R157). -/
def goodFrame (q : Port) (p : Part) : Part :=
  p.modPort q (fun k => { k with goodMark := true, counters := { k.counters with goodFrames := inc k.counters.goodFrames } })

/-! ## Meanings -/

/-- CYC_ARRIVAL (R1). The good frame counts as chapter 9 states (log entry 7). -/
def execCycArrival (instant : Nat) (dst src : Byte) (c : CycPayload) (s : State) : Host.Outcome State Fault Refusal :=
  s.onPart (fun p => takeCyc dst src c (goodFrame .s (p.reach instant)))

/-- A timer expires: the clock stands at its instant, and its effect is taken. A stopped timer does not expire. -/
def expire (timer : Option Nat) (f : Part → Part) (p : Part) : Part :=
  match timer with
  | none => p
  | some t => f (p.reach t)

/-- MISS_TIMER_EXPIRY (R6, R7). -/
def execMissTimerExpiry (s : State) : Host.Outcome State Fault Refusal :=
  s.onPart (expire s.part.tracker.missAt missExpiry)

/-- DEADLINE_EXPIRY (R14): the cycle closes if its record is open. -/
def execDeadlineExpiry (s : State) : Host.Outcome State Fault Refusal :=
  s.onPart (expire s.part.tracker.deadlineAt (fun p =>
    if p.tracker.record.closed then p.modTracker (fun t => { t with deadlineAt := none }) else closeCycle p))

end Sys2Proof.Machine
end

