-- ==== Sys2Proof/Machine/Supervisor.lean ====
section
/-! DEFINITION. Machine/Supervisor.lean: the corner supervisor (chapter 7): calibration outcomes, the entry to ENGAGED, ramp
completions and latch trips, and the orders ENGAGE, RELEASE, VALVE_TEST and CLEAR_FAULT. -/

namespace Sys2Proof.Machine

open Sys2Proof

/-! ## Engagement (R115, R116) -/

/-- The corner is in CALIBRATING. -/
def CornerState.isCalibrating : CornerState → Bool
  | .calibrating _ _ => true
  | _ => false

/-- The corner is in CALIBRATING with its calibration in progress. -/
def CornerPart.stillCalibrating (k : CornerPart) : Bool := k.state.isCalibrating && k.reg.calibration.isSome

/-- What the entry to ENGAGED does at a corner (R116). -/
def cornerAtEngaged (c : Corner) (p : Part) : Part :=
  if (p.corner c).state.isCalibrating then
    (if (p.corner c).reasons.none then returnToControl c p else enterPassive c p)
  else p

/-- The control state enters ENGAGED (R116). -/
def enterEngaged (p : Part) : Part := forCorners cornerAtEngaged (p.setControl .engaged)

/-- ENGAGING ends at the instant at which no calibration remains in progress (R115). -/
def judgeEngaged (p : Part) : Part :=
  if p.control = .engaging ∧ p.corners.toList.all (fun k => !k.stillCalibrating) then enterEngaged p else p

/-! ## Calibration outcomes (R79, R103, R115, R127) -/

/-- The candidate offset of a sum of 64 raw readings (R79). -/
def candidateOf (sum : Nat) : Nat := (divRound sum Config.calibrationSamples).toNat

/-- A candidate is accepted within 2048 ± 400 (R79). -/
def accepted (candidate : Nat) : Bool := decide (1648 ≤ candidate) && decide (candidate ≤ 2448)

/-- The regulator at the end of a calibration: an accepted candidate becomes its offset (R79). -/
def Regulator.conclude (r : Regulator) (candidate : Nat) : Regulator :=
  { r with calibration := none, offset := if accepted candidate then candidate else r.offset }

/-- The diagnosis after a passed recalibration: round 2 (R103). -/
def Diagnosis.secondRound (d : Diagnosis) : Diagnosis :=
  { d with record := { d.record.tally with round := 2, attempts := 0 } }

/-- A valve test's corner enters phase DRIVE (R127). -/
def CornerPart.drive (k : CornerPart) (r : TestRecord) : CornerPart :=
  { k with state := .test .drive r, reg := { k.reg.track with target := r.current } }

/-- The outcome of a calibration is handed to the supervisor at the 64th sample (R79, R103, R115, R127). -/
def calibrationOutcome (c : Corner) (sum : Nat) (p : Part) : Part :=
  let x := candidateOf sum
  let q := p.modCorner c (fun k => { k with reg := k.reg.conclude x })
  match (p.corner c).state with
  | .calibrating .engage _ =>
    judgeEngaged (if accepted x then q.modCorner c (fun k => { k with state := .calibrating .engage true })
      else enterFault c .senseOffset q)
  | .calibrating .recal _ =>
    if accepted x then q.modCorner c (fun k => { k.suspend with diag := k.diag.secondRound })
    else enterFault c .senseOffset q
  | .test .cal r =>
    if accepted x then q.modCorner c (fun k => k.drive { r with candidate := x })
    else endTest c .offset { r with candidate := x } q
  | _ => q

/-! ## Ramp completion and latch trips (R84, R90, R119, R123) -/

/-- A PASSIVE corner's ramp is over: the driver is disabled and ramp complete is set (R123). -/
def CornerPart.rest (k : CornerPart) : CornerPart := { k with state := .passive true, reg := k.reg.disable }

/-- The supervisor turns the regulator's report that its ramp is complete into the corner's state (R84, R119, R123). -/
def rampDone (c : Corner) (p : Part) : Part :=
  match p.control, (p.corner c).state with
  | .releasing, .control => judgeReleased (p.modCorner c CornerPart.turnOff)
  | .releasing, .passive _ => judgeReleased (p.modCorner c CornerPart.turnOff)
  | _, .passive _ => p.modCorner c CornerPart.rest
  | _, _ => p.modCorner c (fun k => { k with reg := k.reg.disable })

/-- The supervisor turns the report of a LATCH trip, whose driver is already disabled, into the corner's state
(R90, R97, R119, R123, R128). -/
def latchReport (c : Corner) (p : Part) : Part :=
  match p.control, (p.corner c).state with
  | .engaged, .control =>
    suspicion c .shortWinding (p.modCorner c (fun k => k.setRuns 0 0 k.diag.leakRun))
  | .releasing, .control => judgeReleased (p.modCorner c CornerPart.turnOff)
  | .releasing, .passive _ => judgeReleased (p.modCorner c CornerPart.turnOff)
  | _, .passive _ => p.modCorner c CornerPart.rest
  | _, .test .drive r => endTest c .tripped r p
  | _, _ => p

/-! ## ENGAGE (R114) -/

/-- An OFF corner enters CALIBRATING with purpose ENGAGE (R114). -/
def CornerPart.beginEngage (k : CornerPart) : CornerPart :=
  { k with state := .calibrating .engage false, reg := k.reg.calibrate }

/-- The corners in OFF. -/
def Part.offCorners (p : Part) : Quad Bool := p.corners.map (fun k => decide (k.state = .off))

/-- ENGAGE (R114). -/
def engage : Handler
  | [], p =>
    if p.control ≠ .standby then (p, .refusedState [])
    else if p.tracker.state ≠ .locked then (p, .refusedNoCycle)
    else
      (judgeEngaged (forCorners (fun c q => if (q.corner c).state = .off then q.modCorner c CornerPart.beginEngage else q)
          ((p.setControl .engaging).setSelection none)),
        .done [cornerMask p.offCorners])
  | _, p => (p, .refusedArgument [])

/-! ## RELEASE (R117, R118) -/

/-- A corner at the RELEASE of ENGAGING (R117). -/
def CornerPart.dropEngage (k : CornerPart) : CornerPart := if k.state.isCalibrating then k.turnOff else k

/-- A corner at the RELEASE of ENGAGED (R118). -/
def CornerPart.release (k : CornerPart) : CornerPart :=
  match k.state with
  | .control => { k with reg := k.reg.ramp, diag := k.diag.abandon }
  | .passive true => k.turnOff
  | .suspended => k.turnOff
  | .calibrating _ _ => k.turnOff
  | _ => k

/-- RELEASE (R117, R118). In ENGAGED the corners take their effects before an open cycle is closed, so the report shows the
corner states after R118 (log entry 5). -/
def release : Handler
  | [], p =>
    match p.control with
    | .engaging => (settleUnengaged (forCorners (fun c q => q.modCorner c CornerPart.dropEngage) p), .done [])
    | .engaged =>
      (judgeReleased (stopSubstitution (forCorners unprime
          (forCorners (fun c q => q.modCorner c CornerPart.release) (p.setControl .releasing)))), .done [])
    | _ => (p, .refusedState [])
  | _, p => (p, .refusedArgument [])

/-! ## VALVE_TEST (R126) -/

/-- The test record at acceptance (R126). -/
def TestRecord.fresh (current duration : Nat) : TestRecord := ⟨current, duration, 0, 0, 0, 0, none, none, 0⟩

/-- An OFF corner enters TEST in phase CAL (R126). -/
def CornerPart.beginTest (k : CornerPart) (r : TestRecord) : CornerPart :=
  { k with state := .test .cal r, reg := k.reg.calibrate }

/-- VALVE_TEST (R126). -/
def valveTest : Handler
  | [corner, i1, i0, d1, d0], p =>
    match Corner.ofIndex corner.toNat with
    | none => (p, .refusedArgument [])
    | some c =>
      if p.params.currentLimit < nat16 i1 i0 ∨ nat16 d1 d0 < 100 ∨ 10000 < nat16 d1 d0 then (p, .refusedArgument [])
      else if ¬ ((p.control = .unloaded ∨ p.control = .standby) ∧ (p.corner c).state = .off) then (p, .refusedState [])
      else (p.modCorner c (fun k => k.beginTest (.fresh (nat16 i1 i0) (nat16 d1 d0))), .held)
  | _, p => (p, .refusedArgument [])

/-! ## CLEAR_FAULT (R108) -/

/-- The record after CLEAR_FAULT: total attempts and first cycle are kept (R108). -/
def FaultRecord.clear (r : FaultRecord) : FaultRecord := { r with kind := .noFault, round := 0, attempts := 0, recovered := false }

/-- The corner leaves FAULT for the state that control state and reasons call for (R108). -/
def leaveFault (c : Corner) (p : Part) : Part :=
  match p.control with
  | .engaging => p.modCorner c CornerPart.beginEngage
  | .engaged => if (p.corner c).reasons.none then returnToControl c p else enterPassive c p
  | _ => p.modCorner c CornerPart.turnOff

/-- CLEAR_FAULT (R108). -/
def clearFault : Handler
  | [corner], p =>
    match Corner.ofIndex corner.toNat with
    | none => (p, .refusedArgument [])
    | some c =>
      if (p.corner c).state ≠ .fault then (p, .refusedState [])
      else
        let q := leaveFault c (p.modCorner c (fun k => { k with diag := { k.diag with record := k.diag.record.clear } }))
        (q, .done [corner, (q.corner c).state.code])
  | _, p => (p, .refusedArgument [])

/-! ## Meanings -/

/-- CALIBRATION_COMPLETE (R79): a calibration with 63 samples taken takes its 64th, this raw reading. -/
def completionDue (c : Corner) (p : Part) : Bool :=
  match (p.corner c).reg.calibration with
  | some x => x.begun && decide (x.taken + 1 = Config.calibrationSamples)
  | none => false

/-- The sum of a calibration in progress, 0 without one. -/
def Regulator.calibrationSum (r : Regulator) : Nat :=
  match r.calibration with
  | some x => x.sum
  | none => 0

def execCalibrationComplete (c : Corner) (raw : BitVec 12) (s : State) : Host.Outcome State Fault Refusal :=
  s.onPart (onlyWhen (completionDue c) (fun p => calibrationOutcome c ((p.corner c).reg.calibrationSum + raw.toNat) p))

end Sys2Proof.Machine
end

