-- ==== Sys2Proof/Machine/Regulator.lean ====
section
/-! DEFINITION. Machine/Regulator.lean: the valve regulators (chapter 5): the period start, the current sample with the loop
step, calibration sum, mean and hand-off, the overcurrent comparator; and the ends of ramps, valve tests and validations. -/

namespace Sys2Proof.Machine

open Sys2Proof

/-! ## The period start at a regulator (R76, R77, R82 to R84) -/

/-- A pending enable takes effect (R82). -/
def Regulator.periodEnable (r : Regulator) (params : Params) : Regulator :=
  if r.enabled = false ∧ r.wanted ≠ .disabled then
    { r with
      enabled := true, e1 := 0, e2 := 0, u := params.dutyMin * 65536, duty := params.dutyMin, setpoint := 0, firstTrip := false }
  else r

/-- A setpoint moved toward an aim by at most a step (R83). -/
def moveToward (setpoint aim step : Nat) : Nat :=
  if setpoint < aim then setpoint + min step (aim - setpoint) else setpoint - min step (setpoint - aim)

/-- The setpoint's move at a period start (R83, R84). -/
def Regulator.move (r : Regulator) (params : Params) : Regulator :=
  match r.mode with
  | .disabled => r
  | .tracking => { r with setpoint := moveToward r.setpoint (min r.target params.currentLimit) params.slew }
  | .ramping => { r with setpoint := moveToward r.setpoint 0 params.ramp }

/-- The regulator after a pending enable and the setpoint's move. -/
def Regulator.advance (r : Regulator) (params : Params) : Regulator := (r.periodEnable params).move params

/-- The ramp is complete at this period start (R84). -/
def Regulator.rampEnds (r : Regulator) (params : Params) : Bool :=
  decide (r.wanted = .ramping) && decide ((r.advance params).setpoint = 0)

/-- The compare value of a duty: the floor of duty × P / 32768, 0 for a disabled driver (R76). -/
def Regulator.compareOf (r : Regulator) (half : Nat) : Nat := if r.enabled then r.duty * half / 32768 else 0

/-- The compare value is loaded for the period, its sample point chosen, and a requested calibration begins; the gate is off at
the boundary, so the comparator starts afresh (R76, R77, R79, R88). -/
def Regulator.load (r : Regulator) (params : Params) : Regulator :=
  { r with
    compare := r.compareOf params.pwmHalf
    point := if params.sampleMin ≤ r.compareOf params.pwmHalf then .valley else .peak
    sampled := false
    overRun := 0
    trippedBefore := r.tripped
    tripped := false
    calibration := r.calibration.map (fun x => { x with begun := true }) }

/-- A period start at a corner's regulator; a ramp that completes is reported before the compare value is loaded
(R76, R82 to R84; log entry 6). -/
def regulatorPeriodStart (c : Corner) (p : Part) : Part :=
  let q := p.modCorner c (fun k => { k with reg := k.reg.advance p.params })
  let q := if (p.corner c).reg.rampEnds p.params then rampDone c q else q
  q.modCorner c (fun k => { k with reg := k.reg.load q.params })

/-- The counter and what holds for the period, at a period start; the trip mode of the period that ends is kept for the hand-off
that names it (R75, R88, R96). -/
def Pwm.start (w : Pwm) (params : Params) : Pwm where
  count := params.pwmHalf
  up := false
  half := params.pwmHalf
  tripLevel := params.tripLevel
  tripFilter := params.tripFilter
  tripLatch := decide (params.tripMode = 1)
  latchBefore := w.tripLatch

/-- A period start of the PWM counter, with the supply at this level: the regulators, the scrub, the supply sample and the
validation reading act (R75, R76, R71, R109, R140; log entry 6). -/
def periodStart (mv : Nat) (p : Part) : Part :=
  let q := (p.modPwm (fun w => w.start p.params)).modPins (fun x => { x with supplyMv := mv })
  validationReading (supplySample mv (scrub (forCorners regulatorPeriodStart q)))

/-- PWM_PERIOD_START (R76). -/
def execPwmPeriodStart (mv : Nat) (s : State) : Host.Outcome State Fault Refusal := s.onPart (periodStart mv)

/-- RAMP_COMPLETE (R84): the setpoint of a ramping regulator reaches 0 at the move of a period start. -/
def execRampComplete (c : Corner) (s : State) : Host.Outcome State Fault Refusal :=
  s.onPart (onlyWhen (fun p => (p.corner c).reg.rampEnds p.params)
    (fun p => rampDone c (p.modCorner c (fun k => { k with reg := k.reg.advance p.params }))))

/-! ## The current sample (R77, R78, R86, R91, R92) -/

/-- The accumulator kept within its bounds (R87). -/
def Params.boundU (params : Params) (u : Int) : Int := clampInt (params.dutyMin * 65536) (params.dutyMax * 65536) u

/-- The duty of an accumulator (R86, step 4). -/
def dutyOf (u : Int) : Nat := (u / 65536).toNat

/-- The increment of the loop (R86, step 2). -/
def increment (params : Params) (e e1 e2 : Int) : Int :=
  params.kp * (e - e1) + params.ki * e + params.kd * (e - 2 * e1 + e2)

/-- One step of the incremental PID, made while the driver is enabled (R86, R87). -/
def Regulator.pid (r : Regulator) (params : Params) (im : Int) : Regulator :=
  if r.enabled then
    let e := (r.setpoint : Int) - im
    let u := params.boundU (r.u + increment params e r.e1 r.e2)
    { r with u := u, duty := dutyOf u, e2 := r.e1, e1 := e }
  else r

/-- The calibration sum takes the raw reading once its first period has begun (R79). -/
def Regulator.collect (r : Regulator) (raw : Nat) : Regulator :=
  { r with calibration := r.calibration.map (fun x =>
      if x.begun then { x with taken := x.taken + 1, sum := x.sum + raw } else x) }

/-- The mean accumulator takes the measured current while it runs (R92). -/
def Regulator.average (r : Regulator) (im : Int) : Regulator :=
  if r.meanRunning then { r with meanSum := r.meanSum + im, meanCount := r.meanCount + 1 } else r

/-- Steps 1 to 3 of R78 at the regulator, whose one sample of the period is then taken. -/
def Regulator.takeSample (r : Regulator) (params : Params) (raw : Nat) (im : Int) : Regulator :=
  { ((r.pid params im).collect raw).average im with sampled := true }

/-- The counter stands at the sample point: at the valley, or at the peak that ends the period (R75, R77). -/
def Pwm.reach (w : Pwm) : SamplePoint → Pwm
  | .valley => if w.up then w else { w with count := 0, up := true }
  | .peak => { w with count := w.half, up := true }

/-- The 64th sample has been taken: the outcome is handed on (R79). -/
def concludeCalibration (c : Corner) (p : Part) : Part :=
  match (p.corner c).reg.calibration with
  | some x => if x.taken = Config.calibrationSamples then calibrationOutcome c x.sum p else p
  | none => p

/-- A regulator's sample of the period: the counter goes on to the sample point, the sense input takes its level, and the four
uses of R78 are followed by the outcome of a calibration the sample completes. -/
def currentSample (c : Corner) (raw : BitVec 12) (p : Part) : Part :=
  let im := p.currentOf c raw
  let q := (p.pass (p.pwm.reach (p.corner c).reg.point)).modPins (fun x => { x with sense := x.sense.set c raw })
  concludeCalibration c
    (handoff c im (q.modCorner c (fun k => { k with reg := k.reg.takeSample p.params raw.toNat im })))

/-- CURRENT_SAMPLE (R77): each regulator takes one sample per period. -/
def execCurrentSample (c : Corner) (raw : BitVec 12) (s : State) : Host.Outcome State Fault Refusal :=
  s.onPart (onlyWhen (fun p => !(p.corner c).reg.sampled) (currentSample c raw))

/-! ## The overcurrent comparator (R88 to R90) -/

/-- The counter at one of the 2C − 1 ticks of the period's on-interval, counted from 1 (R76). -/
def Pwm.atOnTick (w : Pwm) (compare n : Nat) : Pwm :=
  if n < compare then { w with count := compare - n, up := false } else { w with count := n - compare, up := true }

/-- Where in its period the counter stands, in ticks from the valley (R75). -/
def Pwm.phase (w : Pwm) : Int := if w.up then w.count else -w.count

/-- The tick of the on-interval at which the run of the comparator first exceeds the filter time, the current standing above the
level until then (R88). -/
def Part.tripTick (p : Part) (c : Corner) : Nat :=
  let r := (p.corner c).reg
  p.pwm.onTicks r.compare + (filterTicks p.pwm.tripFilter + 1 - r.runNow p.pwm)

/-- The counter at that tick. -/
def Part.tripAt (p : Part) (c : Corner) : Pwm := p.pwm.atOnTick (p.corner c).reg.compare (p.tripTick c)

/-- The comparator trips while the sense input stands at this reading for the next ticks: the gate can be on, the current is
above the level, and the filter time passes within those ticks and within the on-interval (R76, R88; log entry 28). -/
def trips (c : Corner) (raw : BitVec 12) (ticks : Nat) (p : Part) : Bool :=
  let r := (p.corner c).reg
  r.enabled && !r.tripped && p.over c raw && decide (p.tripTick c + 1 ≤ 2 * r.compare) &&
    decide ((p.tripAt c).phase ≤ p.pwm.phase + ticks)

/-- The trip at the regulator: the gate is off for the rest of the period (R88). -/
def Regulator.trip (r : Regulator) : Regulator := { r with tripped := true, overRun := 0 }

/-- A trip in LIMIT mode: the first after an enable raises OVERCURRENT_LIMIT (R89). -/
def limitTrip (c : Corner) (p : Part) : Part :=
  if (p.corner c).reg.firstTrip then p
  else raise (.overcurrentLimit c) 0 (p.modCorner c (fun k => { k with reg := { k.reg with firstTrip := true } }))

/-- A trip in LATCH mode disables the driver and is reported to the supervisor (R90). -/
def latchTrip (c : Corner) (p : Part) : Part :=
  latchReport c (p.modCorner c (fun k => { k with reg := k.reg.disable }))

/-- The sense input of a corner stands at this reading until the trip, and the counter goes on to it. -/
def reachTrip (c : Corner) (raw : BitVec 12) (p : Part) : Part :=
  (p.modPins (fun x => { x with sense := x.sense.set c raw })).pass (p.tripAt c)

/-- A comparator trip (R88 to R90). -/
def overcurrentTrip (c : Corner) (raw : BitVec 12) (p : Part) : Part :=
  let q := countCorner c (fun k => { k with overcurrent := inc k.overcurrent })
    ((reachTrip c raw p).modCorner c (fun k => { k with reg := k.reg.trip }))
  if p.pwm.tripLatch then latchTrip c q else limitTrip c q

/-- OVERCURRENT_TRIP (R88). -/
def execOvercurrentTrip (c : Corner) (raw : BitVec 12) (ticks : Nat) (s : State) : Host.Outcome State Fault Refusal :=
  s.onPart (onlyWhen (trips c raw ticks) (overcurrentTrip c raw))

/-! ## The end of a valve test, and the judgment of a bank -/

/-- The cause ends the valve test of this corner (R127 to R129). -/
def testEnds (c : Corner) (cause : TestEndCause) (p : Part) : Bool :=
  match cause, (p.corner c).state with
  | .handoff im, .test .drive r =>
    match (p.corner c).judged with
    | .testing _ => (p.corner c).openMet p.params im || decide (((r.drive (p.corner c).reg.duty).take im).driven = r.duration)
    | _ => false
  | .trip, .test .drive _ => (p.corner c).reg.enabled && p.pwm.tripLatch
  | .calibration raw, .test .cal _ =>
    completionDue c p && !accepted (candidateOf ((p.corner c).reg.calibrationSum + raw.toNat))
  | _, _ => false

/-- What brings the test to its end acts at the supervisor (R127 to R129). -/
def endByCause (c : Corner) (cause : TestEndCause) (p : Part) : Part :=
  match cause with
  | .handoff im => handoff c im p
  | .trip => latchTrip c p
  | .calibration raw => calibrationOutcome c ((p.corner c).reg.calibrationSum + raw.toNat) p

/-- VALVE_TEST_END (R129). -/
def execValveTestEnd (c : Corner) (cause : TestEndCause) (s : State) : Host.Outcome State Fault Refusal :=
  s.onPart (onlyWhen (testEnds c cause) (endByCause c cause))

/-- VALIDATION_BANK_JUDGED (R141): the reading of this period start judges the bank being read. -/
def execValidationBankJudged (s : State) : Host.Outcome State Fault Refusal :=
  s.onPart (onlyWhen judgmentDue validationReading)

end Sys2Proof.Machine
end

