-- ==== Sys2Proof/Machine/Resets.lean ====
section
/-! DEFINITION. Machine/Resets.lean: the three resets (spec 00, 4): power-on reset (R130 and the reset rule of each chapter), the
soft reset (R131), and the link reset (R160). -/

namespace Sys2Proof.Machine

open Sys2Proof

/-! ## Ports and queues (R160, R161) -/

/-- Supervision cleared: LOS, runs, mark, errored count and alarm; the window position is kept (R160, step 3; R161). -/
def PortPart.clearSupervision (k : PortPart) : PortPart :=
  { k with los := false, silentRun := 0, cleanRun := 0, goodMark := false, alarm := false, errored := 0 }

/-- The forwarding queues and the report slot are emptied (R160, step 2). -/
def Link.flush (k : Link) : Link := { k with wheelBound := [], chassisBound := [], report := none }

/-- The flush of a soft reset empties the reply queue as well (R161). -/
def Link.flushAll (k : Link) : Link := { k.flush with replies := [] }

/-! ## Soft reset -/

/-- A regulator after a soft reset (R93). -/
def Regulator.softReset (r : Regulator) : Regulator :=
  { r.disable.endCalibration with compare := 0, firstTrip := false, meanSum := 0, meanCount := 0, meanRunning := false }

/-- The reasons a soft reset gives back: MAP with a CORRUPT active bank, SUPPLY with either supply flag (R131, step 3). -/
def reasonsGivenBack (banks : Banks) (supply : Supply) : Reasons :=
  { Reasons.empty with map := banks.corrupt, supply := supply.low || supply.high }

/-- A corner after a soft reset (R41, R57, R74, R93, R112, R131, R148). -/
def CornerPart.softReset (k : CornerPart) (supply : Supply) : CornerPart where
  motion := .unprimed
  stuck := .cleared
  lastDemand := 0
  lastTarget := 0
  banks := k.banks.reset
  reg := k.reg.softReset
  diag := .cleared
  state := .off
  reasons := reasonsGivenBack k.banks.reset supply
  counters := k.counters

/-- The part's blocks after a soft reset, the control state not yet settled (R19, R57, R131, R148, R161, R176, R185). The
cause is 1 SOFT or 2 LINK. -/
def Part.softReset (p : Part) (cause : Byte) : Part :=
  { p with
    tracker := p.tracker.unlock
    context := { p.context with offsets := .fill 0, source := .localSource }
    corners := p.corners.map (fun k => k.softReset p.supply)
    selection := none
    store := p.store.reset
    portS := p.portS.clearSupervision
    portW := p.portW.clearSupervision
    link := p.link.flushAll
    slot := none
    events := [⟨.restarted, 1, p.tracker.record.number, cause⟩] }

/-- A soft reset with this cause; the control state is then judged on the banks as it leaves them (R131, step 4). -/
def softResetWith (cause : Byte) (p : Part) : Part :=
  let q := p.softReset cause
  q.setControl (if q.loaded then .standby else .unloaded)

/-! ## Link reset -/

/-- The slot after the map store abandons a validation: a MAP_CLOSE leaves it without a reply (R148, R164, R176). -/
def abandonedSlot (slot : Option HeldOrder) : Option HeldOrder :=
  match slot with
  | some h => if h.code = 0x22 then none else some h
  | none => none

/-- What a link reset alone does to the map store and the order unit: the load and a held MAP_CLOSE are abandoned with their
reservation (R134, R146, R148, R154, R164, R176). Banks in other states, words and a held VALVE_TEST stay. R160's general sentence
that the slot and the map store are kept gives way to the chapters that specify them (spec 00, 4; log entry 26). -/
def linkResetStore (p : Part) : Part :=
  { p with corners := p.corners.map (CornerPart.modBanks Banks.reset), store := p.store.reset, slot := abandonedSlot p.slot }

/-- Steps 2 and 3 of R160: queues, report slot and supervision; LINK leaves every corner where Port W had lost signal. -/
def clearLink (p : Part) : Part :=
  let q := ((p.modLink Link.flush).modPort .s PortPart.clearSupervision).modPort .w PortPart.clearSupervision
  if p.portW.los then forCorners (putReason .link false) q else q

/-- A LINK_RESET received good at Port S (R160). -/
def takeLinkReset (f : Frame) (p : Part) : Part :=
  placeWheelBound f (clearLink (if p.params.resetFollowsLink = 1 then softResetWith 2 p else linkResetStore p))

/-! ## Meanings -/

/-- POWER_ON_RESET (R18, R130, R185): every block takes its power-on values; the straps are read. The levels at the input
pins and the commands that wait are the environment's, and stay. -/
def execPowerOnReset (straps : BitVec 2) (s : State) : Host.Outcome State Fault Refusal :=
  s.onPart (fun p => .powerOn straps p.pins)

/-- LINK_RESET (R160). -/
def execLinkReset (dst src : Byte) (payload : List Byte) (s : State) : Host.Outcome State Fault Refusal :=
  s.onPart (fun p => takeLinkReset ⟨dst, src, Config.kindLinkReset, payload⟩ (goodFrame .s p))

end Sys2Proof.Machine
end

