-- ==== Sys2Proof/Machine/Orders.lean ====
section
/-! DEFINITION. Machine/Orders.lean: the order unit (chapter 10): the arrival of an order with the slot and the reply places
(R163 to R166), the orders of its own chapter, and the meaning of every ORDER row. -/

namespace Sys2Proof.Machine

open Sys2Proof

/-! ## Arrival (R163, R164) -/

/-- An order that finds no available place (R163). -/
def dropOrder (code : Byte) (p : Part) : Part :=
  raise .orderDropped code (p.modGlobals (fun g => { g with orderDropped := inc g.orderDropped }))

/-- What a taken order comes to: its reply is placed at once, or it holds the slot (R164, R165). The reply follows what the order's
effect places: the report of a closure made by RELEASE is placed before it (log entry 27). -/
def settleOrder (o : OrderIn) (code : Byte) (r : Part × Answer) : Part :=
  match r.2 with
  | .reply result reason data => placeReply (replyFrame r.1.address o.src o.tag code result reason data) r.1
  | .held => r.1.setSlot (some ⟨o.src, o.tag, code⟩)

/-- An ORDER consumed from Port S is decided (R163). -/
def takeOrder (o : OrderIn) (code : Byte) (handler : Handler) (p : Part) : Part :=
  if availablePlaces p = 0 then dropOrder code p
  else
    match p.slot with
    | some _ => settleOrder o code (p, .busy [])
    | none => settleOrder o code (handler o.args p)

/-- An order of the table arrives: its good frame counts, and it is decided (R149, R163; log entry 7). -/
def orderArrival (o : OrderIn) (code : Byte) (handler : Handler) (p : Part) : Part :=
  takeOrder o code handler (goodFrame .s p)

/-! ## QUERY_STATUS (R167) -/

/-- QUERY_STATUS (R167). -/
def queryStatus : Handler
  | [view, corner], p =>
    if view = 0 then (p, .done (statusPart p))
    else if view = 1 then
      match Corner.ofIndex corner.toNat with
      | some c => (p, .done (statusCorner c (p.corner c)))
      | none => (p, .refusedArgument [])
    else (p, .refusedArgument [])
  | _, p => (p, .refusedArgument [])

/-! ## READ_PARAM and WRITE_PARAM (R168 to R171) -/

/-- READ_PARAM (R168). -/
def readParam : Handler
  | [id], p =>
    match ParamId.ofCode id.toNat with
    | some x => (p, .done (id :: u32 (p.params.get x)))
    | none => (p, .refusedArgument [])
  | _, p => (p, .refusedArgument [])

/-- The largest of the four present setpoints (R85, R170). -/
def Part.largestSetpoint (p : Part) : Nat :=
  max (max p.corners.fl.reg.setpoint p.corners.fr.reg.setpoint) (max p.corners.rl.reg.setpoint p.corners.rr.reg.setpoint)

/-- A static parameter may be written (R169, step 2). -/
def Part.staticWritable (p : Part) : Bool :=
  (decide (p.control = .unloaded) || decide (p.control = .standby)) && p.corners.toList.all (fun k => decide (k.state = .off))

/-- An enabled regulator under new duty bounds: the accumulator is clamped and the duty formed anew (R87, R171). -/
def Regulator.rebound (r : Regulator) (params : Params) : Regulator :=
  if r.enabled then { r with u := params.boundU r.u, duty := dutyOf (params.boundU r.u) } else r

/-- A corner whose held count exceeds the new HOLD_LIMIT gains STALE and is unprimed (R34, R171). -/
def holdWritten (c : Corner) (p : Part) : Part :=
  if p.params.holdLimit < (p.corner c).motion.held then putReason .stale true c (unprime c p) else p

/-- What a stored value does at the instant of its write (R171). -/
def writeEffect (id : ParamId) (p : Part) : Part :=
  match id with
  | .dutyMin => forCorners (fun c q => q.modCorner c (fun k => { k with reg := k.reg.rebound q.params })) p
  | .dutyMax => forCorners (fun c q => q.modCorner c (fun k => { k with reg := k.reg.rebound q.params })) p
  | .holdLimit => forCorners holdWritten p
  | _ => p

/-- The parameter store after a value is stored. -/
def storeParam (id : ParamId) (v : Nat) (p : Part) : Part := p.setParams (p.params.set id v)

/-- WRITE_PARAM (R169 to R171). -/
def writeParam : Handler
  | [id, v3, v2, v1, v0], p =>
    match ParamId.ofCode id.toNat with
    | none => (p, .refusedArgument [])
    | some x =>
      if x.static && !p.staticWritable then (p, .refusedState [])
      else
        let v := p.params.settled p.largestSetpoint x (nat32 v3 v2 v1 v0)
        (writeEffect x (storeParam x v p),
          if v = nat32 v3 v2 v1 v0 then .done (id :: u32 v) else .clamped (id :: u32 v))
  | _, p => (p, .refusedArgument [])

/-! ## FETCH_EVENT and READ_COUNTERS (R173, R174) -/

/-- The data of a fetched entry (R173, R190). -/
def entryData (x : Entry) (remaining : Nat) : List Byte :=
  [u8 x.event.kindCode, u8 x.event.subject, u8 x.count] ++ wordBytes x.firstCycle ++ [x.parameter, u8 remaining]

/-- FETCH_EVENT (R173). -/
def fetchEvent : Handler
  | [], p =>
    match p.events with
    | [] => (p, .done [0, 0, 0, 0, 0, 0, 0])
    | x :: rest => (p.setEvents rest, .done (entryData x rest.length))
  | _, p => (p, .refusedArgument [])

/-- READ_COUNTERS (R174). -/
def readCounters : Handler
  | [group, clear], p =>
    match CounterGroup.ofCode group.toNat with
    | none => (p, .refusedArgument [])
    | some g =>
      if clear = 0 then (p, .done (group :: (g.values p).flatMap u32))
      else if clear = 1 then (g.clear p, .done (group :: (g.values p).flatMap u32))
      else (p, .refusedArgument [])
  | _, p => (p, .refusedArgument [])

/-! ## SOFT_RESET and unknown orders (R175, R166) -/

/-- SOFT_RESET (R175). -/
def softReset : Handler
  | [], p => (softResetWith 1 p, .done [])
  | _, p => (p, .refusedArgument [])

/-- A code that names no order (R166). -/
def unknownOrder : Handler := fun _ p => (p, .refusedUnknown)

/-- The order of a code (R190). -/
def orderHandler (code : Byte) : Handler :=
  if code = 0x01 then queryStatus
  else if code = 0x02 then readParam
  else if code = 0x03 then writeParam
  else if code = 0x10 then gainWrite
  else if code = 0x11 then gainClear
  else if code = 0x20 then mapOpen
  else if code = 0x21 then mapData
  else if code = 0x22 then mapClose
  else if code = 0x23 then mapSwap
  else if code = 0x24 then mapRead
  else if code = 0x30 then engage
  else if code = 0x31 then release
  else if code = 0x32 then valveTest
  else if code = 0x33 then clearFault
  else if code = 0x40 then fetchEvent
  else if code = 0x41 then readCounters
  else if code = 0x50 then softReset
  else unknownOrder

/-! ## Meanings -/

/-- QUERY_STATUS (R167). -/
def execQueryStatus (o : OrderIn) (s : State) : Host.Outcome State Fault Refusal := s.onPart (orderArrival o 0x01 queryStatus)

/-- READ_PARAM (R168). -/
def execReadParam (o : OrderIn) (s : State) : Host.Outcome State Fault Refusal := s.onPart (orderArrival o 0x02 readParam)

/-- WRITE_PARAM (R169). -/
def execWriteParam (o : OrderIn) (s : State) : Host.Outcome State Fault Refusal := s.onPart (orderArrival o 0x03 writeParam)

/-- GAIN_WRITE (R44). -/
def execGainWrite (o : OrderIn) (s : State) : Host.Outcome State Fault Refusal := s.onPart (orderArrival o 0x10 gainWrite)

/-- GAIN_CLEAR (R46). -/
def execGainClear (o : OrderIn) (s : State) : Host.Outcome State Fault Refusal := s.onPart (orderArrival o 0x11 gainClear)

/-- MAP_OPEN (R135). -/
def execMapOpen (o : OrderIn) (s : State) : Host.Outcome State Fault Refusal := s.onPart (orderArrival o 0x20 mapOpen)

/-- MAP_DATA (R137). -/
def execMapData (o : OrderIn) (s : State) : Host.Outcome State Fault Refusal := s.onPart (orderArrival o 0x21 mapData)

/-- MAP_CLOSE (R139). -/
def execMapClose (o : OrderIn) (s : State) : Host.Outcome State Fault Refusal := s.onPart (orderArrival o 0x22 mapClose)

/-- MAP_SWAP (R142). -/
def execMapSwap (o : OrderIn) (s : State) : Host.Outcome State Fault Refusal := s.onPart (orderArrival o 0x23 mapSwap)

/-- MAP_READ (R145). -/
def execMapRead (o : OrderIn) (s : State) : Host.Outcome State Fault Refusal := s.onPart (orderArrival o 0x24 mapRead)

/-- ENGAGE (R114). -/
def execEngage (o : OrderIn) (s : State) : Host.Outcome State Fault Refusal := s.onPart (orderArrival o 0x30 engage)

/-- RELEASE (R117). -/
def execRelease (o : OrderIn) (s : State) : Host.Outcome State Fault Refusal := s.onPart (orderArrival o 0x31 release)

/-- VALVE_TEST (R126). -/
def execValveTest (o : OrderIn) (s : State) : Host.Outcome State Fault Refusal := s.onPart (orderArrival o 0x32 valveTest)

/-- CLEAR_FAULT (R108). -/
def execClearFault (o : OrderIn) (s : State) : Host.Outcome State Fault Refusal := s.onPart (orderArrival o 0x33 clearFault)

/-- FETCH_EVENT (R173). -/
def execFetchEvent (o : OrderIn) (s : State) : Host.Outcome State Fault Refusal := s.onPart (orderArrival o 0x40 fetchEvent)

/-- READ_COUNTERS (R174). -/
def execReadCounters (o : OrderIn) (s : State) : Host.Outcome State Fault Refusal := s.onPart (orderArrival o 0x41 readCounters)

/-- SOFT_RESET (R175). -/
def execSoftReset (o : OrderIn) (s : State) : Host.Outcome State Fault Refusal := s.onPart (orderArrival o 0x50 softReset)

/-- UNKNOWN_ORDER (R166): the code named no order. -/
def execUnknownOrder (o : OrderIn) (code : Byte) (s : State) : Host.Outcome State Fault Refusal :=
  s.onPart (orderArrival o code unknownOrder)

end Sys2Proof.Machine
end

