-- ==== Sys2Proof/Machine/Frames.lean ====
section
/-! DEFINITION. Machine/Frames.lean: the ports (chapter 9): a received run and its routing (R149 to R151), sample arrivals, the
completion of transmissions (R153, R156), supervision (R157 to R159); and the upset of a stored word (R69). -/

namespace Sys2Proof.Machine

open Sys2Proof

/-! ## Routing (R150, R151) -/

/-- A frame dropped as misaddressed at a port (R150, R151). -/
def misaddressed (q : Port) (p : Part) : Part := countPort q (fun k => { k with misaddressed := inc k.misaddressed }) p

/-- A good CYC at Port S: the tracker takes one of 14 bytes, any other is forwarded (R1, R150). -/
def routeCyc (f : Frame) (p : Part) : Part :=
  match decodeCyc f.payload with
  | some x => takeCyc f.dst f.src x p
  | none => placeWheelBound f p

/-- The routing of a frame received good at Port S (R150). -/
def routeS (f : Frame) (p : Part) : Part :=
  if f.kind = Config.kindCyc then routeCyc f p
  else if f.kind = Config.kindLinkReset then takeLinkReset f p
  else if f.dst = p.address then
    (if f.kind = Config.kindOrder then
      takeOrder (orderOf f.src f.payload) (orderCodeOf f.payload) (orderHandler (orderCodeOf f.payload)) p
    else misaddressed .s p)
  else placeWheelBound f p

/-- The estimator of a node's corner does its part with a SAMPLE (R21, R151). -/
def offerBySource (f : Frame) (p : Part) : Part :=
  match cornerOfAddress f.src with
  | some c => offerSample c f.payload p
  | none => p

/-- The routing of a frame received good at Port W (R151). -/
def routeW (f : Frame) (p : Part) : Part :=
  if f.kind = Config.kindSample then placeChassisBound f (offerBySource f p)
  else if f.kind = Config.kindOrder ∧ f.dst = p.address then misaddressed .w p
  else placeChassisBound f p

/-- A frame received good at a port (R149). -/
def goodArrival (q : Port) (f : Frame) (p : Part) : Part :=
  match q with
  | .s => routeS f (goodFrame .s p)
  | .w => routeW f (goodFrame .w p)

/-! ## Reception (R149) -/

/-- A dropped frame joins the errored count of the quality window (R149, R157). -/
def PortPart.errs (k : PortPart) : PortPart := { k with errored := satAdd 255 k.errored 1 }

/-- A run of bytes received at a port (R149). -/
def receiveRun (q : Port) (run : List Byte) (p : Part) : Part :=
  match receive run with
  | .badLength => countPort q (fun k => { k with length := inc k.length }) (p.modPort q PortPart.errs)
  | .badCheck => countPort q (fun k => { k with check := inc k.check }) (p.modPort q PortPart.errs)
  | .good f => goodArrival q f p

/-- FRAME_RECEIVED (R149). -/
def execFrameReceived (instant : Nat) (q : Port) (run : List Byte) (s : State) : Host.Outcome State Fault Refusal :=
  s.onPart (fun p => receiveRun q run (p.reach instant))

/-- SAMPLE_ARRIVAL (R21): a good SAMPLE from a corner node at Port W (log entry 7). -/
def execSampleArrival (dst src : Byte) (payload : List Byte) (s : State) : Host.Outcome State Fault Refusal :=
  s.onPart (fun p => routeW ⟨dst, src, Config.kindSample, payload⟩ (goodFrame .w p))

/-! ## Transmission (R153, R156) -/

/-- The arbiter of a port. -/
def arbitrate : Port → Part → Part
  | .s => arbitrateS
  | .w => arbitrateW

/-- The transmission in progress at a port completes, and the arbiter chooses (R153, R156). -/
def completeSending (q : Port) (x : Sending) (p : Part) : Part :=
  arbitrate q ((p.reach x.doneAt).modPort q (fun k => { k with sending := none }))

/-- TRANSMISSION_COMPLETE (R153): an IDLE transmitter completes nothing. -/
def execTransmissionComplete (q : Port) (s : State) : Host.Outcome State Fault Refusal :=
  s.onPart (fun p =>
    match (p.port q).sending with
    | none => p
    | some x => completeSending q x p)

/-! ## Supervision (R157 to R159) -/

/-- The judgment of the interval that has ended, on the port's own state (R157). -/
def PortPart.judge (k : PortPart) (losTime : Nat) : PortPart :=
  if k.los then
    (if k.goodMark then
      (if Config.cleanIntervals ≤ k.cleanRun + 1 then { k with los := false, silentRun := 0, cleanRun := 0 }
      else { k with cleanRun := k.cleanRun + 1 })
    else { k with cleanRun := 0 })
  else
    (if k.goodMark then { k with silentRun := 0 }
    else if losTime ≤ satAdd 32 k.silentRun 1 then { k with silentRun := satAdd 32 k.silentRun 1, los := true, cleanRun := 0 }
    else { k with silentRun := satAdd 32 k.silentRun 1 })

/-- What the assertion of loss of signal does beyond its port (R158). -/
def losAsserted (q : Port) (p : Part) : Part :=
  match q with
  | .s => if p.tracker.state = .holdover then enterLocal 1 (raise (.linkLos .s) 0 p) else raise (.linkLos .s) 0 p
  | .w => forCorners (putReason .link true) (raise (.linkLos .w) 0 p)

/-- What the clearing of loss of signal does beyond its port (R158). -/
def losCleared (q : Port) (p : Part) : Part :=
  match q with
  | .s => p
  | .w => forCorners (putReason .link false) p

/-- A port's judgment at an interval end, with its consequences (R157, R158). -/
def judgeLos (q : Port) (p : Part) : Part :=
  let before := p.port q
  let after := before.judge p.params.losTime
  let r := p.modPort q (fun _ => after)
  if !before.los && after.los then losAsserted q r
  else if before.los && !after.los then losCleared q r
  else r

/-- The alarm after a quality window with this errored count (R159). -/
def alarmAfter (alarm : Bool) (errored qualOn qualOff : Nat) : Bool :=
  if alarm then decide (qualOff < errored) else decide (qualOn ≤ errored)

/-- The alarm tested, and errored count and position start again (R159). -/
def PortPart.endWindow (k : PortPart) (params : Params) : PortPart :=
  { k with alarm := alarmAfter k.alarm k.errored params.qualOn params.qualOff, errored := 0, window := 0 }

/-- The end of a port's quality window (R159). -/
def windowEnd (q : Port) (p : Part) : Part :=
  let k := p.port q
  let r := p.modPort q (fun k => k.endWindow p.params)
  if !k.alarm && (k.endWindow p.params).alarm then raise (.linkQuality q) (u8 k.errored) r else r

/-- The window position counts one interval; at 256 the window ends (R159). -/
def windowStep (q : Port) (p : Part) : Part :=
  if Config.qualityWindow ≤ (p.port q).window + 1 then windowEnd q p
  else p.modPort q (fun k => { k with window := k.window + 1 })

/-- An interval end at one port: the judgment, the mark cleared, the window (R157 to R159). -/
def intervalEnd (q : Port) (p : Part) : Part :=
  windowStep q ((judgeLos q p).modPort q (fun k => { k with goodMark := false }))

/-- SUPERVISION_INTERVAL_END (R157): both ports judge, and the grid goes on (9.6). -/
def execSupervisionIntervalEnd (s : State) : Host.Outcome State Fault Refusal :=
  s.onPart (fun p =>
    intervalEnd .w (intervalEnd .s ((p.reach p.intervalAt).setIntervalAt (p.intervalAt + Config.supervisionTicks))))

/-- LOS_ASSERT (R158): the judgment due at this port asserts. -/
def execLosAssert (q : Port) (s : State) : Host.Outcome State Fault Refusal :=
  s.onPart (onlyWhen (fun p => !(p.port q).los && ((p.port q).judge p.params.losTime).los) (judgeLos q))

/-- LOS_CLEAR (R158): the judgment due at this port clears. -/
def execLosClear (q : Port) (s : State) : Host.Outcome State Fault Refusal :=
  s.onPart (onlyWhen (fun p => (p.port q).los && !((p.port q).judge p.params.losTime).los) (judgeLos q))

/-- QUALITY_WINDOW_END (R159): the interval that ends is the 256th of the port's window. -/
def execQualityWindowEnd (q : Port) (s : State) : Host.Outcome State Fault Refusal :=
  s.onPart (onlyWhen (fun p => decide (Config.qualityWindow ≤ (p.port q).window + 1)) (windowEnd q))

/-! ## Upset words (R69) -/

/-- The disturbed word stands in the bank, upset. -/
def Bank.upset (b : Bank) (word : Nat) (value : Word) : Bank := { b with words := memWrite b.words word ⟨value, false⟩ }

/-- WORD_UPSET (R69). -/
def execWordUpset (c : Corner) (id : BankId) (word : Fin 144) (value : Word) (s : State) :
    Host.Outcome State Fault Refusal :=
  s.onPart (fun p => p.modCorner c (CornerPart.modBanks (Banks.modBank id (fun b => b.upset word value))))

end Sys2Proof.Machine
end

