-- ==== Sys2Proof/Machine/Dispatch.lean ====
section
/-! DEFINITION. Machine/Dispatch.lean: one arm for each command, each a call of its meaning. -/

namespace Sys2Proof.Machine

open Sys2Proof

/-- What a command does to everything but the queue. -/
def exec (i : Instr) (s : State) : Host.Outcome State Fault Refusal :=
  match i with
  | .powerOnReset straps => Sys2Proof.Machine.execPowerOnReset straps s
  | .cycArrival instant dst src cyc => Sys2Proof.Machine.execCycArrival instant dst src cyc s
  | .missTimerExpiry => Sys2Proof.Machine.execMissTimerExpiry s
  | .deadlineExpiry => Sys2Proof.Machine.execDeadlineExpiry s
  | .holdLimitCrossed c => Sys2Proof.Machine.execHoldLimitCrossed c s
  | .sampleArrival dst src payload => Sys2Proof.Machine.execSampleArrival dst src payload s
  | .channelStuck c ch value => Sys2Proof.Machine.execChannelStuck c ch value s
  | .channelRelease c ch value => Sys2Proof.Machine.execChannelRelease c ch value s
  | .linkReset dst src payload => Sys2Proof.Machine.execLinkReset dst src payload s
  | .frameReceived instant port run => Sys2Proof.Machine.execFrameReceived instant port run s
  | .transmissionComplete port => Sys2Proof.Machine.execTransmissionComplete port s
  | .queryStatus o => Sys2Proof.Machine.execQueryStatus o s
  | .readParam o => Sys2Proof.Machine.execReadParam o s
  | .writeParam o => Sys2Proof.Machine.execWriteParam o s
  | .gainWrite o => Sys2Proof.Machine.execGainWrite o s
  | .gainClear o => Sys2Proof.Machine.execGainClear o s
  | .mapOpen o => Sys2Proof.Machine.execMapOpen o s
  | .mapData o => Sys2Proof.Machine.execMapData o s
  | .mapClose o => Sys2Proof.Machine.execMapClose o s
  | .validationBankJudged => Sys2Proof.Machine.execValidationBankJudged s
  | .mapSwap o => Sys2Proof.Machine.execMapSwap o s
  | .mapRead o => Sys2Proof.Machine.execMapRead o s
  | .engage o => Sys2Proof.Machine.execEngage o s
  | .release o => Sys2Proof.Machine.execRelease o s
  | .valveTest o => Sys2Proof.Machine.execValveTest o s
  | .valveTestEnd c cause => Sys2Proof.Machine.execValveTestEnd c cause s
  | .clearFault o => Sys2Proof.Machine.execClearFault o s
  | .fetchEvent o => Sys2Proof.Machine.execFetchEvent o s
  | .readCounters o => Sys2Proof.Machine.execReadCounters o s
  | .softReset o => Sys2Proof.Machine.execSoftReset o s
  | .unknownOrder o code => Sys2Proof.Machine.execUnknownOrder o code s
  | .pwmPeriodStart mv => Sys2Proof.Machine.execPwmPeriodStart mv s
  | .supplyLowAssert mv => Sys2Proof.Machine.execSupplyLowAssert mv s
  | .supplyLowClear mv => Sys2Proof.Machine.execSupplyLowClear mv s
  | .rampComplete c => Sys2Proof.Machine.execRampComplete c s
  | .currentSample c raw => Sys2Proof.Machine.execCurrentSample c raw s
  | .openCondition c im => Sys2Proof.Machine.execOpenCondition c im s
  | .shortSuspicion c im => Sys2Proof.Machine.execShortSuspicion c im s
  | .leakFault c im => Sys2Proof.Machine.execLeakFault c im s
  | .calibrationComplete c raw => Sys2Proof.Machine.execCalibrationComplete c raw s
  | .overcurrentTrip c raw ticks => Sys2Proof.Machine.execOvercurrentTrip c raw ticks s
  | .episodeRecovered c => Sys2Proof.Machine.execEpisodeRecovered c s
  | .supervisionIntervalEnd => Sys2Proof.Machine.execSupervisionIntervalEnd s
  | .losAssert port => Sys2Proof.Machine.execLosAssert port s
  | .losClear port => Sys2Proof.Machine.execLosClear port s
  | .qualityWindowEnd port => Sys2Proof.Machine.execQualityWindowEnd port s
  | .wordUpset c bank word value => Sys2Proof.Machine.execWordUpset c bank word value s

end Sys2Proof.Machine
end

