-- ==== Sys2Proof/Safety.lean ====
section
/-! DEFINITION. Safety.lean: what a sound state of the part is, in the terms the statements use: each predicate is one the spec
states of every state, and each is kept by every step. -/

namespace Sys2Proof.Machine

open Sys2Proof

/-- A property of each of the four corners. -/
def Part.eachCorner (p : Part) (holds : CornerPart → Prop) : Prop := ∀ c : Corner, holds (p.corner c)

/-! ## The map store -/

/-- Both banks of a corner hold their words in the canonical form. -/
def Banks.canonical (k : Banks) : Prop := memWf k.a.words = true ∧ memWf k.b.words = true

/-- Every bank holds its words in the canonical form. -/
def Part.storeCanonical (p : Part) : Prop := p.eachCorner (fun k => k.banks.canonical)

/-! ## Parameters (10.5, R170) -/

/-- Every parameter lies in its range, and the bounds of R170 between parameters hold. -/
structure Params.sound (params : Params) : Prop where
  ranges : ∀ id : ParamId, id.range.1 ≤ params.get id ∧ params.get id ≤ id.range.2
  duty : params.dutyMin ≤ params.dutyMax
  quality : params.qualOff < params.qualOn
  low : params.supplyLowOn ≤ params.supplyLowOff
  high : params.supplyHighOff ≤ params.supplyHighOn

/-- A setpoint is at most CURRENT_LIMIT at every corner (R85). -/
def Part.setpointsWithin (p : Part) : Prop := p.eachCorner (fun k => k.reg.setpoint ≤ p.params.currentLimit)

/-- The parameters are sound, and they bound the setpoints. -/
def Part.paramsSound (p : Part) : Prop := p.params.sound ∧ p.setpointsWithin

/-! ## Drivers (R81, R82, R87) -/

/-- The corner states in which the valve driver is disabled: the four of R81, PASSIVE with ramp complete, and phase CAL of a
valve test. -/
def CornerState.driverOff : CornerState → Bool
  | .off => true
  | .calibrating _ _ => true
  | .suspended => true
  | .fault => true
  | .passive rampComplete => rampComplete
  | .test .cal _ => true
  | .test .drive _ => false
  | .control => false

/-- A disabled driver has duty 0, setpoint 0 and a cleared loop (R82). -/
def Regulator.rests (r : Regulator) : Prop := r.duty = 0 ∧ r.setpoint = 0 ∧ r.e1 = 0 ∧ r.e2 = 0 ∧ r.u = 0

/-- A driver that is not enabled rests, and a corner state that has it disabled has it so (R81, R82). -/
def CornerPart.driverSound (k : CornerPart) : Prop :=
  (k.reg.enabled = false → k.reg.rests) ∧ (k.state.driverOff = true → k.reg.wanted = .disabled ∧ k.reg.enabled = false)

/-- Every corner's driver follows its corner state. -/
def Part.driversSound (p : Part) : Prop := p.eachCorner CornerPart.driverSound

/-- An enabled driver's accumulator and duty lie within the duty bounds (R87). -/
def Regulator.dutySound (r : Regulator) (params : Params) : Prop :=
  r.enabled = true → (params.dutyMin * 65536 ≤ r.u ∧ r.u ≤ params.dutyMax * 65536) ∧
    params.dutyMin ≤ r.duty ∧ r.duty ≤ params.dutyMax

/-- Every enabled driver is within the duty bounds, which are in order. -/
def Part.dutiesSound (p : Part) : Prop :=
  (p.paramsSound) ∧ p.eachCorner (fun k => k.reg.dutySound p.params)

/-! ## Motion and context (R17, R27) -/

/-- A motion record within the ranges of R27. -/
structure Motion.sound (m : Motion) (holdLimit : Nat) : Prop where
  held : m.held ≤ holdLimit
  height : |m.hPrev| ≤ 150000
  damper : |m.vf| ≤ 8000
  body : |m.vb| ≤ 2000000
  wheel : |m.vw| ≤ 2000000

/-- The vehicle context within the ranges of R17. -/
def Context.sound (x : Context) : Prop := x.speed ≤ 3000 ∧ ∀ c : Corner, |x.offsets.get c| ≤ 8000

/-- Context, motion records and substitute run count within their ranges (R17, R27, 1.1). -/
structure Part.motionSound (p : Part) : Prop where
  context : p.context.sound
  motion : p.eachCorner (fun k => k.motion.sound p.params.holdLimit)
  run : p.tracker.runCount ≤ Config.holdoverLimit

/-! ## Queues (R152, R154) -/

/-- The forwarding queues hold at most 16 frames, and the replies with the reservation fill at most four places. -/
structure Part.queuesSound (p : Part) : Prop where
  wheelBound : p.link.wheelBound.length ≤ Config.queueDepth
  chassisBound : p.link.chassisBound.length ≤ Config.queueDepth
  replies : p.link.replies.length + (if p.slot.isSome then 1 else 0) ≤ Config.replyPlaces

/-! ## Pending events (R177 to R179) -/

/-- The pending event set: in the priority order, one entry a pair, repeat counts from 1 to 255. -/
def eventsSound (events : List Entry) : Prop :=
  events.Pairwise (fun x y => x.event.rank < y.event.rank) ∧ ∀ x ∈ events, 1 ≤ x.count ∧ x.count ≤ 255

/-! ## The gain schedule (R43, R44) -/

/-- The bands of a mode: the present ones form an unbroken run from band 0 upward with bounds that rise from 0, and each lies
within the limits GAIN_WRITE enforces. -/
structure Bands.sound (b : Bands) : Prop where
  run : ∀ n, n < 7 → (b.get (n + 1)).present = true →
    (b.get n).present = true ∧ (b.get n).bound < (b.get (n + 1)).bound
  first : (b.get 0).present = true → (b.get 0).bound = 0
  limits : ∀ n, (b.get n).present = true →
    (b.get n).bound ≤ 3000 ∧ (b.get n).cBase ≤ 20000 ∧ (b.get n).cSky ≤ 20000 ∧ (b.get n).cGnd ≤ 20000

/-- The bands of every mode are sound. -/
def Schedule.sound (s : Schedule) : Prop := ∀ m : Mode, (s.get m).sound

/-! ## The loaded condition (R43, R113) -/

/-- The control state follows the loaded condition in UNLOADED and STANDBY, and the schedule is complete throughout ENGAGING and
ENGAGED. -/
structure Part.loadSound (p : Part) : Prop where
  standby : p.control = .standby → p.loaded = true
  unloaded : p.control = .unloaded → p.loaded = false
  complete : p.control = .engaging ∨ p.control = .engaged → p.schedule.complete = true

/-! ## The supervisor (R120, R122) -/

/-- The corner states of a part whose dampers are not engaged. -/
def CornerState.unengaged : CornerState → Bool
  | .off => true
  | .calibrating .engage _ => true
  | .calibrating .recal _ => false
  | .fault => true
  | .test _ _ => true
  | .control => false
  | .suspended => false
  | .passive _ => false

/-- The corner states that a passive reason ends in ENGAGED (R122). -/
def CornerState.needsNoReason : CornerState → Bool
  | .control => true
  | .suspended => true
  | .calibrating .recal _ => true
  | _ => false

/-- A corner's state fits the control state: none is engaged outside ENGAGED and RELEASING, and in ENGAGED a corner that
regulates or retries carries no passive reason (R120, R122). -/
def CornerPart.supervised (k : CornerPart) : ControlState → Prop
  | .unloaded => k.state.unengaged = true
  | .standby => k.state.unengaged = true
  | .engaging => k.state.unengaged = true
  | .engaged => k.state.needsNoReason = true → k.reasons.none = true
  | .releasing => True

/-- Every corner's state fits the control state. -/
def Part.supervised (p : Part) : Prop := p.eachCorner (fun k => k.supervised p.control)

end Sys2Proof.Machine
end

