-- ==== Sys2Proof/Certificates/Slice0/Obligations.lean ====
section
/-! DEFINITION. Certificates/Slice0/Obligations.lean: the statements for the provers, with the few words they are written in
(`Sys2Proof.Claims`). `exec`, `step` and the model's operations are those of Machine; the numbers are the spec's. -/

namespace Sys2Proof.Claims

open Sys2Proof Sys2Proof.Machine

/-- The command answers the next state with this part, and leaves the queue as it stood. -/
def answers (i : Instr) (s : State) (q : Part) : Prop := exec i s = .next ⟨q, s.pending⟩

/-- An order that arrives is taken: the slot is FREE and the reply queue has an available place (R163). -/
def takesOrders (p : Part) : Prop := p.slot = none ∧ p.link.replies.length < 4

/-- The part after a good frame at a port: GOOD_FRAMES counted, the interval's mark set (R149, R157). -/
def afterGood (q : Port) (p : Part) : Part :=
  p.modPort q (fun k => { k with
    goodMark := true, counters := { k.counters with goodFrames := min 4294967295 (k.counters.goodFrames + 1) } })

/-- The part after an order is answered: its good frame, this effect, and the REPLY placed (R165, R190). -/
def afterOrder (o : OrderIn) (code result reason : Byte) (data : List Byte) (effect : Part → Part) (p : Part) : Part :=
  placeReply ⟨o.src, p.address, 0x11, o.tag :: code :: result :: reason :: data⟩ (effect (afterGood .s p))

/-- The context a CYC leaves (R2). -/
def adopted (x : Context) (c : CycPayload) : Context where
  speed := min c.speed.toNat 3000
  mode := if c.mode = 0 then .comfort else if c.mode = 1 then .normal else if c.mode = 2 then .sport else x.mode
  offsets := c.offsets.map (fun w => max (-8000) (min 8000 w.toInt))
  source := .controller

/-- The number of fields of a CYC that R2 clamps or leaves unchanged. -/
def clampCount (c : CycPayload) : Nat :=
  (if 3000 < c.speed.toNat then 1 else 0) + (if 2 < c.mode.toNat then 1 else 0) +
    (c.offsets.toList.filter (fun w => decide (w.toInt < -8000 ∨ 8000 < w.toInt))).length

/-- What no cycle start touches: parameters, schedule, straps, PWM counter, supply flags, load state, order slot, input pins and
the supervision grid. -/
def cycleFrame (p q : Part) : Prop :=
  q.params = p.params ∧ q.schedule = p.schedule ∧ q.straps = p.straps ∧ q.pwm = p.pwm ∧ q.supply = p.supply ∧
    q.store = p.store ∧ q.slot = p.slot ∧ q.pins = p.pins ∧ q.intervalAt = p.intervalAt

/-- What a cycle start leaves at every corner: the mean starts afresh, no swap stays pending, no corner stays SUSPENDED
(R92, R144, R101). -/
def cornersStarted (q : Part) : Prop :=
  ∀ c : Corner, (q.corner c).reg.meanSum = 0 ∧ (q.corner c).reg.meanCount = 0 ∧ (q.corner c).reg.meanRunning = true ∧
    (q.corner c).banks.swapPending = false ∧ (q.corner c).state ≠ .suspended

/-- An event of this pair is pending. -/
def pendingEvent (q : Part) (e : Event) : Prop := ∃ x ∈ q.events, x.event = e

/-- A diagnosis whose episode ends recovered (R102). -/
def recovered (d : Diagnosis) : Diagnosis :=
  { d with
    episode := none
    record := { d.record with
      total := min 4294967295 (d.record.total + d.record.attempts)
      recovered := true
      kind := .noFault
      round := 0
      attempts := 0 } }

/-- VALVE_RECOVERED is pending for a corner, with this last kind as its parameter (R102, R190). -/
def recoveryRaised (q : Part) (c : Corner) (kind : FaultKind) : Prop :=
  ∃ e ∈ q.events, e.event = .valveRecovered c ∧ e.parameter = kind.code

/-- The banks of a corner once a pending swap has taken effect: the shadow ACTIVE and named, the bank named before READY, or
EMPTY if it was CORRUPT, the mark clear; no word changes (R143). -/
def swapped (k q : Banks) : Prop :=
  q.active = some k.shadow ∧ q.swapPending = false ∧
    ∀ id, (q.get id).words = (k.get id).words ∧ (q.get id).check = (k.get id).check ∧
      (id = k.shadow → (q.get id).state = .active) ∧
      (some id = k.active → (q.get id).state = match (k.get id).state with
        | .active => .ready
        | .corrupt => .empty
        | y => y)

/-- What a cycle start does at a corner, the cycle before it closed: a pending swap takes effect; a SUSPENDED corner returns to
CONTROL with a proving window of 64; the window of a corner in CONTROL counts down, and its last count ends the episode recovered;
any other diagnosis stays (R101, R102, R143, R144). -/
def cornerStarted (p q : Part) (c : Corner) : Prop :=
  let k := p.corner c
  let settled := k.banks.swapPending = false ∨ k.reasons = ⟨false, false, false, false, false⟩
  (k.banks.swapPending = true → swapped k.banks (q.corner c).banks ∧
    (q.corner c).reasons = { k.reasons with map := false } ∧ pendingEvent q (.mapSwapped c)) ∧
  (k.banks.swapPending = false → (q.corner c).banks = k.banks ∧ (q.corner c).reasons = k.reasons) ∧
  (k.state = .suspended → settled → (q.corner c).state = .control ∧
    (q.corner c).reg = { k.reg with wanted := .tracking, meanSum := 0, meanCount := 0, meanRunning := true } ∧
    (q.corner c).diag = { k.diag with episode := k.diag.episode.map (fun e => { e with window := some 64 }) }) ∧
  (∀ limit w, k.state = .control → k.diag.episode = some ⟨limit, some w⟩ → settled → (q.corner c).state = .control ∧
    (2 ≤ w → (q.corner c).diag = { k.diag with episode := some ⟨limit, some (w - 1)⟩ }) ∧
    (w = 1 → (q.corner c).diag = recovered k.diag ∧ recoveryRaised q c k.diag.record.kind)) ∧
  (k.state ≠ .suspended → (∀ limit w, k.state = .control → k.diag.episode ≠ some ⟨limit, some w⟩) →
    k.banks.swapPending = false → (q.corner c).state = k.state ∧ (q.corner c).diag = k.diag)

/-- A CYC is forwarded down unchanged: it joins the tail of the wheel-bound queue, is dropped and counted FORWARD_DROP when 16
wait, or is sent at once by an IDLE transmitter with nothing waiting (R5, R152, R156). -/
def cycForwarded (p q : Part) (instant : Nat) (f : Frame) : Prop :=
  (p.portW.sending.isSome = true → p.link.wheelBound.length < 16 →
    q.link.wheelBound = p.link.wheelBound ++ [f] ∧ q.link.substitute = p.link.substitute ∧ q.portW = p.portW) ∧
  (p.link.wheelBound.length = 16 →
    q.link.wheelBound = p.link.wheelBound ∧ q.link.substitute = p.link.substitute ∧ q.portW = { p.portW with
      counters := { p.portW.counters with forwardDrop := min 4294967295 (p.portW.counters.forwardDrop + 1) } }) ∧
  (p.portW.sending = none → p.link.wheelBound = [] → p.link.substitute = none →
    q.link.wheelBound = [] ∧ q.link.substitute = none ∧ q.portW = { p.portW with sending := some ⟨f, instant + 440⟩ })

/-- The substitute CYC frame of a cycle number (R8). -/
def substituteOf (p : Part) (number : Word) : Frame :=
  ⟨0xFF, p.address, 0x01, CycPayload.bytes ⟨number, BitVec.ofNat 16 p.context.speed, p.context.mode.code, .fill 0, 1⟩⟩

/-- A substitute was originated at an instant: a SUBSTITUTE cycle numbered one above the last, its timers, the count, and the
frame pending at Port W, or sent at once by an IDLE transmitter (R4, R8, R156). -/
def originated (p q : Part) (instant : Nat) (state : TrackerState) (run : Nat) : Prop :=
  q.now = instant ∧
    q.tracker = {
      state := state
      previous := some p.tracker.record.number
      record := ⟨p.tracker.record.number + 1, .substitute, .fill false, .fill false, false⟩
      lastStart := some instant
      runCount := run
      missAt := some (instant + 20000)
      deadlineAt := some (instant + 40 * p.params.deadline) } ∧
    q.globals.substitutes = min 4294967295 (p.globals.substitutes + 1) ∧
    (p.portW.sending.isSome = true → q.link.substitute = some (substituteOf p (p.tracker.record.number + 1)) ∧
      q.portW = p.portW) ∧
    (p.portW.sending = none → q.portW.sending = some ⟨substituteOf p (p.tracker.record.number + 1), instant + 440⟩) ∧
    q.link.wheelBound = p.link.wheelBound ∧ cycleFrame p q ∧ cornersStarted q ∧
    (p.tracker.record.closed = true → ∀ c : Corner, cornerStarted p q c)

/-- The filter time of TRIP_FILTER in ticks (R88). -/
def filterTime : Nat → Nat
  | 0 => 0
  | 1 => 5
  | 2 => 10
  | _ => 20

/-- The measured current of a raw reading (R78). -/
def measuredCurrent (params : Params) (r : Regulator) (raw : BitVec 12) : Int :=
  divRound (((raw.toNat : Int) - r.offset) * params.senseGain) 1024

/-- Whether a channel is dropped at a fresh computation: marked invalid, stuck after its tracker is updated, or, where the
computation clears its flag, as the free value says (R31, R38, R39; log entry 22). -/
def drops (before after invalid : Bool) : Bool := invalid || after || (before && Config.clearingDrops)

/-! Fields of 12.1 and 12.4, most significant byte first (R186). -/

def byteOf (n : Nat) : Byte := BitVec.ofNat 8 n
def field16 (n : Nat) : List Byte := [byteOf (n / 256), byteOf n]
def field32 (n : Nat) : List Byte := [byteOf (n / 16777216), byteOf (n / 65536), byteOf (n / 256), byteOf n]
def signed16 (x : Int) : List Byte := field16 (BitVec.ofInt 16 x).toNat

/-- The number of a set whose members stand in bits 0 to 4 (R186). -/
def setOf (b0 b1 b2 b3 b4 : Bool) : Nat := b0.toNat + 2 * b1.toNat + 4 * b2.toNat + 8 * b3.toNat + 16 * b4.toNat

def reasonSet (r : Reasons) : Nat := setOf r.stale r.sensor r.link r.supply r.map
def stuckSet (x : Channels) : Nat := setOf x.ab.stuck x.aw.stuck x.h.stuck false false

/-! Codes of enumerated fields (R186). -/

def controlCode : ControlState → Nat
  | .unloaded => 0
  | .standby => 1
  | .engaging => 2
  | .engaged => 3
  | .releasing => 4

def trackerCode : TrackerState → Nat
  | .unlocked => 0
  | .locked => 1
  | .holdover => 2
  | .localState => 3

def cornerCode : CornerState → Nat
  | .off => 0
  | .calibrating _ _ => 1
  | .control => 2
  | .suspended => 3
  | .passive _ => 4
  | .fault => 5
  | .test _ _ => 6

def sourceCode : ContextSource → Nat
  | .controller => 0
  | .held => 1
  | .localSource => 2

def bankCode : BankState → Nat
  | .empty => 0
  | .loading => 1
  | .checking => 2
  | .ready => 3
  | .active => 4
  | .corrupt => 5

def faultCode : FaultKind → Nat
  | .noFault => 0
  | .openWinding => 1
  | .shortWinding => 2
  | .leak => 3
  | .senseOffset => 4

def modeNumber : Mode → Nat
  | .comfort => 0
  | .normal => 1
  | .sport => 2

/-- The regulator mode as carried: DISABLED with or without a calibration, TRACKING or RAMPING (R81, R186). -/
def regulatorCode (r : Regulator) : Nat :=
  if r.enabled = true ∧ r.wanted = .tracking then 2 else if r.enabled = true ∧ r.wanted = .ramping then 3
  else if r.calibration.isSome then 1 else 0

/-! The report and the status views (R182, R184, R189, R190). -/

/-- A compressed count as carried (R182, R189). -/
def countByte (n : Nat) : Byte := byteOf ((compress n).1 * 32 + (compress n).2)

/-- The eleven bytes of a corner of the report (R92, R184, R189). -/
def reportCornerBytes (k : CornerPart) (computed fresh : Bool) : List Byte :=
  [byteOf (cornerCode k.state), byteOf (reasonSet k.reasons),
    byteOf (stuckSet k.stuck + 16 * (if fresh then 1 else if computed then 2 else 0))] ++ signed16 k.motion.vf ++
    field16 k.lastDemand ++ field16 k.lastTarget ++
    signed16 (if k.reg.meanCount = 0 then 0 else divRound k.reg.meanSum k.reg.meanCount)

/-- The 55 bytes of the report of a part (R180, R183, R184, R189). -/
def reportBytes (p : Part) : List Byte :=
  field16 p.tracker.record.number.toNat ++ [if p.tracker.record.kind = .controller then 0 else 1,
    byteOf (controlCode p.control), byteOf (trackerCode p.tracker.state), byteOf (sourceCode p.context.source),
    byteOf (setOf (p.events.any (fun x => !p.params.eventMask.testBit (x.event.kindCode - 1))) p.portS.alarm p.portW.alarm
      false false), byteOf p.events.length, countByte p.portS.counters.check, countByte p.portW.counters.check,
    countByte (min 4294967295 ((p.corner .fl).counters.late + (p.corner .fr).counters.late + (p.corner .rl).counters.late +
      (p.corner .rr).counters.late))] ++
    Corner.all.flatMap (fun c => reportCornerBytes (p.corner c) (p.tracker.record.computed.get c) (p.tracker.record.fresh.get c))

/-- The fields of QUERY_STATUS, view PART (R167, R190). -/
def partBytes (p : Part) : List Byte :=
  [byteOf (controlCode p.control), byteOf (trackerCode p.tracker.state)] ++ field16 p.tracker.record.number.toNat ++
    [byteOf p.tracker.runCount] ++ field16 p.context.speed ++ [byteOf (modeNumber p.context.mode)] ++
    signed16 p.context.offsets.fl ++ signed16 p.context.offsets.fr ++ signed16 p.context.offsets.rl ++
    signed16 p.context.offsets.rr ++ [byteOf (sourceCode p.context.source)] ++
    (match p.selection with
      | none => [0xFF, 0xFF]
      | some x => [byteOf x.band, byteOf (modeNumber x.mode)]) ++
    [byteOf (setOf p.supply.low p.supply.high false false false),
      byteOf (setOf p.portS.los p.portS.alarm p.portW.los p.portW.alarm false), byteOf p.link.wheelBound.length,
      byteOf p.link.chassisBound.length,
      byteOf (setOf p.store.group.fl p.store.group.fr p.store.group.rl p.store.group.rr false), byteOf p.store.pointer,
      byteOf p.events.length]

/-- The fields of QUERY_STATUS, view CORNER (R167, R186, R190). -/
def cornerBytes (c : Corner) (k : CornerPart) : List Byte :=
  [byteOf c.index, byteOf (cornerCode k.state),
    (match k.state with
      | .calibrating purpose calibrated => byteOf (setOf (decide (purpose = .recal)) calibrated false false false)
      | .passive rampComplete => byteOf (setOf false false rampComplete false false)
      | _ => 0),
    byteOf (reasonSet k.reasons), byteOf (stuckSet k.stuck), byteOf (faultCode k.diag.record.kind),
    byteOf k.diag.record.round, byteOf k.diag.record.attempts] ++ field32 k.diag.record.total ++
    [byteOf k.diag.record.recovered.toNat] ++ field16 k.diag.record.firstCycle.toNat ++
    [byteOf k.diag.episode.isSome.toNat, byteOf ((k.diag.episode.bind (·.window)).getD 0), byteOf (regulatorCode k.reg)] ++
    field16 k.reg.setpoint ++ field16 k.reg.duty ++ field16 k.reg.offset ++
    [byteOf (bankCode k.banks.a.state), byteOf (bankCode k.banks.b.state),
      (match k.banks.active with
        | none => 0
        | some .a => 1
        | some .b => 2), byteOf k.banks.swapPending.toNat]

/-- A frame was placed in the report slot, and waits there or is being sent. -/
def reportPlaced (q : Part) (f : Frame) : Prop := q.link.report = some f ∨ ∃ t, q.portS.sending = some ⟨f, t⟩

end Sys2Proof.Claims

open Sys2Proof Sys2Proof.Machine Sys2Proof.Claims

/-! ## The machine -/

/-- A step with a command at the front of the queue is that command's exec on the state with the queue's rest. -/
def Obligations.StepRunsTheFrontCommand : Prop :=
  ∀ (i : Instr) (s : State), step { s with pending := i :: s.pending } = exec i s

/-- On an empty queue a step is one tick: the clock and the PWM counter advance, each comparator's run goes on by a tick while
its gate is on and the level of its sense pin is above TRIP_LEVEL and is 0 otherwise, nothing else of the part changes, and the
timers and trips then due wait as commands (R75, R76, R88). That the tick is the step on an empty queue is the model's choice
(log entry 2). -/
def Obligations.StepIdlesForOneTick : Prop :=
  ∀ s : State, s.pending = [] → ∃ t, step s = .next t ∧
    t.part = { s.part with now := s.part.now + 1, pwm := t.part.pwm, corners := t.part.corners } ∧
    (s.part.pwm.up = false → 1 ≤ s.part.pwm.count →
      t.part.pwm = { s.part.pwm with count := s.part.pwm.count - 1, up := decide (s.part.pwm.count = 1) }) ∧
    (s.part.pwm.up = true → s.part.pwm.count < s.part.pwm.half →
      t.part.pwm = { s.part.pwm with count := s.part.pwm.count + 1 }) ∧
    (∀ c : Corner, ∃ run, t.part.corner c = { s.part.corner c with reg := { (s.part.corner c).reg with overRun := run } } ∧
      ((s.part.pwm.up = false ∧ 1 ≤ s.part.pwm.count ∨ s.part.pwm.up = true ∧ s.part.pwm.count < s.part.pwm.half) →
        run = if t.part.gate c = true ∧
            (s.part.pwm.tripLevel : Int) < measuredCurrent s.part.params (s.part.corner c).reg (s.part.pins.sense.get c)
          then (if s.part.gate c then (s.part.corner c).reg.overRun else 0) + 1 else 0) ∧
      (Instr.overcurrentTrip c (s.part.pins.sense.get c) 0 ∈ t.pending ↔
        t.part.gate c = true ∧ filterTime s.part.pwm.tripFilter < run)) ∧
    (Instr.missTimerExpiry ∈ t.pending ↔ ∃ m, s.part.tracker.missAt = some m ∧ m ≤ s.part.now + 1) ∧
    (Instr.deadlineExpiry ∈ t.pending ↔ ∃ d, s.part.tracker.deadlineAt = some d ∧ d ≤ s.part.now + 1) ∧
    (Instr.supervisionIntervalEnd ∈ t.pending ↔ s.part.intervalAt ≤ s.part.now + 1)

/-- POWER_ON_RESET gives every block the values its chapter states, in any state: the tracker, the corners with their loops and
means, the banks, the ports and queues, all 40 parameters, and the values held for the first PWM period (R18, R33, R41, R42,
R57, R74, R75, R93, R112, R130, R147, R162, R172, R176, R185). The straps are read. That the commands that wait stay is the model's choice
(log entry 18), and the levels at the input pins are the model's own field (log entry 8). -/
def Obligations.PowerOnReset : Prop :=
  ∀ (straps : BitVec 2) (s : State), ∃ t, exec (.powerOnReset straps) s = .next t ∧ t.pending = s.pending ∧
    t.part.straps = straps ∧ t.part.now = 0 ∧
    t.part.tracker = ⟨.unlocked, none, ⟨0, .controller, .fill false, .fill false, true⟩, none, 0, none, none⟩ ∧
    t.part.context = ⟨0, .normal, .fill 0, .localSource⟩ ∧ t.part.control = .unloaded ∧ t.part.selection = none ∧
    (∀ m k, (t.part.schedule.get m).get k = ⟨false, 0, 0, 0, 0⟩) ∧
    (∀ c : Corner, (t.part.corner c).motion = ⟨false, 0, 0, 0, 0, 0⟩ ∧ (t.part.corner c).lastDemand = 0 ∧
      (t.part.corner c).lastTarget = 0 ∧ (t.part.corner c).state = .off ∧ (t.part.corner c).reasons = ⟨false, false, false, false, false⟩ ∧
      (∀ ch, (t.part.corner c).stuck.get ch = ⟨none, 0, 0, false⟩) ∧
      (∀ id, ((t.part.corner c).banks.get id).state = .empty ∧ ∀ n, memRead ((t.part.corner c).banks.get id).words n = ⟨0, true⟩) ∧
      (t.part.corner c).banks.active = none ∧ (t.part.corner c).banks.swapPending = false ∧
      (t.part.corner c).reg.mode = .disabled ∧ (t.part.corner c).reg.setpoint = 0 ∧ (t.part.corner c).reg.duty = 0 ∧
      (t.part.corner c).reg.compare = 0 ∧ (t.part.corner c).reg.target = 0 ∧ (t.part.corner c).reg.offset = 2048 ∧
      (t.part.corner c).reg.calibration = none ∧ (t.part.corner c).reg.firstTrip = false ∧
      (t.part.corner c).reg.meanRunning = false ∧ (t.part.corner c).reg.e1 = 0 ∧ (t.part.corner c).reg.e2 = 0 ∧
      (t.part.corner c).reg.u = 0 ∧ (t.part.corner c).reg.meanSum = 0 ∧ (t.part.corner c).reg.meanCount = 0 ∧
      (t.part.corner c).reg.overRun = 0 ∧ (t.part.corner c).reg.tripped = false ∧ (t.part.corner c).reg.sampled = false ∧
      (t.part.corner c).diag = ⟨0, 0, 0, none, ⟨.noFault, 0, 0, 0, false, 0⟩⟩ ∧
      (t.part.corner c).counters = ⟨0, 0, 0, 0, 0, 0, 0, 0, 0, 0⟩) ∧
    t.part.store = ⟨.fill false, 0, none, 0⟩ ∧ t.part.pwm = ⟨1000, false, 1000, 2600, 1, false, false⟩ ∧
    t.part.supply = ⟨false, 0, false⟩ ∧
    (∀ q : Port, t.part.port q = ⟨none, false, 0, 0, false, false, 0, 0, ⟨0, 0, 0, 0, 0⟩⟩) ∧
    t.part.intervalAt = 20000 ∧ t.part.link = ⟨[], [], [], none, none⟩ ∧ t.part.slot = none ∧
    t.part.params = ⟨2, 10, 8, 3, 120, 16, 70000, 150, 16000, 20, 350, 1, 1800, 20, 10, 1000, 1536, 48000, 8000, 0, 0, 29491, 60,
      2600, 1, 0, 4, 150, 40, 120, 10, 9000, 9800, 16500, 15800, 4, 8, 1, 0, 0⟩ ∧
    t.part.events = [⟨.restarted, 1, 0, 0⟩] ∧ t.part.globals = ⟨0, 0, 0, 0, 0, 0⟩ ∧ t.part.pins = s.part.pins

/-! ## The cycle tracker (chapter 1) -/

/-- A CYC that arrives 250 µs or more after the last cycle start, or with none recorded, starts a cycle with its own number in
every tracker state: record, timers, last start, context with its clamps counted, and the frame forwarded down unchanged (R2, R4,
R5). With the cycle before it closed, each corner takes its pending swap, returns from SUSPENDED with a window of 64, or counts its
window (R101, R102, R143, R144), and nothing else is placed or counted. A cycle still open is closed first, as its deadline at this
instant would close it (R4, R14). That the previous number at the very first cycle start is the record's own, 0 and present, is
the model's reading (log entry 4). -/
def Obligations.CycStartsACycle : Prop :=
  ∀ (instant : Nat) (dst src : Byte) (x : CycPayload) (s : State), s.part.now ≤ instant →
    (∀ a, s.part.tracker.lastStart = some a → a + 10000 ≤ instant) →
    ∃ t, exec (.cycArrival instant dst src x) s = .next t ∧ t.pending = s.pending ∧ t.part.now = instant ∧
      t.part.tracker = {
        state := .locked
        previous := some s.part.tracker.record.number
        record := ⟨x.number, .controller, .fill false, .fill false, false⟩
        lastStart := some instant
        runCount := 0
        missAt := some (instant + 25000)
        deadlineAt := some (instant + 40 * s.part.params.deadline) } ∧
      t.part.context = adopted s.part.context x ∧ cycleFrame s.part t.part ∧ cornersStarted t.part ∧
      cycForwarded s.part t.part instant ⟨dst, src, 0x01, x.bytes⟩ ∧
      t.part.globals = { s.part.globals with
        contextClamp := min 4294967295 (s.part.globals.contextClamp + clampCount x)
        reportOverrun := t.part.globals.reportOverrun } ∧
      (s.part.tracker.record.closed = true → t.part.portS = (afterGood .s s.part).portS ∧
        t.part.link = { s.part.link with
          wheelBound := t.part.link.wheelBound, substitute := t.part.link.substitute } ∧
        t.part.globals.reportOverrun = s.part.globals.reportOverrun ∧ ∀ c : Corner, cornerStarted s.part t.part c) ∧
      (s.part.tracker.record.closed = false → ∀ u,
        exec .deadlineExpiry { s with part := { s.part with tracker := { s.part.tracker with deadlineAt := some instant } } } =
          .next u → exec (.cycArrival instant dst src x) u = .next t)

/-- A CYC less than 250 µs after the last cycle start is blanked: its context is adopted, the tracker is LOCKED with run count
0 and a miss timer measuring from this arrival, EARLY_CYCLE is counted, and nothing else changes but the good frame's count
and mark: no cycle starts, and the frame joins no queue (R3). -/
def Obligations.CycBlanked : Prop :=
  ∀ (instant a : Nat) (dst src : Byte) (x : CycPayload) (s : State), s.part.now ≤ instant →
    s.part.tracker.lastStart = some a → instant < a + 10000 →
    answers (.cycArrival instant dst src x) s { afterGood .s s.part with
      now := instant
      tracker := { s.part.tracker with state := .locked, runCount := 0, missAt := some (instant + 25000) }
      context := adopted s.part.context x
      globals := { s.part.globals with
        contextClamp := min 4294967295 (s.part.globals.contextClamp + clampCount x)
        earlyCycle := min 4294967295 (s.part.globals.earlyCycle + 1) } }

/-- In LOCKED, with control state ENGAGED and SUBSTITUTE = 1, the miss expiry enters HOLDOVER: the held context keeps its
values with source HELD, CYCLE_HOLDOVER is raised, and the first substitute is originated. In any other case it enters
UNLOCKED: timers stopped, record closed, run count 0, every record unprimed, every corner STALE, and nothing else changed beside
the corners and the events they raise (R6, R8, R9, R12). Where the clock stands beyond the timer's instant it stays (log
entry 1). -/
def Obligations.MissInLocked : Prop :=
  ∀ (m : Nat) (s : State), s.part.tracker.missAt = some m → s.part.tracker.state = .locked →
    (s.part.control = .engaged → s.part.params.substitute = 1 →
      ∃ t, exec .missTimerExpiry s = .next t ∧ t.pending = s.pending ∧
        originated s.part t.part (max s.part.now m) .holdover 1 ∧
        t.part.context = { s.part.context with source := .held } ∧ pendingEvent t.part .cycleHoldover) ∧
    (¬ (s.part.control = .engaged ∧ s.part.params.substitute = 1) →
      ∃ t, exec .missTimerExpiry s = .next t ∧ t.pending = s.pending ∧
        t.part = { s.part with
          now := max s.part.now m
          tracker := { s.part.tracker with
            state := .unlocked, missAt := none, deadlineAt := none, runCount := 0
            record := { s.part.tracker.record with closed := true } }
          corners := t.part.corners
          events := t.part.events } ∧
        ∀ c : Corner, (t.part.corner c).motion = ⟨false, 0, 0, 0, 0, 0⟩ ∧ (t.part.corner c).reasons.stale = true ∧
          (t.part.corner c).banks = (s.part.corner c).banks ∧ (t.part.corner c).stuck = (s.part.corner c).stuck)

/-- In HOLDOVER and LOCAL the miss expiry originates the next substitute: with the run counted below 16, in LOCAL with the
offsets zeroed and CYCLE_LOCAL raised at the limit, and with the run unchanged in LOCAL (R7, R8, R9). Where the clock stands
beyond the timer's instant it stays (log entry 1). -/
def Obligations.SubstituteRun : Prop :=
  ∀ (m : Nat) (s : State), s.part.tracker.missAt = some m →
    (s.part.tracker.state = .holdover → s.part.tracker.runCount < 16 →
      ∃ t, exec .missTimerExpiry s = .next t ∧ t.pending = s.pending ∧
        originated s.part t.part (max s.part.now m) .holdover (s.part.tracker.runCount + 1) ∧
        t.part.context = s.part.context) ∧
    (s.part.tracker.state = .holdover → s.part.tracker.runCount = 16 →
      ∃ t, exec .missTimerExpiry s = .next t ∧ t.pending = s.pending ∧
        originated s.part t.part (max s.part.now m) .localState 16 ∧
        t.part.context = { s.part.context with offsets := .fill 0, source := .localSource } ∧
        pendingEvent t.part .cycleLocal) ∧
    (s.part.tracker.state = .localState →
      ∃ t, exec .missTimerExpiry s = .next t ∧ t.pending = s.pending ∧
        originated s.part t.part (max s.part.now m) .localState s.part.tracker.runCount ∧
        t.part.context = s.part.context)

/-- The deadline of an open cycle closes it: in a control state that computes, every corner not yet computed is computed held
and counts HELD: one that is STALE, or whose held count would exceed HOLD_LIMIT, is unprimed and STALE, and any other holds on, its
integrators leaking. The corners computed before keep their records; the means stop; the report of 55 bytes, every field as the
part then stands, is placed (R14, R15, R31, R32, R92, R184, R189). Where the clock stands beyond the timer's instant it stays
(log entry 1). -/
def Obligations.DeadlineCloses : Prop :=
  ∀ (d : Nat) (s : State), s.part.tracker.deadlineAt = some d → s.part.tracker.record.closed = false →
    ∃ t, exec .deadlineExpiry s = .next t ∧ t.pending = s.pending ∧ t.part.now = max s.part.now d ∧
      t.part.tracker = { s.part.tracker with
        deadlineAt := none
        record := { s.part.tracker.record with
          closed := true
          computed := if s.part.control.computes then .fill true else s.part.tracker.record.computed } } ∧
      (∀ c : Corner, (t.part.corner c).reg.meanRunning = false ∧
        ((s.part.tracker.record.computed.get c = true ∨ s.part.control.computes = false) →
          (t.part.corner c).motion = (s.part.corner c).motion ∧ (t.part.corner c).counters.held = (s.part.corner c).counters.held) ∧
        ((s.part.tracker.record.computed.get c = false ∧ s.part.control.computes = true) →
          (t.part.corner c).counters.held = min 4294967295 ((s.part.corner c).counters.held + 1) ∧
          ((s.part.corner c).reasons.stale = true ∨ s.part.params.holdLimit < (s.part.corner c).motion.held + 1 →
            (t.part.corner c).motion = ⟨false, 0, 0, 0, 0, 0⟩ ∧ (t.part.corner c).reasons.stale = true) ∧
          ((s.part.corner c).reasons.stale = false → (s.part.corner c).motion.held + 1 ≤ s.part.params.holdLimit →
            (t.part.corner c).reasons.stale = false ∧ (t.part.corner c).motion = { (s.part.corner c).motion with
              held := (s.part.corner c).motion.held + 1
              vb := (s.part.corner c).motion.vb - trunc0 (s.part.corner c).motion.vb (2 ^ s.part.params.bodyLeak)
              vw := (s.part.corner c).motion.vw - trunc0 (s.part.corner c).motion.vw (2 ^ s.part.params.wheelLeak) }))) ∧
      t.part.context = s.part.context ∧ cycleFrame s.part t.part ∧ t.part.portW = s.part.portW ∧
      (reportBytes t.part).length = 55 ∧ reportPlaced t.part ⟨0x01, s.part.address, 0x12, reportBytes t.part⟩

/-- A last cycle start lies in the past, and the miss timer that follows it 250 µs or more ahead of it. -/
def Sys2Proof.Claims.spaced (p : Part) : Prop :=
  ∀ a, p.tracker.lastStart = some a → a ≤ p.now ∧ ∀ m, p.tracker.missAt = some m → a + 10000 ≤ m

/-- The law on cycle spacing, over every command: a step keeps the spacing condition, and a new cycle start comes 250 µs or
more after the last one recorded, whatever started it (R3). Only POWER_ON_RESET at the front of the queue forgets the last
start: a soft reset keeps it (R18, R19). -/
def Obligations.CycleSpacingKept : Prop :=
  ∀ s t : State, spaced s.part → step s = .next t →
    spaced t.part ∧ ∀ a, s.part.tracker.lastStart = some a →
      (t.part.tracker.lastStart = none ∧ ∃ straps rest, s.pending = .powerOnReset straps :: rest) ∨
        t.part.tracker.lastStart = some a ∨
        ∃ next, t.part.tracker.lastStart = some next ∧ a + 10000 ≤ next

/-! ## Samples and motion (chapter 2) -/

/-- The address of a corner's node (spec 00, 2.1). -/
def Sys2Proof.Claims.nodeOf : Corner → Byte
  | .fl => 0x21
  | .fr => 0x22
  | .rl => 0x23
  | .rr => 0x24

/-- A SAMPLE frame from a corner's node that is usable by R21: ten bytes, and the corner field names the node's corner. -/
def Sys2Proof.Claims.usableSample (c : Corner) (payload : List Byte) (x : Sample) : Prop :=
  decodeSample payload = some x ∧ x.corner.toNat = c.index

/-- The low byte of the current cycle number, the tag of the cycle (R23). -/
def Sys2Proof.Claims.currentTag (p : Part) : Byte := p.tracker.record.number.extractLsb' 0 8

/-- A channel's stuck tracker after its part of a FRESH sample: an invalid mark interrupts both runs; a usable value is counted
against the last one and becomes it, and the flag is then tested (R35 to R37). -/
def Sys2Proof.Claims.trackerAfter (params : Params) (t : StuckTracker) (invalid : Bool) (v : Int) : StuckTracker :=
  if invalid then { t with same := 0, change := 0 }
  else
    let same := match t.last with
      | none => t.same
      | some y => if y = v then min 255 (t.same + 1) else 0
    let change := match t.last with
      | none => t.change
      | some y => if y = v then 0 else min 64 (t.change + 1)
    ⟨some v, same, change, if t.stuck then decide (change < params.stuckClear) else decide (params.stuckCount ≤ same)⟩

/-- An integrator after a computation with this acceleration term, 0 where its channel is dropped (R31). -/
def Sys2Proof.Claims.integrated (isDropped : Bool) (v : Int) (leak : Nat) (a : Int) : Int :=
  if isDropped then 0 else max (-2000000) (min 2000000 (v - trunc0 v (2 ^ leak) + 4 * a))

/-- An integrator after a computation with no usable height: the leak alone, 0 where its channel is dropped (R31). -/
def Sys2Proof.Claims.leaked (isDropped : Bool) (v : Int) (leak : Nat) : Int :=
  if isDropped then 0 else v - trunc0 v (2 ^ leak)

/-- A sample of the current open cycle from a corner not yet computed fresh is FRESH: the corner joins both sets, FRESH is
counted, and each channel reaches its stuck tracker, a channel that becomes stuck raising SENSOR_STUCK and h setting or removing
SENSOR. With a usable height the record takes the velocities of R29 to R31, and a primed one clears STALE; with an invalid one it
is held on, or unprimed and STALE as R32 says. The other corners stay as they are (R23, R24, R28 to R32, R34 to R38). Whether a
channel released by this sample is already used is the free value of log entry 22 (R31, R38). -/
def Obligations.FreshSample : Prop :=
  ∀ (c : Corner) (dst : Byte) (payload : List Byte) (x : Sample) (k : CornerPart) (y : Channels) (dropB dropW : Bool) (h : Int)
    (s : State), usableSample c payload x → s.part.control.computes = true → s.part.tracker.state ≠ .unlocked →
    s.part.tracker.record.closed = false → s.part.tracker.record.fresh.get c = false → x.tag = currentTag s.part →
    k = s.part.corner c → h = max (-150000) (min 150000 x.h) →
    y = ⟨trackerAfter s.part.params k.stuck.ab x.abInvalid x.ab, trackerAfter s.part.params k.stuck.aw x.awInvalid x.aw,
      trackerAfter s.part.params k.stuck.h x.hInvalid x.h⟩ →
    dropB = drops k.stuck.ab.stuck y.ab.stuck x.abInvalid → dropW = drops k.stuck.aw.stuck y.aw.stuck x.awInvalid →
    ∃ t, exec (.sampleArrival dst (nodeOf c) payload) s = .next t ∧ t.pending = s.pending ∧
      t.part.tracker = { s.part.tracker with record := { s.part.tracker.record with
        computed := s.part.tracker.record.computed.set c true
        fresh := s.part.tracker.record.fresh.set c true } } ∧
      (t.part.corner c).stuck = y ∧
      (k.stuck.ab.stuck = false ∧ y.ab.stuck = true ∨ k.stuck.aw.stuck = false ∧ y.aw.stuck = true ∨
        k.stuck.h.stuck = false ∧ y.h.stuck = true → pendingEvent t.part (.sensorStuck c)) ∧
      (t.part.corner c).reasons.sensor = (if k.stuck.h.stuck = y.h.stuck then k.reasons.sensor else y.h.stuck) ∧
      (t.part.corner c).counters.fresh = min 4294967295 (k.counters.fresh + 1) ∧
      (t.part.corner c).counters.held =
        (if x.hInvalid then min 4294967295 (k.counters.held + 1) else k.counters.held) ∧
      (t.part.corner c).counters.heightClamp =
        (if x.hInvalid = false ∧ h ≠ x.h then min 4294967295 (k.counters.heightClamp + 1) else k.counters.heightClamp) ∧
      (x.hInvalid = false →
        (t.part.corner c).motion = {
          primed := true
          hPrev := h
          held := 0
          vf :=
            let raw := max (-8000) (min 8000 (divRound (2 * (h - k.motion.hPrev)) (k.motion.held + 1)))
            if k.motion.primed then
              max (-8000) (min 8000 (k.motion.vf + divRound (raw - k.motion.vf) (2 ^ s.part.params.velShift)))
            else k.motion.vf
          vb := integrated dropB k.motion.vb s.part.params.bodyLeak x.ab
          vw := integrated dropW k.motion.vw s.part.params.wheelLeak x.aw } ∧
        (t.part.corner c).reasons.stale = (if k.motion.primed then false else k.reasons.stale)) ∧
      (x.hInvalid = true →
        (k.reasons.stale = true ∨ s.part.params.holdLimit < k.motion.held + 1 →
          (t.part.corner c).motion = ⟨false, 0, 0, 0, 0, 0⟩ ∧ (t.part.corner c).reasons.stale = true) ∧
        (k.reasons.stale = false → k.motion.held + 1 ≤ s.part.params.holdLimit →
          (t.part.corner c).motion = { k.motion with
            held := k.motion.held + 1
            vb := leaked dropB k.motion.vb s.part.params.bodyLeak
            vw := leaked dropW k.motion.vw s.part.params.wheelLeak } ∧
          (t.part.corner c).reasons.stale = false)) ∧
      (∀ d : Corner, d ≠ c → t.part.corner d = s.part.corner d) ∧
      t.part.context = s.part.context ∧ t.part.link.wheelBound = s.part.link.wheelBound ∧ cycleFrame s.part t.part

/-- The frame of a SAMPLE and where it goes: into the chassis-bound queue, after its good frame and this effect (R151). -/
def Sys2Proof.Claims.afterSample (c : Corner) (dst : Byte) (payload : List Byte) (effect : Part → Part) (p : Part) : Part :=
  placeChassisBound ⟨dst, nodeOf c, 0x02, payload⟩ (effect (afterGood .w p))

/-- One counter of a corner counted. -/
def Sys2Proof.Claims.counted (c : Corner) (f : CornerCounters → CornerCounters) (p : Part) : Part :=
  p.modCorner c (fun k => { k with counters := f k.counters })

/-- Any other class counts its counter and nothing else before the frame is forwarded: UNSYNCED in UNLOCKED; LATE for a closed
cycle or for the previous number; DUPLICATE for a corner computed fresh; STALE_TAG for any other tag. A SAMPLE of another
length or corner counts BAD_SAMPLE, and in UNLOADED and RELEASING a usable one is only forwarded (R21 to R23, R25). -/
def Obligations.OtherSampleClasses : Prop :=
  ∀ (c : Corner) (dst : Byte) (payload : List Byte) (s : State),
    ((∀ x, ¬ usableSample c payload x) → answers (.sampleArrival dst (nodeOf c) payload) s
      (afterSample c dst payload (counted c (fun k => { k with badSample := min 4294967295 (k.badSample + 1) })) s.part)) ∧
    ∀ x, usableSample c payload x →
      (s.part.control = .unloaded ∨ s.part.control = .releasing →
        answers (.sampleArrival dst (nodeOf c) payload) s (afterSample c dst payload id s.part)) ∧
      (s.part.control = .standby ∨ s.part.control = .engaging ∨ s.part.control = .engaged →
        (s.part.tracker.state = .unlocked → answers (.sampleArrival dst (nodeOf c) payload) s
          (afterSample c dst payload (fun q => { q with
            globals := { q.globals with unsynced := min 4294967295 (q.globals.unsynced + 1) } }) s.part)) ∧
        (s.part.tracker.state ≠ .unlocked → x.tag = currentTag s.part → s.part.tracker.record.closed = true →
          answers (.sampleArrival dst (nodeOf c) payload) s
            (afterSample c dst payload (counted c (fun k => { k with late := min 4294967295 (k.late + 1) })) s.part)) ∧
        (s.part.tracker.state ≠ .unlocked → x.tag = currentTag s.part → s.part.tracker.record.closed = false →
          s.part.tracker.record.fresh.get c = true → answers (.sampleArrival dst (nodeOf c) payload) s
            (afterSample c dst payload (counted c (fun k => { k with duplicate := min 4294967295 (k.duplicate + 1) })) s.part)) ∧
        (s.part.tracker.state ≠ .unlocked → x.tag ≠ currentTag s.part →
          (∃ n, s.part.tracker.previous = some n ∧ n.extractLsb' 0 8 = x.tag) →
          answers (.sampleArrival dst (nodeOf c) payload) s
            (afterSample c dst payload (counted c (fun k => { k with late := min 4294967295 (k.late + 1) })) s.part)) ∧
        (s.part.tracker.state ≠ .unlocked → x.tag ≠ currentTag s.part →
          (∀ n, s.part.tracker.previous = some n → n.extractLsb' 0 8 ≠ x.tag) →
          answers (.sampleArrival dst (nodeOf c) payload) s
            (afterSample c dst payload (counted c (fun k => { k with staleTag := min 4294967295 (k.staleTag + 1) })) s.part)))

/-- A held update that crosses the hold limit: HELD is counted, the corner is computed but not fresh, gains STALE and is
unprimed, and in ENGAGED it is PASSIVE if it regulated or retried; the other corners stay as they are (R32 to R34, R122). That
the row is this part of a closure, at one corner, is the model's reading (log entry 3). -/
def Obligations.HoldLimitCrossed : Prop :=
  ∀ (c : Corner) (s : State), s.part.control.computes = true → s.part.tracker.record.closed = false →
    s.part.tracker.record.computed.get c = false → (s.part.corner c).reasons.stale = false →
    s.part.params.holdLimit < (s.part.corner c).motion.held + 1 →
    ∃ t, exec (.holdLimitCrossed c) s = .next t ∧ t.pending = s.pending ∧
      t.part.tracker = { s.part.tracker with record := { s.part.tracker.record with
        computed := s.part.tracker.record.computed.set c true } } ∧
      (t.part.corner c).motion = ⟨false, 0, 0, 0, 0, 0⟩ ∧ (t.part.corner c).reasons.stale = true ∧
      (t.part.corner c).counters.held = min 4294967295 ((s.part.corner c).counters.held + 1) ∧
      (t.part.corner c).stuck = (s.part.corner c).stuck ∧
      (s.part.control = .engaged → (s.part.corner c).state = .control ∨ (s.part.corner c).state = .suspended →
        (t.part.corner c).state = .passive false ∧ pendingEvent t.part (.cornerPassive c)) ∧
      (∀ d : Corner, d ≠ c → t.part.corner d = s.part.corner d) ∧
      t.part.context = s.part.context ∧ t.part.link = s.part.link ∧ t.part.portS = s.part.portS ∧
      t.part.portW = s.part.portW ∧ cycleFrame s.part t.part

/-- A usable value that repeats the last one and brings the identical run to STUCK_COUNT makes the channel stuck and raises
SENSOR_STUCK; a value that differs and brings the change run to STUCK_CLEAR releases it; h adds and removes SENSOR. The other
channels and corners stay as they are (R35, R36, R38; the row as one channel's part of a sample, log entry 3). -/
def Obligations.StuckAndRelease : Prop :=
  ∀ (c : Corner) (ch : Channel) (v : Int) (s : State), s.part.control.computes = true →
    (((s.part.corner c).stuck.get ch).stuck = false → ((s.part.corner c).stuck.get ch).last = some v →
      s.part.params.stuckCount ≤ min 255 (((s.part.corner c).stuck.get ch).same + 1) →
      ∃ t, exec (.channelStuck c ch v) s = .next t ∧ t.pending = s.pending ∧
        (t.part.corner c).stuck.get ch = ⟨some v, min 255 (((s.part.corner c).stuck.get ch).same + 1), 0, true⟩ ∧
        (∀ other, other ≠ ch → (t.part.corner c).stuck.get other = (s.part.corner c).stuck.get other) ∧
        pendingEvent t.part (.sensorStuck c) ∧ (ch = .h → (t.part.corner c).reasons.sensor = true) ∧
        (t.part.corner c).motion = (s.part.corner c).motion ∧ (∀ d : Corner, d ≠ c → t.part.corner d = s.part.corner d) ∧
        t.part = { s.part with corners := t.part.corners, events := t.part.events }) ∧
    (∀ x, ((s.part.corner c).stuck.get ch).stuck = true → ((s.part.corner c).stuck.get ch).last = some x → x ≠ v →
      s.part.params.stuckClear ≤ min 64 (((s.part.corner c).stuck.get ch).change + 1) →
      ∃ t, exec (.channelRelease c ch v) s = .next t ∧ t.pending = s.pending ∧
        (t.part.corner c).stuck.get ch = ⟨some v, 0, min 64 (((s.part.corner c).stuck.get ch).change + 1), false⟩ ∧
        (∀ other, other ≠ ch → (t.part.corner c).stuck.get other = (s.part.corner c).stuck.get other) ∧
        (ch = .h → (t.part.corner c).reasons.sensor = false) ∧
        (t.part.corner c).motion = (s.part.corner c).motion ∧ (∀ d : Corner, d ≠ c → t.part.corner d = s.part.corner d) ∧
        t.part = { s.part with corners := t.part.corners, events := t.part.events })

/-! ## The link (chapters 9 and 12) -/

/-- Reception reads back what 12.2 and 12.3 lay out: the bytes of any frame with up to 60 payload bytes are received good as
that frame, and the 14 bytes of any CYC payload decode to its fields (R149, R187, R188). -/
def Obligations.FramesReadBack : Prop :=
  (∀ f : Frame, f.payload.length ≤ 60 → receive f.bytes = .good f) ∧ ∀ x : CycPayload, decodeCyc x.bytes = some x

/-- The order rows of the table: the order with its code (R190). -/
def Sys2Proof.Claims.orderRow : Instr → Option (OrderIn × Byte)
  | .queryStatus o => some (o, 0x01)
  | .readParam o => some (o, 0x02)
  | .writeParam o => some (o, 0x03)
  | .gainWrite o => some (o, 0x10)
  | .gainClear o => some (o, 0x11)
  | .mapOpen o => some (o, 0x20)
  | .mapData o => some (o, 0x21)
  | .mapClose o => some (o, 0x22)
  | .mapSwap o => some (o, 0x23)
  | .mapRead o => some (o, 0x24)
  | .engage o => some (o, 0x30)
  | .release o => some (o, 0x31)
  | .valveTest o => some (o, 0x32)
  | .clearFault o => some (o, 0x33)
  | .fetchEvent o => some (o, 0x40)
  | .readCounters o => some (o, 0x41)
  | .softReset o => some (o, 0x50)
  | .unknownOrder o code => some (o, code)
  | _ => none

/-- A received run is the row it carries: the bytes of a CYC or LINK_RESET frame at Port S, of a node's SAMPLE at Port W, and of
an ORDER to the part's own address, received at the present instant, do exactly what the row of that frame does; an ORDER of
one payload byte or none is an unknown order of code 0, its tag 0 where it is missing. Any other frame, a CYC kind of another
length among them, is forwarded, or dropped and counted MISADDRESSED where it names the part (R1, R149 to R151, R163, R166,
R187, R190). Where the clock stands beyond the instant it stays (log entry 1). -/
def Obligations.ReceivedRunsAct : Prop :=
  (∀ (instant : Nat) (dst src : Byte) (x : CycPayload) (s : State),
    exec (.frameReceived instant .s (Frame.bytes ⟨dst, src, 0x01, x.bytes⟩)) s = exec (.cycArrival instant dst src x) s) ∧
  (∀ (dst src : Byte) (payload : List Byte) (s : State), payload.length ≤ 60 →
    exec (.frameReceived s.part.now .s (Frame.bytes ⟨dst, src, 0x0E, payload⟩)) s = exec (.linkReset dst src payload) s) ∧
  (∀ (dst src : Byte) (payload : List Byte) (s : State), payload.length ≤ 60 →
    exec (.frameReceived s.part.now .w (Frame.bytes ⟨dst, src, 0x02, payload⟩)) s = exec (.sampleArrival dst src payload) s) ∧
  (∀ (i : Instr) (o : OrderIn) (code : Byte) (s : State), orderRow i = some (o, code) → i.wellFormed = true →
    exec (.frameReceived s.part.now .s (Frame.bytes ⟨s.part.address, o.src, 0x10, o.tag :: code :: o.args⟩)) s = exec i s) ∧
  (∀ (src : Byte) (s : State), exec (.frameReceived s.part.now .s (Frame.bytes ⟨s.part.address, src, 0x10, []⟩)) s =
    exec (.unknownOrder ⟨src, 0, []⟩ 0) s) ∧
  (∀ (src tag : Byte) (s : State), exec (.frameReceived s.part.now .s (Frame.bytes ⟨s.part.address, src, 0x10, [tag]⟩)) s =
    exec (.unknownOrder ⟨src, tag, []⟩ 0) s) ∧
  ∀ (instant : Nat) (f : Frame) (s : State), f.payload.length ≤ 60 →
    (f.kind = 0x01 → f.payload.length ≠ 14 → answers (.frameReceived instant .s f.bytes) s
      (placeWheelBound f (afterGood .s { s.part with now := max s.part.now instant }))) ∧
    (f.kind ≠ 0x01 → f.kind ≠ 0x0E → f.dst ≠ s.part.address → answers (.frameReceived instant .s f.bytes) s
      (placeWheelBound f (afterGood .s { s.part with now := max s.part.now instant }))) ∧
    (f.kind ≠ 0x02 → ¬ (f.kind = 0x10 ∧ f.dst = s.part.address) → answers (.frameReceived instant .w f.bytes) s
      (placeChassisBound f (afterGood .w { s.part with now := max s.part.now instant }))) ∧
    (f.kind ≠ 0x01 → f.kind ≠ 0x0E → f.kind ≠ 0x10 → f.dst = s.part.address → answers (.frameReceived instant .s f.bytes) s
      ((afterGood .s { s.part with now := max s.part.now instant }).modPort .s (fun k => { k with
        counters := { k.counters with misaddressed := min 4294967295 (k.counters.misaddressed + 1) } }))) ∧
    (f.kind = 0x10 → f.dst = s.part.address → answers (.frameReceived instant .w f.bytes) s
      ((afterGood .w { s.part with now := max s.part.now instant }).modPort .w (fun k => { k with
        counters := { k.counters with misaddressed := min 4294967295 (k.counters.misaddressed + 1) } })))

/-- The first test of R149: 6 to 66 bytes, a length field of at most 60, and exactly that many bytes and 6. -/
def Sys2Proof.Claims.lengthPasses (run : List Byte) : Prop :=
  6 ≤ run.length ∧ run.length ≤ 66 ∧ ∃ len, run[3]? = some len ∧ len.toNat ≤ 60 ∧ run.length = len.toNat + 6

/-- A run that fails the length test is dropped and counted LENGTH, and one that passes it and fails the frame check is dropped
and counted CHECK; either adds to the errored count of its port, and nothing else changes but the clock, which stays where it stands beyond the instant (R149, R157; log entry 1). -/
def Obligations.BadRunsDropped : Prop :=
  (∀ run : List Byte, receive run = .badLength ↔ ¬ lengthPasses run) ∧
  (∀ run : List Byte, receive run = .badCheck ↔ lengthPasses run ∧
    run.drop (run.length - 2) ≠ wordBytes (frameCheck (run.take (run.length - 2)))) ∧
  ∀ (instant : Nat) (q : Port) (run : List Byte) (s : State),
    (receive run = .badLength → answers (.frameReceived instant q run) s
      ({ s.part with now := max s.part.now instant }.modPort q (fun k => { k with
        errored := min 255 (k.errored + 1)
        counters := { k.counters with length := min 4294967295 (k.counters.length + 1) } }))) ∧
    (receive run = .badCheck → answers (.frameReceived instant q run) s
      ({ s.part with now := max s.part.now instant }.modPort q (fun k => { k with
        errored := min 255 (k.errored + 1)
        counters := { k.counters with check := min 4294967295 (k.counters.check + 1) } })))

/-- A frame's transmission from an instant on: its bytes and two byte times of idle line (R153). -/
def Sys2Proof.Claims.sendingFrom (now : Nat) (f : Frame) : Option Sending := some ⟨f, now + (f.payload.length + 8) * 20⟩

/-- At the completion of a transmission the Port S arbiter takes the oldest reply, else the head of the chassis-bound queue,
else the report; the Port W arbiter the pending substitute, else the head of the wheel-bound queue; without a frame the
transmitter is IDLE. Nothing else changes but the clock, which stays where it stands beyond the completion (R153, R156; log
entry 1). -/
def Obligations.TransmissionCompletes : Prop :=
  ∀ (x : Sending) (s : State),
    (s.part.portS.sending = some x →
      (∀ f rest, s.part.link.replies = f :: rest → answers (.transmissionComplete .s) s { s.part with
        now := max s.part.now x.doneAt
        portS := { s.part.portS with sending := sendingFrom (max s.part.now x.doneAt) f }
        link := { s.part.link with replies := rest } }) ∧
      (∀ f rest, s.part.link.replies = [] → s.part.link.chassisBound = f :: rest → answers (.transmissionComplete .s) s
        { s.part with
          now := max s.part.now x.doneAt
          portS := { s.part.portS with sending := sendingFrom (max s.part.now x.doneAt) f }
          link := { s.part.link with chassisBound := rest } }) ∧
      (∀ f, s.part.link.replies = [] → s.part.link.chassisBound = [] → s.part.link.report = some f →
        answers (.transmissionComplete .s) s { s.part with
          now := max s.part.now x.doneAt
          portS := { s.part.portS with sending := sendingFrom (max s.part.now x.doneAt) f }
          link := { s.part.link with report := none } }) ∧
      (s.part.link.replies = [] → s.part.link.chassisBound = [] → s.part.link.report = none →
        answers (.transmissionComplete .s) s { s.part with
          now := max s.part.now x.doneAt
          portS := { s.part.portS with sending := none } })) ∧
    (s.part.portW.sending = some x →
      (∀ f, s.part.link.substitute = some f → answers (.transmissionComplete .w) s { s.part with
        now := max s.part.now x.doneAt
        portW := { s.part.portW with sending := sendingFrom (max s.part.now x.doneAt) f }
        link := { s.part.link with substitute := none } }) ∧
      (∀ f rest, s.part.link.substitute = none → s.part.link.wheelBound = f :: rest → answers (.transmissionComplete .w) s
        { s.part with
          now := max s.part.now x.doneAt
          portW := { s.part.portW with sending := sendingFrom (max s.part.now x.doneAt) f }
          link := { s.part.link with wheelBound := rest } }) ∧
      (s.part.link.substitute = none → s.part.link.wheelBound = [] → answers (.transmissionComplete .w) s { s.part with
        now := max s.part.now x.doneAt
        portW := { s.part.portW with sending := none } }))

/-- A frame placed while its transmitter sends joins the tail of its queue, or is dropped and counted FORWARD_DROP for that
transmitter's port when 16 wait; a reply joins the tail of the reply queue; a report takes the slot, and one it replaces is
counted REPORT_OVERRUN. A frame placed with its transmitter IDLE and no frame waiting is sent at once (R152 to R156). -/
def Obligations.FramesPlaced : Prop :=
  ∀ (f : Frame) (p : Part),
    (p.portW.sending.isSome = true → p.link.wheelBound.length < 16 →
      placeWheelBound f p = { p with link := { p.link with wheelBound := p.link.wheelBound ++ [f] } }) ∧
    (p.link.wheelBound.length = 16 → placeWheelBound f p = { p with portW := { p.portW with
      counters := { p.portW.counters with forwardDrop := min 4294967295 (p.portW.counters.forwardDrop + 1) } } }) ∧
    (p.portW.sending = none → p.link.wheelBound = [] → p.link.substitute = none →
      placeWheelBound f p = { p with portW := { p.portW with sending := sendingFrom p.now f } }) ∧
    (p.portS.sending.isSome = true → p.link.chassisBound.length < 16 →
      placeChassisBound f p = { p with link := { p.link with chassisBound := p.link.chassisBound ++ [f] } }) ∧
    (p.link.chassisBound.length = 16 → placeChassisBound f p = { p with portS := { p.portS with
      counters := { p.portS.counters with forwardDrop := min 4294967295 (p.portS.counters.forwardDrop + 1) } } }) ∧
    (p.portS.sending = none → p.link.replies = [] → p.link.chassisBound = [] →
      placeChassisBound f p = { p with portS := { p.portS with sending := sendingFrom p.now f } }) ∧
    (p.portS.sending.isSome = true →
      placeReply f p = { p with link := { p.link with replies := p.link.replies ++ [f] } }) ∧
    (p.portS.sending = none → p.link.replies = [] →
      placeReply f p = { p with portS := { p.portS with sending := sendingFrom p.now f } }) ∧
    (p.portS.sending = none → p.link.replies = [] → p.link.chassisBound = [] → p.link.report = none →
      placeReport f p = { p with portS := { p.portS with sending := sendingFrom p.now f } }) ∧
    (p.portS.sending.isSome = true → p.link.report = none →
      placeReport f p = { p with link := { p.link with report := some f } }) ∧
    (∀ g, p.portS.sending.isSome = true → p.link.report = some g → placeReport f p = { p with
      link := { p.link with report := some f }
      globals := { p.globals with reportOverrun := min 4294967295 (p.globals.reportOverrun + 1) } })

/-- Supervision of a port after a link or soft reset (R160, step 3; R161). -/
def Sys2Proof.Claims.supervisionCleared (k : PortPart) : PortPart :=
  { k with los := false, silentRun := 0, cleanRun := 0, goodMark := false, alarm := false, errored := 0 }

/-- A bank whose load or validation a reset abandons (R148). -/
def Sys2Proof.Claims.loadAbandoned (b : Bank) : Bank :=
  { b with state := match b.state with
    | .loading => .empty
    | .checking => .empty
    | x => x }

/-- A LINK_RESET with RESET_FOLLOWS_LINK 0: queues and report slot emptied, replies and pending substitute kept, supervision
cleared at both ports with LINK removed where Port W had lost signal, the load abandoned with a held MAP_CLOSE and its
reservation, and the frame the only one wheel-bound, or sent at once, after a pending substitute. Everything else of the part goes
on, a held VALVE_TEST too; only a PASSIVE corner that LINK alone kept so returns to CONTROL in ENGAGED (R20, R124, R132, R148,
R154, R160, R164, R176). That R160's general sentence on the slot and the map store gives way to their own chapters is read from
spec 00, 4 (log entry 26). -/
def Obligations.LinkResetAlone : Prop :=
  ∀ (dst src : Byte) (payload : List Byte) (s : State), s.part.params.resetFollowsLink = 0 →
    ∃ t, exec (.linkReset dst src payload) s = .next t ∧ t.pending = s.pending ∧
      t.part = { s.part with
        link := t.part.link, portW := t.part.portW, corners := t.part.corners, events := t.part.events
        portS := supervisionCleared { s.part.portS with counters := { s.part.portS.counters with
          goodFrames := min 4294967295 (s.part.portS.counters.goodFrames + 1) } }
        store := ⟨.fill false, 0, none, s.part.store.scrub⟩
        slot := match s.part.slot with
          | some h => if h.code = 0x22 then none else some h
          | none => none } ∧
      t.part.link.chassisBound = [] ∧ t.part.link.report = none ∧ t.part.link.replies = s.part.link.replies ∧
      (s.part.portW.sending.isSome = true → t.part.link.wheelBound = [⟨dst, src, 0x0E, payload⟩] ∧
        t.part.link.substitute = s.part.link.substitute ∧ t.part.portW = supervisionCleared s.part.portW) ∧
      (s.part.portW.sending = none → s.part.link.substitute = none → t.part.link.wheelBound = [] ∧
        t.part.link.substitute = none ∧
        t.part.portW = { supervisionCleared s.part.portW with sending := sendingFrom s.part.now ⟨dst, src, 0x0E, payload⟩ }) ∧
      (∀ g, s.part.portW.sending = none → s.part.link.substitute = some g →
        t.part.link.wheelBound = [⟨dst, src, 0x0E, payload⟩] ∧ t.part.link.substitute = none ∧
        t.part.portW = { supervisionCleared s.part.portW with sending := sendingFrom s.part.now g }) ∧
      (∀ c : Corner, t.part.corner c = { s.part.corner c with
        state := (t.part.corner c).state, reg := (t.part.corner c).reg, diag := (t.part.corner c).diag
        counters := (t.part.corner c).counters
        reasons := { (s.part.corner c).reasons with link := if s.part.portW.los then false else (s.part.corner c).reasons.link }
        banks := { (s.part.corner c).banks with
          a := loadAbandoned (s.part.corner c).banks.a, b := loadAbandoned (s.part.corner c).banks.b } }) ∧
      (s.part.portW.los = false ∨ s.part.control ≠ .engaged ∨ s.part.supervised → t.part.events = s.part.events ∧
        ∀ c : Corner, (t.part.corner c).diag = (s.part.corner c).diag ∧
          (t.part.corner c).counters = (s.part.corner c).counters ∧
          (s.part.portW.los = true → s.part.control = .engaged → (∃ x, (s.part.corner c).state = .passive x) →
            { (s.part.corner c).reasons with link := false } = ⟨false, false, false, false, false⟩ →
            (t.part.corner c).state = .control ∧
              (t.part.corner c).reg = { (s.part.corner c).reg with wanted := .tracking }) ∧
          (s.part.portW.los = false ∨ s.part.control ≠ .engaged ∨ (∀ x, (s.part.corner c).state ≠ .passive x) ∨
              { (s.part.corner c).reasons with link := false } ≠ ⟨false, false, false, false, false⟩ →
            (t.part.corner c).state = (s.part.corner c).state ∧ (t.part.corner c).reg = (s.part.corner c).reg))

/-- A port's runs and flag after the judgment of an interval (R157). -/
def Sys2Proof.Claims.judged (losTime : Nat) (k q : PortPart) : Prop :=
  (k.los = false → k.goodMark = true → q.los = false ∧ q.silentRun = 0 ∧ q.cleanRun = k.cleanRun) ∧
  (k.los = false → k.goodMark = false → q.silentRun = min 32 (k.silentRun + 1) ∧
    q.los = decide (losTime ≤ min 32 (k.silentRun + 1)) ∧
    q.cleanRun = if losTime ≤ min 32 (k.silentRun + 1) then 0 else k.cleanRun) ∧
  (k.los = true → k.goodMark = true → k.cleanRun < 7 → q.los = true ∧ q.cleanRun = k.cleanRun + 1 ∧ q.silentRun = k.silentRun) ∧
  (k.los = true → k.goodMark = true → 7 ≤ k.cleanRun → q.los = false ∧ q.cleanRun = 0 ∧ q.silentRun = 0) ∧
  (k.los = true → k.goodMark = false → q.los = true ∧ q.cleanRun = 0 ∧ q.silentRun = k.silentRun)

/-- At an interval end each port judges the interval, clears its mark and counts its window, and the grid goes on 500 µs ahead;
transmissions, queues, parameters and the order slot stay as they are (R157 to R159). Where the clock stands beyond the
interval's end it stays (log entry 1). -/
def Obligations.IntervalEnds : Prop :=
  ∀ s : State, ∃ t, exec .supervisionIntervalEnd s = .next t ∧ t.pending = s.pending ∧
    t.part.intervalAt = s.part.intervalAt + 20000 ∧ t.part.now = max s.part.now s.part.intervalAt ∧
    (∀ q : Port, judged s.part.params.losTime (s.part.port q) (t.part.port q) ∧ (t.part.port q).goodMark = false ∧
      (t.part.port q).sending = (s.part.port q).sending ∧ (t.part.port q).counters = (s.part.port q).counters ∧
      ((s.part.port q).window < 255 → (t.part.port q).window = (s.part.port q).window + 1 ∧
        (t.part.port q).errored = (s.part.port q).errored ∧ (t.part.port q).alarm = (s.part.port q).alarm) ∧
      ((s.part.port q).window = 255 → (t.part.port q).window = 0 ∧ (t.part.port q).errored = 0)) ∧
    t.part.link = s.part.link ∧ t.part.params = s.part.params ∧ t.part.slot = s.part.slot ∧
    t.part.control = s.part.control ∧ t.part.schedule = s.part.schedule ∧ t.part.store = s.part.store ∧
    ∀ c : Corner, (t.part.corner c).banks = (s.part.corner c).banks ∧ (t.part.corner c).motion = (s.part.corner c).motion

/-- Loss of signal asserts: LINK_LOS is raised; Port W gives every corner LINK, and an engaged corner in CONTROL enters PASSIVE;
Port S sends a HOLDOVER tracker to LOCAL with the offsets zeroed and its timers kept, and does nothing else (R9, R158). It
clears: Port W removes LINK from every corner, Port S does nothing else (the rows as one port's judgment, log entry 3). -/
def Obligations.LosAssertsAndClears : Prop :=
  ∀ s : State,
    (∀ q : Port, (s.part.port q).los = false → (s.part.port q).goodMark = false →
      s.part.params.losTime ≤ min 32 ((s.part.port q).silentRun + 1) →
      ∃ t, exec (.losAssert q) s = .next t ∧ t.pending = s.pending ∧ (t.part.port q).los = true ∧
        pendingEvent t.part (.linkLos q) ∧ t.part.link = s.part.link ∧ t.part.control = s.part.control ∧
        (q = .w → (∀ c : Corner, (t.part.corner c).reasons.link = true ∧
            (s.part.control = .engaged → (s.part.corner c).state = .control → (t.part.corner c).state = .passive false)) ∧
          t.part.tracker = s.part.tracker ∧ t.part.context = s.part.context ∧ t.part.portS = s.part.portS) ∧
        (q = .s → t.part.corners = s.part.corners ∧ t.part.portW = s.part.portW ∧
          (s.part.tracker.state = .holdover → t.part.tracker = { s.part.tracker with state := .localState } ∧
            t.part.context = { s.part.context with offsets := .fill 0, source := .localSource } ∧
            pendingEvent t.part .cycleLocal) ∧
          (s.part.tracker.state ≠ .holdover → t.part.tracker = s.part.tracker ∧ t.part.context = s.part.context))) ∧
    (∀ q : Port, (s.part.port q).los = true → (s.part.port q).goodMark = true → 7 ≤ (s.part.port q).cleanRun →
      ∃ t, exec (.losClear q) s = .next t ∧ t.pending = s.pending ∧
        t.part.port q = { s.part.port q with los := false, silentRun := 0, cleanRun := 0 } ∧
        (q = .w → (∀ c : Corner, (t.part.corner c).reasons.link = false) ∧
          t.part = { s.part with portW := t.part.portW, corners := t.part.corners, events := t.part.events }) ∧
        (q = .s → t.part = { s.part with portS := t.part.portS }))

/-- At the 256th interval of a port's quality window the alarm asserts at QUAL_ON errored frames or more, raising LINK_QUALITY
with their count, and clears at QUAL_OFF or fewer; the errored count and the position start again (R159). That the row, as a
command of its own, is the window's end alone and judges no interval is the model's reading (log entry 3). -/
def Obligations.QualityWindowEnds : Prop :=
  ∀ (q : Port) (s : State), 255 ≤ (s.part.port q).window →
    ∃ t, exec (.qualityWindowEnd q) s = .next t ∧ t.pending = s.pending ∧
      t.part.port q = { s.part.port q with
        errored := 0
        window := 0
        alarm := if (s.part.port q).alarm then decide (s.part.params.qualOff < (s.part.port q).errored)
          else decide (s.part.params.qualOn ≤ (s.part.port q).errored) } ∧
      ((s.part.port q).alarm = false → s.part.params.qualOn ≤ (s.part.port q).errored →
        ∃ x ∈ t.part.events, x.event = .linkQuality q ∧ x.parameter = BitVec.ofNat 8 (s.part.port q).errored) ∧
      (((s.part.port q).alarm = true ∨ (s.part.port q).errored < s.part.params.qualOn) → t.part.events = s.part.events) ∧
      t.part = { s.part with portS := t.part.portS, portW := t.part.portW, events := t.part.events } ∧
      ∀ r : Port, r ≠ q → t.part.port r = s.part.port r

/-! ## Orders (chapter 10) -/

/-- An order that finds no available reply place is dropped: it is counted, ORDER_DROPPED is pending with its code, and nothing
else changes but the good frame's count and mark. One that finds a place while the slot is HELD has no effect but its BUSY
reply. Every order row behaves so (R154, R163, R165). -/
def Obligations.OrderDroppedOrBusy : Prop :=
  ∀ (i : Instr) (o : OrderIn) (code : Byte) (s : State), orderRow i = some (o, code) →
    (4 ≤ s.part.link.replies.length + (if s.part.slot.isSome then 1 else 0) →
      ∃ t, exec i s = .next t ∧ t.pending = s.pending ∧
        t.part = { afterGood .s s.part with
          globals := { s.part.globals with orderDropped := min 4294967295 (s.part.globals.orderDropped + 1) }
          events := t.part.events } ∧
        ∃ x ∈ t.part.events, x.event = .orderDropped ∧ x.parameter = code) ∧
    (s.part.slot.isSome = true → s.part.link.replies.length + 1 < 4 → answers i s (afterOrder o code 2 0 [] id s.part))

/-- The orders that only answer, taken: a code that names no order is REFUSED, UNKNOWN_ORDER; QUERY_STATUS answers the 26 bytes
of view PART or the 28 of view CORNER, field by field as the part stands; READ_PARAM answers the id and the value held; wrong arguments are REFUSED, ARGUMENT.
Nothing else changes (R163 to R168). -/
def Obligations.OrdersThatOnlyAnswer : Prop :=
  ∀ (o : OrderIn) (s : State), takesOrders s.part →
    (∀ code, answers (.unknownOrder o code) s (afterOrder o code 3 5 [] id s.part)) ∧
    (∀ x, o.args = [0, x] →
      answers (.queryStatus o) s (afterOrder o 0x01 0 0 (partBytes s.part) id s.part) ∧
        (partBytes s.part).length = 26) ∧
    (∀ c : Corner, o.args = [1, BitVec.ofNat 8 c.index] →
      answers (.queryStatus o) s (afterOrder o 0x01 0 0 (cornerBytes c (s.part.corner c)) id s.part) ∧
        (cornerBytes c (s.part.corner c)).length = 28) ∧
    ((∀ x, o.args ≠ [0, x]) → (∀ c : Corner, o.args ≠ [1, BitVec.ofNat 8 c.index]) →
      answers (.queryStatus o) s (afterOrder o 0x01 3 2 [] id s.part)) ∧
    (∀ id x, o.args = [id] → ParamId.ofCode id.toNat = some x →
      answers (.readParam o) s (afterOrder o 0x02 0 0 (id :: u32 (s.part.params.get x)) (fun q => q) s.part)) ∧
    ((∀ id x, ParamId.ofCode id.toNat = some x → o.args ≠ [id]) →
      answers (.readParam o) s (afterOrder o 0x02 3 2 [] id s.part))

/-- The parameters whose write has an effect of its own at once (R171). -/
def Sys2Proof.Claims.actsAtOnce : ParamId → Prop
  | .dutyMin => True
  | .dutyMax => True
  | .holdLimit => True
  | _ => False

/-- The largest of the four setpoints (R85). -/
def Sys2Proof.Claims.largest (p : Part) : Nat :=
  max (max (p.corner .fl).reg.setpoint (p.corner .fr).reg.setpoint) (max (p.corner .rl).reg.setpoint (p.corner .rr).reg.setpoint)

/-- A static parameter may be written: UNLOADED or STANDBY, and every corner OFF (R169). -/
def Sys2Proof.Claims.mayWrite (x : ParamId) (p : Part) : Prop :=
  (x = .pwmHalf ∨ x = .senseGain) →
    (p.control = .unloaded ∨ p.control = .standby) ∧ ∀ c : Corner, (p.corner c).state = .off

/-- A WRITE_PARAM taken stores the value, DONE where it is the one supplied and CLAMPED otherwise, and changes no other
parameter and nothing else; a static parameter is REFUSED, STATE outside the states that allow it, and an unknown id or another
length is REFUSED, ARGUMENT (R168 to R170). -/
def Obligations.WriteParam : Prop :=
  (∀ (params : Params) (x : ParamId) (v : Nat), (params.set x v).get x = v ∧ ∀ y, y ≠ x → (params.set x v).get y = params.get y) ∧
  ∀ (o : OrderIn) (s : State), takesOrders s.part →
    (∀ id v3 v2 v1 v0 x v, o.args = [id, v3, v2, v1, v0] → ParamId.ofCode id.toNat = some x →
      v = s.part.params.settled (largest s.part) x (nat32 v3 v2 v1 v0) →
      (mayWrite x s.part → ¬ actsAtOnce x →
        answers (.writeParam o) s (afterOrder o 0x03 (if v = nat32 v3 v2 v1 v0 then 0 else 1) 0 (id :: u32 v)
          (fun q => { q with params := q.params.set x v }) s.part)) ∧
      (¬ mayWrite x s.part → answers (.writeParam o) s (afterOrder o 0x03 3 1 [] (fun q => q) s.part))) ∧
    ((∀ id v3 v2 v1 v0 x, ParamId.ofCode id.toNat = some x → o.args ≠ [id, v3, v2, v1, v0]) →
      answers (.writeParam o) s (afterOrder o 0x03 3 2 [] id s.part))

/-- The value a write stores keeps every parameter in its range and the bounds between parameters, whatever value is supplied;
it never falls below the largest setpoint at CURRENT_LIMIT, and a value that violates no bound is stored as supplied
(R169, R170, R85). -/
def Obligations.WrittenValuesBounded : Prop :=
  ∀ (params : Params) (largest v : Nat) (x : ParamId), params.sound → largest ≤ params.currentLimit →
    (params.set x (params.settled largest x v)).sound ∧
    (x = .currentLimit → largest ≤ params.settled largest x v) ∧
    ((params.set x v).sound → (x = .currentLimit → largest ≤ v) → params.settled largest x v = v)

/-- A write of DUTY_MIN or DUTY_MAX brings every enabled accumulator within the new bounds and forms its duty anew; a write of
HOLD_LIMIT gives STALE to each corner whose held count exceeds it and unprimes its record. Nothing else changes but the good
frame, the events and the reply (R34, R87, R171). -/
def Obligations.WriteActsAtOnce : Prop :=
  ∀ (o : OrderIn) (id v3 v2 v1 v0 : Byte) (x : ParamId) (v : Nat) (s : State), takesOrders s.part →
    o.args = [id, v3, v2, v1, v0] → ParamId.ofCode id.toNat = some x →
    v = s.part.params.settled (largest s.part) x (nat32 v3 v2 v1 v0) →
    (x = .dutyMin ∨ x = .dutyMax → ∃ t, exec (.writeParam o) s = .next t ∧ t.pending = s.pending ∧
      t.part = afterOrder o 0x03 (if v = nat32 v3 v2 v1 v0 then 0 else 1) 0 (id :: u32 v)
        (fun q => { q with params := q.params.set x v, corners := t.part.corners }) s.part ∧
      ∀ c : Corner, t.part.corner c = { s.part.corner c with reg := (t.part.corner c).reg } ∧
        ((s.part.corner c).reg.enabled = false → (t.part.corner c).reg = (s.part.corner c).reg) ∧
        ((s.part.corner c).reg.enabled = true → ∃ u : Int,
          u = clampInt (65536 * t.part.params.dutyMin) (65536 * t.part.params.dutyMax) (s.part.corner c).reg.u ∧
          (t.part.corner c).reg = { (s.part.corner c).reg with u := u, duty := (u / 65536).toNat })) ∧
    (x = .holdLimit → ∃ t, exec (.writeParam o) s = .next t ∧ t.pending = s.pending ∧
      t.part = afterOrder o 0x03 (if v = nat32 v3 v2 v1 v0 then 0 else 1) 0 (id :: u32 v)
        (fun q => { q with params := q.params.set x v, corners := t.part.corners, events := t.part.events }) s.part ∧
      ∀ c : Corner,
        ((s.part.corner c).motion.held ≤ v → t.part.corner c = s.part.corner c) ∧
        (v < (s.part.corner c).motion.held → (t.part.corner c).motion = ⟨false, 0, 0, 0, 0, 0⟩ ∧
          (t.part.corner c).reasons = { (s.part.corner c).reasons with stale := true } ∧
          (t.part.corner c).banks = (s.part.corner c).banks ∧ (t.part.corner c).stuck = (s.part.corner c).stuck ∧
          (s.part.control = .engaged → (s.part.corner c).state = .control → (t.part.corner c).state = .passive false)))

/-! ## The gain schedule (chapter 3) -/

/-- In UNLOADED and STANDBY the control state is STANDBY exactly while the part is loaded: every corner's pointer names an
ACTIVE bank, and band 0 of each mode is present. Entering UNLOADED unprimes the motion records; any other control state stays
(R43, R113, R22). -/
def Obligations.ControlFollowsLoaded : Prop :=
  ∀ p : Part,
    (p.loaded = true ↔ (∀ c : Corner, ∃ id, (p.corner c).banks.active = some id ∧ ((p.corner c).banks.get id).state = .active) ∧
      ∀ m, ((p.schedule.get m).get 0).present = true) ∧
    (p.control ≠ .unloaded → p.control ≠ .standby → judgeLoaded p = p) ∧
    (p.control = .unloaded ∨ p.control = .standby → p.loaded = true → judgeLoaded p = { p with control := .standby }) ∧
    (p.control = .unloaded → p.loaded = false → judgeLoaded p = p) ∧
    (p.control = .standby → p.loaded = false → judgeLoaded p = { p with
      control := .unloaded, corners := p.corners.map (fun k => { k with motion := ⟨false, 0, 0, 0, 0, 0⟩ }) })

/-- The tests of R44 on a band's entry. -/
def Sys2Proof.Claims.admissible (bands : Bands) (band : Nat) (x : BandEntry) : Prop :=
  band ≤ 7 ∧ x.cBase ≤ 20000 ∧ x.cSky ≤ 20000 ∧ x.cGnd ≤ 20000 ∧ x.bound ≤ 3000 ∧ (band = 0 → x.bound = 0) ∧
    (1 ≤ band → (bands.get (band - 1)).present = true ∧ (bands.get (band - 1)).bound < x.bound) ∧
    (band ≤ 6 → (bands.get (band + 1)).present = true → x.bound < (bands.get (band + 1)).bound)

/-- GAIN_WRITE taken, with a mode and an entry that pass the tests, makes that band of that mode present with the values
written and leaves every other band; the control state then follows the loaded condition. Any other mode, entry or length is
REFUSED, ARGUMENT. GAIN_CLEAR makes every band of its mode absent and the selection none, and is REFUSED, STATE in ENGAGING and
ENGAGED (R44 to R46). -/
def Obligations.GainScheduleOrders : Prop :=
  (∀ (sch : Schedule) (m m' : Mode) (b : Bands), (sch.set m b).get m' = if m' = m then b else sch.get m') ∧
  (∀ (b : Bands) (n n' : Nat) (x : BandEntry), n ≤ 7 → (b.set n x).get n' = if n' = n then x else b.get n') ∧
  ∀ (o : OrderIn) (s : State), takesOrders s.part →
    (∀ mode band n1 n0 b1 b0 s1 s0 g1 g0 m x, o.args = [mode, band, n1, n0, b1, b0, s1, s0, g1, g0] →
      x = ⟨true, nat16 n1 n0, nat16 b1 b0, nat16 s1 s0, nat16 g1 g0⟩ → Mode.ofCode mode.toNat = some m →
      (admissible (s.part.schedule.get m) band.toNat x →
        answers (.gainWrite o) s (afterOrder o 0x10 0 0
          [mode, band, u8 ((List.range 8).filter (fun k => (((s.part.schedule.get m).set band.toNat x).get k).present)).length]
          (fun q => judgeLoaded { q with schedule := q.schedule.set m ((s.part.schedule.get m).set band.toNat x) }) s.part)) ∧
      (¬ admissible (s.part.schedule.get m) band.toNat x →
        answers (.gainWrite o) s (afterOrder o 0x10 3 2 [] id s.part))) ∧
    ((o.args.length ≠ 10 ∨ ∃ mode rest, o.args = mode :: rest ∧ 2 < mode.toNat) →
      answers (.gainWrite o) s (afterOrder o 0x10 3 2 [] id s.part)) ∧
    (∀ mode m, o.args = [mode] → Mode.ofCode mode.toNat = some m →
      (s.part.control = .engaging ∨ s.part.control = .engaged →
        answers (.gainClear o) s (afterOrder o 0x11 3 1 [] id s.part)) ∧
      (s.part.control ≠ .engaging → s.part.control ≠ .engaged →
        answers (.gainClear o) s (afterOrder o 0x11 0 0 [mode, 0]
          (fun q => judgeLoaded { q with schedule := q.schedule.set m .absent, selection := none }) s.part))) ∧
    ((o.args.length ≠ 1 ∨ ∃ mode rest, o.args = mode :: rest ∧ 2 < mode.toNat) →
      answers (.gainClear o) s (afterOrder o 0x11 3 2 [] id s.part))

/-! ## The map store (chapters 4 and 8) -/

/-- The corners a mask names, in bits 0 to 3 (R186). -/
def Sys2Proof.Claims.named (m : Byte) (c : Corner) : Bool := m.getLsbD c.index

/-- The shadow bank of a corner. -/
def Sys2Proof.Claims.shadowBank (k : CornerPart) : Bank := k.banks.get k.banks.shadow

/-- MAP_OPEN taken, with no named shadow CHECKING and no named swap pending: the named corners become the load group with the
write pointer at 0, their shadows LOADING without a check value, any other LOADING bank EMPTY; no word changes. A CHECKING
shadow answers BUSY and a pending swap REFUSED, STATE, each with the corners that cause it (R133, R135, R136). -/
def Obligations.MapOpen : Prop :=
  ∀ (o : OrderIn) (s : State), takesOrders s.part →
    (∀ m, o.args = [m] → 1 ≤ m.toNat → m.toNat ≤ 15 →
      ((∃ c, named m c = true ∧ (shadowBank (s.part.corner c)).state = .checking) →
        answers (.mapOpen o) s (afterOrder o 0x20 2 0
          [cornerMask (whichCorners (cornersOf m) (fun c => decide ((shadowBank (s.part.corner c)).state = .checking)))] id s.part)) ∧
      ((∀ c, named m c = true → (shadowBank (s.part.corner c)).state ≠ .checking) →
        (∃ c, named m c = true ∧ (s.part.corner c).banks.swapPending = true) →
        answers (.mapOpen o) s (afterOrder o 0x20 3 1
          [cornerMask (whichCorners (cornersOf m) (fun c => (s.part.corner c).banks.swapPending))] id s.part)) ∧
      ((∀ c, named m c = true → (shadowBank (s.part.corner c)).state ≠ .checking ∧ (s.part.corner c).banks.swapPending = false) →
        ∃ t, exec (.mapOpen o) s = .next t ∧ t.pending = s.pending ∧
          t.part = afterOrder o 0x20 0 0 [m, 0] (fun q => { q with
            corners := t.part.corners, store := { q.store with group := cornersOf m, pointer := 0 } }) s.part ∧
          ∀ c, t.part.corner c = { s.part.corner c with banks := (t.part.corner c).banks } ∧
            (t.part.corner c).banks.active = (s.part.corner c).banks.active ∧
            (t.part.corner c).banks.swapPending = (s.part.corner c).banks.swapPending ∧
            ∀ id, ((t.part.corner c).banks.get id).words = ((s.part.corner c).banks.get id).words ∧
              (named m c = true → id = (s.part.corner c).banks.shadow →
                ((t.part.corner c).banks.get id).state = .loading ∧ ((t.part.corner c).banks.get id).check = none) ∧
              (named m c = true → id ≠ (s.part.corner c).banks.shadow →
                (t.part.corner c).banks.get id = (s.part.corner c).banks.get id) ∧
              (named m c = false → ((t.part.corner c).banks.get id).state =
                if ((s.part.corner c).banks.get id).state = .loading then .empty else ((s.part.corner c).banks.get id).state))) ∧
    ((∀ m, o.args = [m] → m.toNat = 0 ∨ 16 ≤ m.toNat) → answers (.mapOpen o) s (afterOrder o 0x20 3 2 [] id s.part))

/-- MAP_DATA taken, at the write pointer of an open load: each word lands at its index in the shadow of every corner of the
group, intact, and the pointer moves by the count; every other word and everything else stays. The three refusals carry the
pointer (R137, R138). -/
def Obligations.MapData : Prop :=
  ∀ (o : OrderIn) (s : State), takesOrders s.part → s.part.storeCanonical →
    ((∀ start count bytes, o.args = start :: count :: bytes →
        ¬ (1 ≤ count.toNat ∧ count.toNat ≤ 24 ∧ bytes.length = 2 * count.toNat)) →
      answers (.mapData o) s (afterOrder o 0x21 3 2 [u8 s.part.store.pointer] id s.part)) ∧
    ∀ start count bytes, o.args = start :: count :: bytes → 1 ≤ count.toNat → count.toNat ≤ 24 →
      bytes.length = 2 * count.toNat →
      ((∀ c, s.part.store.group.get c = false) ∨ start.toNat ≠ s.part.store.pointer →
        answers (.mapData o) s (afterOrder o 0x21 3 3 [u8 s.part.store.pointer] id s.part)) ∧
      ((∃ c, s.part.store.group.get c = true) → start.toNat = s.part.store.pointer → 144 < start.toNat + count.toNat →
        answers (.mapData o) s (afterOrder o 0x21 3 2 [u8 s.part.store.pointer] id s.part)) ∧
      ((∃ c, s.part.store.group.get c = true) → start.toNat = s.part.store.pointer → start.toNat + count.toNat ≤ 144 →
        ∃ t, exec (.mapData o) s = .next t ∧ t.pending = s.pending ∧
          t.part = afterOrder o 0x21 0 0 [u8 (start.toNat + count.toNat)] (fun q => { q with
            corners := t.part.corners, store := { q.store with pointer := start.toNat + count.toNat } }) s.part ∧
          ∀ c, (s.part.store.group.get c = false → t.part.corner c = s.part.corner c) ∧
            (s.part.store.group.get c = true →
              t.part.corner c = { s.part.corner c with banks := (t.part.corner c).banks } ∧
              (t.part.corner c).banks.active = (s.part.corner c).banks.active ∧
              (t.part.corner c).banks.swapPending = (s.part.corner c).banks.swapPending ∧
              ∀ id, ((t.part.corner c).banks.get id).state = ((s.part.corner c).banks.get id).state ∧
                ((t.part.corner c).banks.get id).check = ((s.part.corner c).banks.get id).check ∧
                (∀ k hi lo, id = (s.part.corner c).banks.shadow → k < count.toNat →
                  bytes[2 * k]? = some hi → bytes[2 * k + 1]? = some lo →
                  memRead ((t.part.corner c).banks.get id).words (start.toNat + k) = ⟨hi ++ lo, true⟩) ∧
                ∀ n, (id ≠ (s.part.corner c).banks.shadow ∨ n < start.toNat ∨ start.toNat + count.toNat ≤ n) →
                  memRead ((t.part.corner c).banks.get id).words n = memRead ((s.part.corner c).banks.get id).words n))

/-- MAP_CLOSE taken with a complete load: the group's shadows are CHECKING with the check value supplied, the load ends, the
validation starts at the first corner of the group, and the order holds the slot without a reply. Without a load it is
REFUSED, SEQUENCE; an incomplete one is INVALID, INCOMPLETE, with the pointer (R139, R164). -/
def Obligations.MapClose : Prop :=
  ∀ (o : OrderIn) (s : State), takesOrders s.part →
    (o.args.length ≠ 2 → answers (.mapClose o) s (afterOrder o 0x22 3 2 [] id s.part)) ∧
    ∀ k1 k0, o.args = [k1, k0] →
      ((∀ c, s.part.store.group.get c = false) → answers (.mapClose o) s (afterOrder o 0x22 3 3 [] id s.part)) ∧
      ((∃ c, s.part.store.group.get c = true) → s.part.store.pointer < 144 →
        answers (.mapClose o) s (afterOrder o 0x22 4 1 [u8 s.part.store.pointer] id s.part)) ∧
      ((∃ c, s.part.store.group.get c = true) → 144 ≤ s.part.store.pointer →
        ∃ t, exec (.mapClose o) s = .next t ∧ t.pending = s.pending ∧
          t.part = { afterGood .s s.part with
            corners := t.part.corners
            slot := some ⟨o.src, o.tag, 0x22⟩
            store := { s.part.store with
              group := .fill false
              pointer := 0
              validation := some ⟨Corner.all.filter (fun c => s.part.store.group.get c), [], .fill .none⟩ } } ∧
          ∀ c, (s.part.store.group.get c = false → t.part.corner c = s.part.corner c) ∧
            (s.part.store.group.get c = true → t.part.corner c = { s.part.corner c with
              banks := (s.part.corner c).banks.modBank (s.part.corner c).banks.shadow (fun b =>
                { b with state := .checking, check := some (k1 ++ k0) }) }))

/-- The judgment of R60 and R61 on the words of a bank as they were read, with the CURRENT_LIMIT then in force (R59). -/
def Sys2Proof.Claims.outcomeOf (image : List Word) (check : Option Word) (limit : Nat) (x : MapOutcome) : Prop :=
  let value (n : Nat) : Nat := (image.getD n 0).toNat
  let goodCheck := check = some (BitVec.ofNat 16 (((List.range 144).map (fun n => (n + 1) * value n)).sum % 65536))
  let goodAxes := value 0 = 0 ∧ value 8 = 0 ∧ value 7 ≤ 8000 ∧ value 15 ≤ 20000 ∧
    ∀ k, k < 7 → value k < value (k + 1) ∧ value (8 + k) < value (9 + k)
  let goodCells := ∀ n, 16 ≤ n → n < 144 → value n ≤ limit
  let goodRows := ∀ n, 16 ≤ n → n < 143 → n % 8 ≠ 7 → value n ≤ value (n + 1)
  (¬ goodCheck → x = .check) ∧ (goodCheck → ¬ goodAxes → x = .axis) ∧ (goodCheck → goodAxes → ¬ goodCells → x = .range) ∧
    (goodCheck → goodAxes → goodCells → ¬ goodRows → x = .monotone) ∧
    (goodCheck → goodAxes → goodCells → goodRows → x = .valid)

/-- Sixteen words of a bank from an index on, as they stand. -/
def Sys2Proof.Claims.sixteen (b : Bank) (start : Nat) : List StoredWord :=
  (List.range 16).map (fun k => memRead b.words (start + k))

/-- A reading of validation that judges its bank: PARITY where one of the 16 words is upset, the judgment of R60 on the words as
they were read at the ninth reading otherwise. The bank becomes READY where VALID and EMPTY otherwise; before the last bank
validation goes on with the next, and after it the held MAP_CLOSE is answered DONE or INVALID with the four outcomes and the
slot is released. A reading short of the ninth that finds its words intact only adds them to those read, at a period start, and
judges nothing (R59 to R61, R140, R141; the row as the judgment itself, log entry 3). -/
def Obligations.BankJudged : Prop :=
  ∀ (c : Corner) (rest : List Corner) (read : List Word) (outcomes : Quad MapOutcome) (words : List StoredWord) (s : State),
    s.part.store.validation = some ⟨c :: rest, read, outcomes⟩ →
    words = sixteen (shadowBank (s.part.corner c)) read.length →
    (∀ x : MapOutcome, ((∃ w ∈ words, w.intact = false) ∧ x = .parity ∨
      (∀ w ∈ words, w.intact = true) ∧ 144 ≤ read.length + 16 ∧
        outcomeOf (read ++ words.map (·.value)) (shadowBank (s.part.corner c)).check s.part.params.currentLimit x) →
    ∃ t, exec .validationBankJudged s = .next t ∧ t.pending = s.pending ∧
      t.part.corners = s.part.corners.set c { s.part.corner c with
        banks := (s.part.corner c).banks.modBank (s.part.corner c).banks.shadow (fun b =>
          { b with state := if x = .valid then .ready else .empty }) } ∧
      (rest ≠ [] → t.part = { s.part with
        corners := t.part.corners, store := { s.part.store with validation := some ⟨rest, [], outcomes.set c x⟩ } }) ∧
      (∀ h, rest = [] → s.part.slot = some h → ∃ (result reason : Byte),
        t.part = placeReply ⟨h.src, s.part.address, 0x11,
            h.tag :: h.code :: result :: reason :: (outcomes.set c x).toList.map (·.code)⟩
          { s.part with corners := t.part.corners, slot := none, store := { s.part.store with validation := none } } ∧
        ((∀ d, (outcomes.set c x).get d = .none ∨ (outcomes.set c x).get d = .valid) → result = 0 ∧ reason = 0) ∧
        ∀ d, (outcomes.set c x).get d ≠ .none → (outcomes.set c x).get d ≠ .valid →
          (∀ e : Corner, e.index < d.index → (outcomes.set c x).get e = .none ∨ (outcomes.set c x).get e = .valid) →
          result = 4 ∧ reason = ((outcomes.set c x).get d).code)) ∧
    ((∀ w ∈ words, w.intact = true) → read.length + 16 < 144 →
      answers .validationBankJudged s s.part ∧
      ∀ mv : Nat, ∃ t, exec (.pwmPeriodStart mv) s = .next t ∧ t.pending = s.pending ∧
        t.part.store.validation = some ⟨c :: rest, read ++ words.map (·.value), outcomes⟩ ∧
        shadowBank (t.part.corner c) = shadowBank (s.part.corner c) ∧ t.part.slot = s.part.slot ∧ t.part.link = s.part.link)

/-- The outcome of a MAP_SWAP at a corner, judged on the part before it (R142). -/
def Sys2Proof.Claims.swapCase (p : Part) (isNamed : Bool) (c : Corner) : Nat :=
  if isNamed = false then 0
  else if (p.corner c).banks.swapPending = true then 3
  else if (shadowBank (p.corner c)).state ≠ .ready then 4
  else if p.control = .engaging ∨ p.control = .engaged then 2 else 1

/-- MAP_SWAP taken judges each corner on the part before it and answers the four outcomes: DONE where one is SWAPPED or
PENDING, REFUSED, STATE otherwise. A PENDING corner is marked and keeps its banks; a SWAPPED one has its shadow ACTIVE and
named, the bank named before READY, or EMPTY if it was CORRUPT, its mark clear, MAP removed and MAP_SWAPPED pending, and the
control state then follows the loaded condition in UNLOADED and STANDBY; nothing else changes, and any other corner stays whole
(R113, R142 to R144). Only in a STANDBY that is not loaded, which no run reaches (SupervisionKept), could motion records change. -/
def Obligations.MapSwap : Prop :=
  ∀ (o : OrderIn) (s : State), takesOrders s.part →
    ((∀ m, o.args = [m] → m.toNat = 0 ∨ 16 ≤ m.toNat) → answers (.mapSwap o) s (afterOrder o 0x23 3 2 [] id s.part)) ∧
    ∀ m outcome, o.args = [m] → 1 ≤ m.toNat → m.toNat ≤ 15 → (outcome = fun c => swapCase s.part (named m c) c) →
      ((∀ c, outcome c ≠ 1 ∧ outcome c ≠ 2) → answers (.mapSwap o) s
        (afterOrder o 0x23 3 1 (Corner.all.map (fun c => BitVec.ofNat 8 (outcome c))) id s.part)) ∧
      ((∃ c, outcome c = 1 ∨ outcome c = 2) → ∃ t, exec (.mapSwap o) s = .next t ∧ t.pending = s.pending ∧
        t.part = afterOrder o 0x23 0 0 (Corner.all.map (fun c => BitVec.ofNat 8 (outcome c))) (fun q => { q with
          corners := t.part.corners, events := t.part.events, control := t.part.control }) s.part ∧
        (s.part.control ≠ .unloaded → s.part.control ≠ .standby → t.part.control = s.part.control) ∧
        (s.part.control = .unloaded ∨ s.part.control = .standby →
          t.part.control = if t.part.loaded then .standby else .unloaded) ∧
        ((∀ c, outcome c ≠ 1) → t.part.events = s.part.events) ∧
        ∀ c,
          ({ t.part.corner c with banks := (s.part.corner c).banks, motion := (s.part.corner c).motion } =
            { s.part.corner c with reasons := { (s.part.corner c).reasons with
              map := if outcome c = 1 then false else (s.part.corner c).reasons.map } }) ∧
          ((s.part.control = .standby → s.part.loaded = true) → (t.part.corner c).motion = (s.part.corner c).motion) ∧
          (outcome c = 2 → (t.part.corner c).banks = { (s.part.corner c).banks with swapPending := true }) ∧
          (outcome c = 1 → pendingEvent t.part (.mapSwapped c) ∧ (t.part.corner c).reasons.map = false ∧
            (t.part.corner c).banks.active = some (s.part.corner c).banks.shadow ∧
            (t.part.corner c).banks.swapPending = false ∧
            ∀ id, ((t.part.corner c).banks.get id).words = ((s.part.corner c).banks.get id).words ∧
              (id = (s.part.corner c).banks.shadow → ((t.part.corner c).banks.get id).state = .active) ∧
              (some id = (s.part.corner c).banks.active → ((t.part.corner c).banks.get id).state =
                match ((s.part.corner c).banks.get id).state with
                | .active => .ready
                | .corrupt => .empty
                | y => y)) ∧
          (outcome c ≠ 1 → outcome c ≠ 2 → (t.part.corner c).banks = (s.part.corner c).banks))

/-- The arguments of a MAP_READ that R145 admits: a corner, a bank, and 1 to 24 words of the image. -/
def Sys2Proof.Claims.readArgs (args : List Byte) (c : Corner) (id : BankId) (start count : Byte) : Prop :=
  args = [BitVec.ofNat 8 c.index, id.code, start, count] ∧ 1 ≤ count.toNat ∧ count.toNat ≤ 24 ∧
    start.toNat + count.toNat ≤ 144

/-- MAP_READ taken answers the bank's state, the parity result with the first upset word, and the words read. Words intact, or
upset in a bank that is neither ACTIVE nor READY, nothing else changes; an upset word makes a READY bank EMPTY and takes back a
pending swap, and makes an ACTIVE bank CORRUPT, gives the corner MAP and raises MAP_PARITY. A CHECKING bank is REFUSED, STATE
(R70, R72, R144, R145). -/
def Obligations.MapRead : Prop :=
  ∀ (o : OrderIn) (s : State), takesOrders s.part →
    ((∀ c id start count, ¬ readArgs o.args c id start count) → answers (.mapRead o) s (afterOrder o 0x24 3 2 [] id s.part)) ∧
    ∀ (c : Corner) (id : BankId) (start count : Byte) (b : Bank) (words : List Byte),
    readArgs o.args c id start count → b = (s.part.corner c).banks.get id →
    words = (List.range count.toNat).flatMap (fun k => wordBytes (memRead b.words (start.toNat + k)).value) →
    (b.state = .checking → answers (.mapRead o) s (afterOrder o 0x24 3 1 [] (fun q => q) s.part)) ∧
    (b.state ≠ .checking → (∀ k, k < count.toNat → (memRead b.words (start.toNat + k)).intact = true) →
      answers (.mapRead o) s
        (afterOrder o 0x24 0 0 ([BitVec.ofNat 8 c.index, id.code, start, count, b.state.code, 0, 0] ++ words) (fun q => q) s.part)) ∧
    (∀ n, b.state ≠ .checking → start.toNat ≤ n → n < start.toNat + count.toNat → (memRead b.words n).intact = false →
      (∀ k, start.toNat ≤ k → k < n → (memRead b.words k).intact = true) →
      ∃ t, exec (.mapRead o) s = .next t ∧ t.pending = s.pending ∧
        t.part = afterOrder o 0x24 0 0 ([BitVec.ofNat 8 c.index, id.code, start, count, b.state.code, 1, BitVec.ofNat 8 n] ++ words)
          (fun q => { q with corners := t.part.corners, events := t.part.events, control := t.part.control }) s.part ∧
        (∀ id n, memRead ((t.part.corner c).banks.get id).words n = memRead ((s.part.corner c).banks.get id).words n) ∧
        (b.state ≠ .active → t.part.events = s.part.events ∧ t.part.control = s.part.control ∧
          t.part.corners = s.part.corners.set c { s.part.corner c with banks :=
            if b.state = .ready then
              { (s.part.corner c).banks.modBank id (fun b => { b with state := .empty }) with swapPending := false }
            else (s.part.corner c).banks }) ∧
        (b.state = .active → (t.part.corner c).banks = (s.part.corner c).banks.modBank id (fun b => { b with state := .corrupt }) ∧
          (t.part.corner c).reasons.map = true ∧ pendingEvent t.part (.mapParity c) ∧
          (s.part.control = .standby → (s.part.corner c).banks.active = some id → t.part.control = .unloaded) ∧
          (s.part.control = .engaged → (s.part.corner c).state = .control → (t.part.corner c).state = .passive false)))

/-! ## Engagement, release and the supervisor's orders (chapters 6, 7 and 10) -/

/-- A disabled driver: duty, setpoint, target and loop 0, and its comparator starting afresh (R82, R83, R88). -/
def Sys2Proof.Claims.driverDisabled (r : Regulator) : Regulator :=
  { r with wanted := .disabled, enabled := false, setpoint := 0, target := 0, duty := 0, e1 := 0, e2 := 0, u := 0, overRun := 0 }

/-- A disabled driver whose calibration is requested (R79). -/
def Sys2Proof.Claims.calibrationRequested (r : Regulator) : Regulator :=
  { driverDisabled r with calibration := some ⟨false, 0, 0⟩ }

/-- A regulator that ramps from where it stands (R81, R83). -/
def Sys2Proof.Claims.ramping (r : Regulator) : Regulator := { r with wanted := .ramping, target := 0 }

/-- An episode abandoned: its attempts join the total, and kind, round and attempts return to none (R105). -/
def Sys2Proof.Claims.abandoned (d : Diagnosis) : Diagnosis :=
  match d.episode with
  | none => d
  | some _ => { d with
      episode := none
      record := { d.record with
        total := min 4294967295 (d.record.total + d.record.attempts), kind := .noFault, round := 0, attempts := 0 } }

/-- A corner in OFF: driver disabled, no calibration, no episode (R80, R105, R118). -/
def Sys2Proof.Claims.turnedOff (k : CornerPart) : CornerPart :=
  { k with state := .off, reg := { driverDisabled k.reg with calibration := none }, diag := abandoned k.diag }

/-- A control state that follows the loaded condition, with the motion records unprimed where the part is not loaded
(R22, R113). -/
def Sys2Proof.Claims.settled (loaded : Bool) (p : Part) : Prop :=
  p.control = (if loaded then .standby else .unloaded) ∧ (loaded = false → ∀ c, (p.corner c).motion = ⟨false, 0, 0, 0, 0, 0⟩)

/-- ENGAGE taken in STANDBY with the tracker LOCKED: each OFF corner is CALIBRATING for ENGAGE with its calibration requested,
any other corner stays, the selection is none and the control state ENGAGING; with no corner OFF and none calibrating it is
ENGAGED at once. Elsewhere it is REFUSED, STATE, without lock NO_CYCLE, with arguments ARGUMENT (R114, R115). -/
def Obligations.Engage : Prop :=
  ∀ (o : OrderIn) (s : State), takesOrders s.part →
    (o.args ≠ [] → answers (.engage o) s (afterOrder o 0x30 3 2 [] id s.part)) ∧
    (o.args = [] → s.part.control ≠ .standby → answers (.engage o) s (afterOrder o 0x30 3 1 [] id s.part)) ∧
    (o.args = [] → s.part.control = .standby → s.part.tracker.state ≠ .locked →
      answers (.engage o) s (afterOrder o 0x30 3 4 [] id s.part)) ∧
    (o.args = [] → s.part.control = .standby → s.part.tracker.state = .locked →
      ((∃ c, (s.part.corner c).state = .off) → ∃ t, exec (.engage o) s = .next t ∧ t.pending = s.pending ∧
        t.part = afterOrder o 0x30 0 0 [cornerMask (s.part.corners.map (fun k => decide (k.state = .off)))]
          (fun q => { q with corners := t.part.corners, control := .engaging, selection := none }) s.part ∧
        ∀ c, ((s.part.corner c).state = .off → t.part.corner c = { s.part.corner c with
              state := .calibrating .engage false, reg := calibrationRequested (s.part.corner c).reg }) ∧
          ((s.part.corner c).state ≠ .off → t.part.corner c = s.part.corner c)) ∧
      ((∀ c, (s.part.corner c).state = .fault ∨ ∃ phase r, (s.part.corner c).state = .test phase r) →
        answers (.engage o) s (afterOrder o 0x30 0 0 [0] (fun q => { q with control := .engaged, selection := none }) s.part)))

/-- A corner at a RELEASE in ENGAGED, its record unprimed (R118). -/
def Sys2Proof.Claims.released (k : CornerPart) : CornerPart :=
  { (match k.state with
      | .control => { k with reg := ramping k.reg, diag := abandoned k.diag }
      | .passive true => turnedOff k
      | .suspended => turnedOff k
      | .calibrating _ _ => turnedOff k
      | _ => k) with motion := ⟨false, 0, 0, 0, 0, 0⟩ }

/-- RELEASE taken. In ENGAGING every calibrating corner is OFF, any other stays, and the control state follows the loaded condition
at once. In ENGAGED regulating corners ramp, corners that do not ramp are OFF, faults stay, every record is unprimed, and the
control state is RELEASING, or at once STANDBY or UNLOADED where no corner is left ramping; a tracker in HOLDOVER or LOCAL enters
UNLOCKED, with every corner STALE and its cycle closed (closure by RELEASE computes no corner, log entry 5). Elsewhere it is
REFUSED, STATE, and with arguments ARGUMENT (R10, R12, R117 to R119). -/
def Obligations.Release : Prop :=
  ∀ (o : OrderIn) (s : State), takesOrders s.part →
    (o.args ≠ [] → answers (.release o) s (afterOrder o 0x31 3 2 [] id s.part)) ∧
    (o.args = [] → s.part.control ≠ .engaging → s.part.control ≠ .engaged →
      answers (.release o) s (afterOrder o 0x31 3 1 [] id s.part)) ∧
    (o.args = [] → s.part.control = .engaging → ∃ t, exec (.release o) s = .next t ∧ t.pending = s.pending ∧
      t.part = afterOrder o 0x31 0 0 [] (fun q => { q with corners := t.part.corners, control := t.part.control }) s.part ∧
      settled s.part.loaded t.part ∧
      ∀ c, { t.part.corner c with motion := (s.part.corner c).motion } =
          (match (s.part.corner c).state with
            | .calibrating _ _ => turnedOff (s.part.corner c)
            | _ => s.part.corner c) ∧
        (s.part.loaded = true → (t.part.corner c).motion = (s.part.corner c).motion)) ∧
    (o.args = [] → s.part.control = .engaged →
    ∃ t, exec (.release o) s = .next t ∧ t.pending = s.pending ∧
      ((∀ c, (released (s.part.corner c)).state = .off ∨ (released (s.part.corner c)).state = .fault) →
        t.part.control = if s.part.loaded then .standby else .unloaded) ∧
      ((∃ c, (released (s.part.corner c)).state ≠ .off ∧ (released (s.part.corner c)).state ≠ .fault) →
        t.part.control = .releasing) ∧
      (s.part.tracker.state ≠ .holdover → s.part.tracker.state ≠ .localState →
        t.part = afterOrder o 0x31 0 0 [] (fun q => { q with
          corners := s.part.corners.map released, control := t.part.control }) s.part) ∧
      (s.part.tracker.state = .holdover ∨ s.part.tracker.state = .localState →
        t.part.tracker = { s.part.tracker with
          state := .unlocked, missAt := none, deadlineAt := none, runCount := 0
          record := { s.part.tracker.record with closed := true } } ∧
        (∀ c, { t.part.corner c with reg := { (t.part.corner c).reg with meanRunning := (s.part.corner c).reg.meanRunning } } =
          { released (s.part.corner c) with reasons := { (s.part.corner c).reasons with stale := true } }) ∧
        t.part.context = s.part.context ∧ t.part.events = s.part.events ∧ cycleFrame s.part t.part ∧
        t.part.portW = s.part.portW ∧
        ∃ f : Frame, f = ⟨o.src, s.part.address, 0x11, [o.tag, 0x31, 0, 0]⟩ ∧
          (f ∈ t.part.link.replies ∨ ∃ x, t.part.portS.sending = some ⟨f, x⟩)))

/-- VALVE_TEST taken, its current and duration within bounds, in UNLOADED or STANDBY at an OFF corner: the corner is in TEST,
phase CAL, with a fresh record and its calibration requested, and the order holds the slot without a reply. Otherwise it is
REFUSED, ARGUMENT or STATE (R126, R164). -/
def Obligations.ValveTest : Prop :=
  ∀ (o : OrderIn) (s : State), takesOrders s.part →
    (∀ c i1 i0 d1 d0, o.args = [BitVec.ofNat 8 c.index, i1, i0, d1, d0] →
      (nat16 i1 i0 ≤ s.part.params.currentLimit → 100 ≤ nat16 d1 d0 → nat16 d1 d0 ≤ 10000 →
        (s.part.control = .unloaded ∨ s.part.control = .standby → (s.part.corner c).state = .off →
          answers (.valveTest o) s { afterGood .s s.part with
            slot := some ⟨o.src, o.tag, 0x32⟩
            corners := s.part.corners.set c { s.part.corner c with
              state := .test .cal ⟨nat16 i1 i0, nat16 d1 d0, 0, 0, 0, 0, none, none, 0⟩
              reg := calibrationRequested (s.part.corner c).reg } }) ∧
        (s.part.control ≠ .unloaded → s.part.control ≠ .standby →
          answers (.valveTest o) s (afterOrder o 0x32 3 1 [] id s.part)) ∧
        ((s.part.corner c).state ≠ .off → answers (.valveTest o) s (afterOrder o 0x32 3 1 [] id s.part))) ∧
      (s.part.params.currentLimit < nat16 i1 i0 ∨ nat16 d1 d0 < 100 ∨ 10000 < nat16 d1 d0 →
        answers (.valveTest o) s (afterOrder o 0x32 3 2 [] id s.part))) ∧
    ((o.args.length ≠ 5 ∨ ∃ corner rest, o.args = corner :: rest ∧ 4 ≤ corner.toNat) →
      answers (.valveTest o) s (afterOrder o 0x32 3 2 [] id s.part))

/-- A record after CLEAR_FAULT: total attempts and first cycle are kept (R108). -/
def Sys2Proof.Claims.faultCleared (d : Diagnosis) : Diagnosis :=
  { d with record := { d.record with kind := .noFault, round := 0, attempts := 0, recovered := false } }

/-- CLEAR_FAULT taken of a corner in FAULT clears its record but total and first cycle, and the corner enters CALIBRATING in
ENGAGING, CONTROL or, with a reason, PASSIVE in ENGAGED, and OFF elsewhere; the reply carries the new state. Any other corner
stays. A corner not in FAULT is REFUSED, STATE, and wrong arguments ARGUMENT (R108, R122). -/
def Obligations.ClearFault : Prop :=
  ∀ (o : OrderIn) (s : State), takesOrders s.part →
    ((∀ c : Corner, o.args ≠ [BitVec.ofNat 8 c.index]) → answers (.clearFault o) s (afterOrder o 0x33 3 2 [] id s.part)) ∧
    ∀ c : Corner, o.args = [BitVec.ofNat 8 c.index] →
      ((s.part.corner c).state ≠ .fault → answers (.clearFault o) s (afterOrder o 0x33 3 1 [] id s.part)) ∧
      ((s.part.corner c).state = .fault →
        (s.part.control = .engaging → answers (.clearFault o) s (afterOrder o 0x33 0 0 [BitVec.ofNat 8 c.index, 1]
          (fun q => { q with corners := q.corners.set c { q.corner c with
            state := .calibrating .engage false
            reg := calibrationRequested (q.corner c).reg
            diag := faultCleared (q.corner c).diag } }) s.part)) ∧
        (s.part.control = .engaged → (s.part.corner c).reasons = ⟨false, false, false, false, false⟩ →
          answers (.clearFault o) s (afterOrder o 0x33 0 0 [BitVec.ofNat 8 c.index, 2]
            (fun q => { q with corners := q.corners.set c { q.corner c with
              state := .control
              reg := { (q.corner c).reg with wanted := .tracking }
              diag := faultCleared (q.corner c).diag } }) s.part)) ∧
        (s.part.control = .engaged → (s.part.corner c).reasons ≠ ⟨false, false, false, false, false⟩ →
          ∃ t, exec (.clearFault o) s = .next t ∧ t.pending = s.pending ∧ pendingEvent t.part (.cornerPassive c) ∧
            t.part = afterOrder o 0x33 0 0 [BitVec.ofNat 8 c.index, 4]
              (fun q => { q with
                events := t.part.events
                corners := q.corners.set c { q.corner c with
                  state := .passive false
                  reg := { ramping (q.corner c).reg with calibration := none }
                  diag := abandoned (faultCleared (q.corner c).diag)
                  counters := { (q.corner c).counters with
                    passiveEntry := min 4294967295 ((q.corner c).counters.passiveEntry + 1) } } }) s.part) ∧
        (s.part.control ≠ .engaging → s.part.control ≠ .engaged →
          answers (.clearFault o) s (afterOrder o 0x33 0 0 [BitVec.ofNat 8 c.index, 0]
            (fun q => { q with corners := q.corners.set c (turnedOff { q.corner c with diag := faultCleared (q.corner c).diag }) })
            s.part)))

/-- FETCH_EVENT taken removes the first pending entry and answers its kind, subject, count, first cycle, parameter and the
number left, or zeros with none pending. READ_COUNTERS answers the counters of its group as they stand, its own good frame
counted, and with clear 1 sets them to 0 after. Wrong arguments are REFUSED, ARGUMENT (R173, R174, R179, R190). -/
def Obligations.FetchAndCounters : Prop :=
  ∀ (o : OrderIn) (s : State), takesOrders s.part →
    (o.args = [] → s.part.events = [] → answers (.fetchEvent o) s (afterOrder o 0x40 0 0 [0, 0, 0, 0, 0, 0, 0] id s.part)) ∧
    (∀ x rest, o.args = [] → s.part.events = x :: rest → answers (.fetchEvent o) s (afterOrder o 0x40 0 0
      [BitVec.ofNat 8 x.event.kindCode, BitVec.ofNat 8 x.event.subject, BitVec.ofNat 8 x.count, x.firstCycle.extractLsb' 8 8,
        x.firstCycle.extractLsb' 0 8, x.parameter, BitVec.ofNat 8 rest.length]
      (fun q => { q with events := rest }) s.part)) ∧
    (o.args ≠ [] → answers (.fetchEvent o) s (afterOrder o 0x40 3 2 [] id s.part)) ∧
    (∀ group g, CounterGroup.ofCode group.toNat = some g →
      (o.args = [group, 0] → answers (.readCounters o) s
        (afterOrder o 0x41 0 0 (group :: (g.values (afterGood .s s.part)).flatMap u32) id s.part)) ∧
      (o.args = [group, 1] → answers (.readCounters o) s
        (afterOrder o 0x41 0 0 (group :: (g.values (afterGood .s s.part)).flatMap u32) (fun q => match g with
          | .port r => q.modPort r (fun k => { k with counters := ⟨0, 0, 0, 0, 0⟩ })
          | .corner c => q.modCorner c (fun k => { k with counters := ⟨0, 0, 0, 0, 0, 0, 0, 0, 0, 0⟩ })
          | .whole => { q with globals := ⟨0, 0, 0, 0, 0, 0⟩ }) s.part))) ∧
    ((∀ group clear, (CounterGroup.ofCode group.toNat).isSome = true → clear = 0 ∨ clear = 1 → o.args ≠ [group, clear]) →
      answers (.readCounters o) s (afterOrder o 0x41 3 2 [] id s.part))

/-- A corner after a soft reset (R41, R57, R74, R93, R112, R131, R148). -/
def Sys2Proof.Claims.softCorner (supply : Supply) (k q : CornerPart) : Prop :=
  q.motion = ⟨false, 0, 0, 0, 0, 0⟩ ∧ (∀ ch, q.stuck.get ch = ⟨none, 0, 0, false⟩) ∧ q.lastDemand = 0 ∧ q.lastTarget = 0 ∧
    q.state = .off ∧ q.diag = ⟨0, 0, 0, none, ⟨.noFault, 0, 0, 0, false, 0⟩⟩ ∧ q.counters = k.counters ∧
    q.reg = { driverDisabled k.reg with
      calibration := none, compare := 0, firstTrip := false, meanSum := 0, meanCount := 0, meanRunning := false } ∧
    q.reasons.stale = false ∧ q.reasons.sensor = false ∧ q.reasons.link = false ∧
    q.reasons.supply = (supply.low || supply.high) ∧
    (q.reasons.map = true ↔ ∃ id, k.banks.active = some id ∧ (k.banks.get id).state = .corrupt) ∧
    q.banks.active = k.banks.active ∧ q.banks.swapPending = k.banks.swapPending ∧
    ∀ id, (q.banks.get id).words = (k.banks.get id).words ∧ (q.banks.get id).check = (k.banks.get id).check ∧
      (q.banks.get id).state = match (k.banks.get id).state with
        | .loading => .empty
        | .checking => .empty
        | x => x

/-- The part after a soft reset with its cause, given its corners and control state (R19, R57, R131, R148, R161, R176, R185). -/
def Sys2Proof.Claims.softened (cause : Byte) (corners : Quad CornerPart) (control : ControlState) (p : Part) : Part :=
  { p with
    tracker := { p.tracker with
      state := .unlocked, missAt := none, deadlineAt := none, runCount := 0, record := { p.tracker.record with closed := true } }
    context := { p.context with offsets := .fill 0, source := .localSource }
    corners := corners
    control := control
    selection := none
    store := { p.store with group := .fill false, pointer := 0, validation := none }
    portS := supervisionCleared p.portS
    portW := supervisionCleared p.portW
    link := ⟨[], [], [], none, p.link.substitute⟩
    slot := none
    events := [⟨.restarted, 1, p.tracker.record.number, cause⟩] }

/-- SOFT_RESET taken resets every block as its chapter states, keeps parameters, schedule, stored maps, counters and PWM, leaves
RESTARTED with cause SOFT the only event, and is answered DONE after the reset. A LINK_RESET with RESET_FOLLOWS_LINK 1 does the
same with cause LINK, its frame then the only one wheel-bound. The control state is STANDBY where the part is loaded, UNLOADED
otherwise (R19, R41, R57, R93, R112, R131, R148, R160, R161, R175, R176, R185). -/
def Obligations.SoftReset : Prop :=
  ∀ s : State,
    (∀ o : OrderIn, takesOrders s.part →
      (o.args ≠ [] → answers (.softReset o) s (afterOrder o 0x50 3 2 [] id s.part)) ∧
      (o.args = [] → ∃ t, exec (.softReset o) s = .next t ∧ t.pending = s.pending ∧
        t.part = afterOrder o 0x50 0 0 [] (softened 1 t.part.corners t.part.control) s.part ∧
        t.part.control = (if t.part.loaded then .standby else .unloaded) ∧
        ∀ c, softCorner s.part.supply (s.part.corner c) (t.part.corner c))) ∧
    ∀ (dst src : Byte) (payload : List Byte), s.part.params.resetFollowsLink = 1 →
      ∃ t, exec (.linkReset dst src payload) s = .next t ∧ t.pending = s.pending ∧
        t.part = placeWheelBound ⟨dst, src, 0x0E, payload⟩ (softened 2 t.part.corners t.part.control (afterGood .s s.part)) ∧
        t.part.control = (if t.part.loaded then .standby else .unloaded) ∧
        ∀ c, softCorner s.part.supply (s.part.corner c) (t.part.corner c)

/-! ## Demand and target (chapters 3 and 4) -/

/-- The candidate band at a speed: the highest present band whose bound is at most it (R48). -/
def Sys2Proof.Claims.candidate (b : Bands) (speed n : Nat) : Prop :=
  n ≤ 7 ∧ (b.get n).present = true ∧ (b.get n).bound ≤ speed ∧
    ∀ k, k ≤ 7 → (b.get k).present = true → (b.get k).bound ≤ speed → k ≤ n

/-- The selection made with a candidate: the candidate afresh, on a new mode or above the selected band; below it, only past the
hysteresis; the selected band otherwise (R48 to R50). -/
def Sys2Proof.Claims.selected (b : Bands) (mode : Mode) (speed hyst n : Nat) : Option Selection → Selection
  | none => ⟨n, mode⟩
  | some x =>
    if x.mode ≠ mode ∨ x.band < n ∨ (n < x.band ∧ speed < (b.get x.band).bound - hyst) then ⟨n, mode⟩ else x

/-- The sum B + S + G + E + O of a computation, before its clamp (R52 to R56). -/
def Sys2Proof.Claims.demandSum (params : Params) (x : BandEntry) (m : Motion) (sky ground : Bool) (offset : Int) : Int :=
  divRound (x.cBase * |m.vf|) 1000 +
    (if sky = true ∧ 0 < m.vb * m.vf then divRound (x.cSky * |m.vb|) 1000000 else 0) +
    (if ground = true ∧ m.vw * m.vf < 0 then divRound (x.cGnd * |m.vw|) 1000000 else 0) +
    (if (params.endZone : Int) < |m.hPrev| ∧ 0 < m.hPrev * m.vf then params.endGain * (|m.hPrev| - params.endZone) / 1000 else 0) +
    offset

/-- What the demand and target of a corner's computation come to, from the part before the command to the part after it, with
the candidate band and the usability of the two terms. Outside ENGAGED, and at a corner neither in CONTROL nor PASSIVE with its
ramp in progress, none is formed and both last values are 0. Otherwise the band is selected and the demand is the sum clamped;
without an ACTIVE bank the last target is 0, and with one that stays so it is the interpolated current limited to CURRENT_LIMIT:
applied to the regulator in CONTROL, not applied in PASSIVE (R48 to R50, R52 to R56, R62, R67, R83, R125). -/
def Sys2Proof.Claims.demandMade (c : Corner) (n : Nat) (sky ground : Bool) (p q : Part) : Prop :=
  (p.control ≠ .engaged ∨ (q.corner c).state ≠ .control ∧ (q.corner c).state ≠ .passive false →
    (q.corner c).lastDemand = 0 ∧ (q.corner c).lastTarget = 0) ∧
  (p.control = .engaged → (q.corner c).state = .control ∨ (q.corner c).state = .passive false →
    candidate (p.schedule.get p.context.mode) p.context.speed n →
    ∃ sel, q.selection = some sel ∧
      sel = selected (p.schedule.get p.context.mode) p.context.mode p.context.speed p.params.bandHyst n p.selection ∧
      (q.corner c).lastDemand = (max 0 (min (p.params.demandMax : Int)
        (demandSum p.params ((p.schedule.get p.context.mode).get sel.band) (q.corner c).motion sky ground
          (p.context.offsets.get c)))).toNat ∧
      ((∀ id, (p.corner c).banks.active = some id → ((p.corner c).banks.get id).state ≠ .active) →
        (q.corner c).lastTarget = 0 ∧
        ((q.corner c).state = .control → (q.corner c).reg.target = (p.corner c).reg.target)) ∧
      (∀ id, (p.corner c).banks.active = some id → ((p.corner c).banks.get id).state = .active →
        (q.corner c).banks = (p.corner c).banks →
        (q.corner c).lastTarget = (min (((p.corner c).banks.get id).interpolate (q.corner c).motion.vf
          (q.corner c).lastDemand) p.params.currentLimit).toNat ∧
        ((q.corner c).state = .control → (q.corner c).reg.target = (q.corner c).lastTarget) ∧
        ((p.corner c).state = .passive false → (q.corner c).state = .passive false →
          (q.corner c).reg.target = (p.corner c).reg.target) ∧
        ((p.corner c).state = .control → (q.corner c).state = .passive false → (q.corner c).reg.target = 0)))

/-- The computation of a FRESH sample, and every held computation of a closure at the deadline, form the demand and the target
that the control state and the corner's state after it call for. An invalid height counts HELD beside FRESH (R15, R24, R39,
R48 to R50, R52 to R56, R62, R67, R125). Whether the term of a channel released by the sample is already used is the free value
of log entry 22. -/
def Obligations.DemandAndTarget : Prop :=
  (∀ (c : Corner) (dst : Byte) (payload : List Byte) (x : Sample) (n : Nat) (s : State), usableSample c payload x →
    s.part.control.computes = true → s.part.tracker.state ≠ .unlocked → s.part.tracker.record.closed = false →
    s.part.tracker.record.fresh.get c = false → x.tag = currentTag s.part →
    ∃ t, exec (.sampleArrival dst (nodeOf c) payload) s = .next t ∧ t.pending = s.pending ∧
      (t.part.corner c).counters.fresh = min 4294967295 ((s.part.corner c).counters.fresh + 1) ∧
      (t.part.corner c).counters.held = (if x.hInvalid then min 4294967295 ((s.part.corner c).counters.held + 1)
        else (s.part.corner c).counters.held) ∧
      demandMade c n (!drops (s.part.corner c).stuck.ab.stuck (t.part.corner c).stuck.ab.stuck x.abInvalid)
        (!drops (s.part.corner c).stuck.aw.stuck (t.part.corner c).stuck.aw.stuck x.awInvalid) s.part t.part) ∧
  ∀ (d n : Nat) (s : State), s.part.tracker.deadlineAt = some d → s.part.tracker.record.closed = false →
    s.part.control.computes = true →
    ∃ t, exec .deadlineExpiry s = .next t ∧ t.pending = s.pending ∧
      ∀ c : Corner, s.part.tracker.record.computed.get c = false →
        demandMade c n (!(s.part.corner c).stuck.ab.stuck) (!(s.part.corner c).stuck.aw.stuck) s.part t.part

/-- The index of an input on an axis: the largest from 0 to 6 whose point is at most the input (R65). -/
def Sys2Proof.Claims.indexOn (axis : Nat → Nat) (x i : Nat) : Prop :=
  i ≤ 6 ∧ (i = 0 ∨ axis i ≤ x) ∧ ∀ k, i < k → k ≤ 6 → x < axis k

/-- The fraction of an input within the segment of its index (R65). -/
def Sys2Proof.Claims.fractionOn (axis : Nat → Nat) (x i : Nat) : Nat := (x - axis i) * 256 / (axis (i + 1) - axis i)

/-- A move from one value toward another by a fraction of 256, the quotient rounded to the nearest with ties toward positive
infinity (R66, R67; spec 00, 2.4). -/
def Sys2Proof.Claims.moved (a b : Int) (f : Nat) : Int := a + (2 * ((b - a) * f) + 256) / 512

/-- The interpolated current is the move by fx between the rows i and i + 1, each the move by fy between its cells j and j + 1, in
the half that the sign of v_f chooses, with both inputs clamped to the ends of their axes (R63 to R67). It lies between the
smallest and the largest of the four cells, for any stored words, and the target never exceeds CURRENT_LIMIT and lies between
them too where the limit is at least the smallest (R68). -/
def Obligations.InterpolationBounds : Prop :=
  ∀ (b : Bank) (vf : Int) (demand limit x y half : Nat) (cell : Nat → Nat → Int),
    x = min vf.natAbs (b.value 7) → y = min demand (b.value 15) → half = (if 0 ≤ vf then 16 else 80) →
    cell = (fun i j => (b.value (half + 8 * i + j) : Int)) →
    ∃ i j, indexOn b.value x i ∧ indexOn (fun k => b.value (8 + k)) y j ∧ ∃ fx fy : Nat, ∃ low high : Int,
      fx = fractionOn b.value x i ∧ fx ≤ 256 ∧ (fx = 256 → i = 6 ∧ x = b.value 7) ∧
      fy = fractionOn (fun k => b.value (8 + k)) y j ∧ fy ≤ 256 ∧ (fy = 256 → j = 6 ∧ y = b.value 15) ∧
      b.interpolate vf demand =
        moved (moved (cell i j) (cell i (j + 1)) fy) (moved (cell (i + 1) j) (cell (i + 1) (j + 1)) fy) fx ∧
      low = min (min (cell i j) (cell i (j + 1))) (min (cell (i + 1) j) (cell (i + 1) (j + 1))) ∧
      high = max (max (cell i j) (cell i (j + 1))) (max (cell (i + 1) j) (cell (i + 1) (j + 1))) ∧
      low ≤ b.interpolate vf demand ∧ b.interpolate vf demand ≤ high ∧
      min (b.interpolate vf demand) limit ≤ limit ∧
      (low ≤ limit → low ≤ min (b.interpolate vf demand) limit ∧ min (b.interpolate vf demand) limit ≤ high)

/-! ## Valve regulation (chapter 5) -/

/-- At a period start the counter starts down from P with the comparator's parameters taken and the trip mode of the period that
ends kept, and each regulator, in its mode, takes a pending enable, moves its setpoint by at most SLEW toward its aim or by RAMP toward 0, ends a ramp at 0 with its driver
disabled, and loads C as the floor of duty × P / 32768 with its sample point; every gate is off there and every comparator
starts afresh. A calibration requested begins, unless a reason just gained takes its corner to PASSIVE. The gate of a corner is on while its driver is enabled, its period not tripped and the counter below C. The scrub
reads the word at its pointer in each ACTIVE bank: an upset one makes the bank CORRUPT with the reason MAP and MAP_PARITY. The
pointer moves on (R70, R71, R75 to R77, R79, R82 to R84, R88; the order within the instant, log entry 6). -/
def Obligations.PeriodStart : Prop :=
  (∀ (p : Part) (c : Corner), p.gate c = true ↔
    (p.corner c).reg.enabled = true ∧ (p.corner c).reg.tripped = false ∧ p.pwm.count < (p.corner c).reg.compare) ∧
  ∀ (mv : Nat) (s : State), ∃ t, exec (.pwmPeriodStart mv) s = .next t ∧ t.pending = s.pending ∧
    t.part.pwm = ⟨s.part.params.pwmHalf, false, s.part.params.pwmHalf, s.part.params.tripLevel, s.part.params.tripFilter,
      decide (s.part.params.tripMode = 1), s.part.pwm.tripLatch⟩ ∧
    t.part.pins = { s.part.pins with supplyMv := mv } ∧
    t.part.store.scrub = (if s.part.store.scrub + 1 < 144 then s.part.store.scrub + 1 else 0) ∧
    t.part.now = s.part.now ∧ t.part.tracker = s.part.tracker ∧ t.part.context = s.part.context ∧
    t.part.params = s.part.params ∧ t.part.schedule = s.part.schedule ∧ t.part.selection = s.part.selection ∧
    t.part.portW = s.part.portW ∧ t.part.globals = s.part.globals ∧ t.part.intervalAt = s.part.intervalAt ∧
    ∀ c : Corner,
      ((t.part.corner c).reg.sampled = false ∧ (t.part.corner c).reg.tripped = false ∧
        (t.part.corner c).reg.trippedBefore = (s.part.corner c).reg.tripped ∧ (t.part.corner c).reg.overRun = 0 ∧
        ((t.part.corner c).reg.duty ≤ 32767 → t.part.gate c = false) ∧
        (t.part.corner c).reg.offset = (s.part.corner c).reg.offset ∧
        (t.part.corner c).reg.point =
          (if s.part.params.sampleMin ≤ (t.part.corner c).reg.compare then .valley else .peak)) ∧
      (∀ id, (s.part.corner c).banks.active = some id → ((s.part.corner c).banks.get id).state = .active →
        ((memRead ((s.part.corner c).banks.get id).words s.part.store.scrub).intact = true →
          ((t.part.corner c).banks.get id).state = .active) ∧
        ((memRead ((s.part.corner c).banks.get id).words s.part.store.scrub).intact = false →
          ((t.part.corner c).banks.get id).state = .corrupt ∧ (t.part.corner c).reasons.map = true ∧
          pendingEvent t.part (.mapParity c) ∧
          (s.part.control = .engaged → (s.part.corner c).state = .control → (t.part.corner c).state = .passive false))) ∧
      ((s.part.corner c).reg.wanted = .tracking → (t.part.corner c).reg.enabled = true ∧
        (t.part.corner c).reg.setpoint =
          (let start := if (s.part.corner c).reg.enabled then (s.part.corner c).reg.setpoint else 0
           let aim := min (s.part.corner c).reg.target s.part.params.currentLimit
           if start < aim then min aim (start + s.part.params.slew) else max aim (start - s.part.params.slew)) ∧
        (t.part.corner c).reg.compare = (t.part.corner c).reg.duty * s.part.params.pwmHalf / 32768 ∧
        ((s.part.corner c).reg.enabled = true → (t.part.corner c).reg.duty = (s.part.corner c).reg.duty ∧
          (t.part.corner c).reg.u = (s.part.corner c).reg.u ∧ (t.part.corner c).reg.e1 = (s.part.corner c).reg.e1 ∧
          (t.part.corner c).reg.e2 = (s.part.corner c).reg.e2) ∧
        ((s.part.corner c).reg.enabled = false → (t.part.corner c).reg.duty = s.part.params.dutyMin ∧
          (t.part.corner c).reg.u = s.part.params.dutyMin * 65536 ∧ (t.part.corner c).reg.e1 = 0 ∧
          (t.part.corner c).reg.e2 = 0 ∧ (t.part.corner c).reg.firstTrip = false)) ∧
      ((s.part.corner c).reg.wanted = .ramping → (s.part.corner c).reg.enabled = true →
        s.part.params.ramp < (s.part.corner c).reg.setpoint → (t.part.corner c).reg.enabled = true ∧
          (t.part.corner c).reg.setpoint = (s.part.corner c).reg.setpoint - s.part.params.ramp ∧
          (t.part.corner c).reg.duty = (s.part.corner c).reg.duty ∧
          (t.part.corner c).reg.compare = (s.part.corner c).reg.duty * s.part.params.pwmHalf / 32768) ∧
      ((s.part.corner c).reg.wanted = .ramping →
        ((s.part.corner c).reg.enabled = false ∨ (s.part.corner c).reg.setpoint ≤ s.part.params.ramp) →
        (t.part.corner c).reg.enabled = false ∧ (t.part.corner c).reg.setpoint = 0 ∧ (t.part.corner c).reg.duty = 0 ∧
          (t.part.corner c).reg.compare = 0) ∧
      ((s.part.corner c).reg.wanted = .disabled → (s.part.corner c).reg.enabled = false →
        (t.part.corner c).reg.enabled = false ∧ (t.part.corner c).reg.setpoint = (s.part.corner c).reg.setpoint ∧
          (t.part.corner c).reg.duty = (s.part.corner c).reg.duty ∧ (t.part.corner c).reg.compare = 0) ∧
      (∀ x, (s.part.corner c).reg.calibration = some x → (s.part.corner c).reg.wanted = .disabled →
        (∃ k b, (s.part.corner c).state = .calibrating k b) ∨ (∃ r, (s.part.corner c).state = .test .cal r) →
        ((t.part.corner c).state = (s.part.corner c).state →
          (t.part.corner c).reg.calibration = some { x with begun := true }) ∧
        (s.part.control ≠ .engaged ∨ (∀ b, (s.part.corner c).state ≠ .calibrating .recal b) ∨
            (t.part.corner c).reasons = ⟨false, false, false, false, false⟩ →
          (t.part.corner c).state = (s.part.corner c).state))

/-- The accumulator after a loop step with this measured current, kept within the duty bounds (R86, R87). -/
def Sys2Proof.Claims.nextU (params : Params) (r : Regulator) (im : Int) : Int :=
  let e : Int := r.setpoint - im
  clampInt (65536 * params.dutyMin) (65536 * params.dutyMax)
    (r.u + (params.kp * (e - r.e1) + params.ki * e + params.kd * (e - 2 * r.e1 + r.e2)))

/-- A regulator after its sample: the loop step of an enabled driver, the sum of a calibration begun, and the mean while it runs
(R78, R79, R86, R92). -/
def Sys2Proof.Claims.sampledReg (params : Params) (raw : BitVec 12) (r : Regulator) : Regulator :=
  let im := measuredCurrent params r raw
  { r with
    u := if r.enabled then nextU params r im else r.u
    duty := if r.enabled then (nextU params r im / 65536).toNat else r.duty
    e1 := if r.enabled then (r.setpoint : Int) - im else r.e1
    e2 := if r.enabled then r.e1 else r.e2
    calibration := match r.calibration with
      | some ⟨true, taken, sum⟩ => some ⟨true, taken + 1, sum + raw.toNat⟩
      | x => x
    meanSum := if r.meanRunning then r.meanSum + im else r.meanSum
    meanCount := if r.meanRunning then r.meanCount + 1 else r.meanCount
    sampled := true }

/-- The part whose counter has gone on to a corner's sample point, each comparator following it (R75, R77, R88). -/
def Sys2Proof.Claims.atSample (c : Corner) (p : Part) : Part :=
  p.pass (match (p.corner c).reg.point with
    | .valley => if p.pwm.up then p.pwm else { p.pwm with count := 0, up := true }
    | .peak => { p.pwm with count := p.pwm.half, up := true })

/-- The part after a corner's sample whose hand-off leaves these runs: the counter stands at the sample point, the sense pin at
the reading, and nothing else has changed (R75, R77, R78, R94). -/
def Sys2Proof.Claims.sampledPart (c : Corner) (raw : BitVec 12) (openRun shortRun leakRun : Nat) (p : Part) : Part :=
  { atSample c p with
    pins := { p.pins with sense := p.pins.sense.set c raw }
    corners := (atSample c p).corners.set c { p.corner c with
      reg := sampledReg p.params raw ((atSample c p).corner c).reg
      diag := { (p.corner c).diag with openRun := openRun, shortRun := shortRun, leakRun := leakRun } } }

/-- A hand-off's Tripped item: of the period just ended at a valley, of its own period at a peak (R91). -/
def Sys2Proof.Claims.trippedPeriod (r : Regulator) : Bool :=
  match r.point with
  | .valley => r.trippedBefore
  | .peak => r.tripped

/-- A period that counts toward the short run: its Tripped item is set, and TRIP_MODE was LIMIT in it (R96). -/
def Sys2Proof.Claims.limitPeriod (w : Pwm) (r : Regulator) : Bool :=
  trippedPeriod r && !(match r.point with
    | .valley => w.latchBefore
    | .peak => w.tripLatch)

/-- A period that counts toward the open run (R95). -/
def Sys2Proof.Claims.openPeriod (params : Params) (k : CornerPart) (im : Int) : Bool :=
  decide (params.openCheck ≤ k.reg.setpoint ∧ k.reg.duty = params.dutyMax ∧ 2 * im < k.reg.setpoint) &&
    !trippedPeriod k.reg && !k.reasons.supply

/-- A corner with its regulator after a sample. -/
def Sys2Proof.Claims.sampledCorner (params : Params) (raw : BitVec 12) (k : CornerPart) : CornerPart :=
  { k with reg := sampledReg params raw k.reg }

/-- A regulator takes one sample a period: the loop, the calibration sum, the mean and the hand-off's runs. CONTROL with neither
condition met counts both runs, the short one by periods that tripped in LIMIT mode; a ramping driver, FAULT and a calibration
in progress leave the runs 0; a disabled driver counts the leak run below 8; a test in DRIVE short of its end counts its period.
A second sample of a period does nothing
(R77 to R79, R86, R87, R91, R92, R94 to R96, R98, R128). That the sample brings the PWM counter to its point of the period, and
that a calibration requested and not yet begun leaves the runs 0 too, and that a period that tripped in LATCH mode sets the short
run to 0, are the model's readings (log entries 1, 12 and 23). -/
def Obligations.CurrentSample : Prop :=
  ∀ (c : Corner) (raw : BitVec 12) (im : Int) (k : CornerPart) (s : State),
    im = measuredCurrent s.part.params (s.part.corner c).reg raw → k = sampledCorner s.part.params raw ((atSample c s.part).corner c) →
    ((s.part.corner c).reg.sampled = true → answers (.currentSample c raw) s s.part) ∧
    ((s.part.corner c).reg.sampled = false →
      ((s.part.corner c).state = .control → k.reg.enabled = true → k.reg.wanted = .tracking → k.reg.calibration = none →
        ¬ (openPeriod s.part.params k im = true ∧ s.part.params.satRun ≤ k.diag.openRun + 1) →
        ¬ (limitPeriod s.part.pwm k.reg = true ∧ s.part.params.tripRun ≤ k.diag.shortRun + 1) →
        answers (.currentSample c raw) s (sampledPart c raw (if openPeriod s.part.params k im then k.diag.openRun + 1 else 0)
          (if limitPeriod s.part.pwm k.reg then k.diag.shortRun + 1 else 0) 0 s.part)) ∧
      (k.reg.enabled = true → k.reg.wanted = .ramping → k.reg.calibration = none →
        answers (.currentSample c raw) s (sampledPart c raw 0 0 0 s.part)) ∧
      ((s.part.corner c).state = .fault → k.reg.calibration = none →
        answers (.currentSample c raw) s (sampledPart c raw 0 0 0 s.part)) ∧
      (∀ x, k.reg.enabled = false → k.reg.calibration = some x → x.taken < 64 →
        answers (.currentSample c raw) s (sampledPart c raw 0 0 0 s.part)) ∧
      (k.reg.enabled = false → k.reg.calibration = none → (s.part.corner c).state ≠ .fault →
        ((s.part.params.leakLevel : Int) < im → k.diag.leakRun + 1 < 8 →
          answers (.currentSample c raw) s (sampledPart c raw 0 0 (k.diag.leakRun + 1) s.part)) ∧
        (im ≤ s.part.params.leakLevel → answers (.currentSample c raw) s (sampledPart c raw 0 0 0 s.part))) ∧
      (∀ r, (s.part.corner c).state = .test .drive r → k.reg.enabled = true → k.reg.wanted = .tracking →
        k.reg.calibration = none → ¬ (openPeriod s.part.params k im = true ∧ s.part.params.satRun ≤ k.diag.openRun + 1) →
        r.driven + 1 ≠ r.duration → ∃ t, exec (.currentSample c raw) s = .next t ∧ t.pending = s.pending ∧
          (t.part.corner c).state = .test .drive (if r.duration - r.duration / 2 < r.driven + 1 then
              { r with
                driven := r.driven + 1
                finalDuty := k.reg.duty
                count := r.count + 1
                sum := r.sum + im
                least := some (match r.least with | none => im | some y => min y im)
                greatest := some (match r.greatest with | none => im | some y => max y im) }
            else { r with driven := r.driven + 1, finalDuty := k.reg.duty }) ∧
          (t.part.corner c).reg = k.reg ∧
          t.part = { sampledPart c raw (if openPeriod s.part.params k im then k.diag.openRun + 1 else 0) 0 0 s.part with
            corners := (atSample c s.part).corners.set c (t.part.corner c) }))

/-- The regulator at the end of a ramp: its driver disabled (R82, R84). -/
def Sys2Proof.Claims.rampEnded (r : Regulator) : Regulator :=
  { driverDisabled r with firstTrip := r.enabled && r.firstTrip }

/-- A ramp that completes at a period start's move: in RELEASING a corner in CONTROL or PASSIVE enters OFF, and the control state
follows the loaded condition once every corner is OFF or in FAULT; elsewhere a PASSIVE corner rests with its ramp complete
(R84, R118, R119, R123; the row as that part of a period start, log entry 3). -/
def Obligations.RampComplete : Prop :=
  ∀ (c : Corner) (s : State), (s.part.corner c).reg.wanted = .ramping →
    ((s.part.corner c).reg.enabled = false ∨ (s.part.corner c).reg.setpoint ≤ s.part.params.ramp) →
    (∀ x, (s.part.corner c).state = .passive x → s.part.control ≠ .releasing → answers (.rampComplete c) s { s.part with
      corners := s.part.corners.set c { s.part.corner c with
        state := .passive true, reg := rampEnded (s.part.corner c).reg } }) ∧
    (((s.part.corner c).state = .control ∨ ∃ x, (s.part.corner c).state = .passive x) → s.part.control = .releasing →
      ((∃ d, d ≠ c ∧ (s.part.corner d).state ≠ .off ∧ (s.part.corner d).state ≠ .fault) →
        answers (.rampComplete c) s { s.part with
          corners := s.part.corners.set c (turnedOff { s.part.corner c with reg := rampEnded (s.part.corner c).reg }) }) ∧
      ((∀ d, d ≠ c → (s.part.corner d).state = .off ∨ (s.part.corner d).state = .fault) →
        ∃ t, exec (.rampComplete c) s = .next t ∧ t.pending = s.pending ∧ settled s.part.loaded t.part ∧
          t.part = { s.part with corners := t.part.corners, control := t.part.control } ∧
          (t.part.corner c).state = .off ∧ (t.part.corner c).reg =
            { driverDisabled (rampEnded (s.part.corner c).reg) with calibration := none } ∧
          ∀ d, d ≠ c → { t.part.corner d with motion := (s.part.corner d).motion } = s.part.corner d))

/-- The candidate offset of a calibration's sum (R79). -/
def Sys2Proof.Claims.offsetOf (sum : Nat) : Nat := (divRound sum 64).toNat

/-- The regulator at a passed calibration (R79). -/
def Sys2Proof.Claims.calibrated (x : Nat) (r : Regulator) : Regulator := { r with calibration := none, offset := x }

/-- A corner's fault record and runs at an entry to FAULT (R104). -/
def Sys2Proof.Claims.latched (d : Diagnosis) (kind : FaultKind) : Diagnosis where
  openRun := 0
  shortRun := 0
  leakRun := 0
  episode := none
  record := match d.episode with
    | some _ => { d.record with total := min 4294967295 (d.record.total + d.record.attempts), kind := kind }
    | none => { d.record with kind := kind, round := 0, attempts := 0 }

/-- The event of an entry to FAULT is pending with its kind as parameter (R104, R190). -/
def Sys2Proof.Claims.faultRaised (q : Part) (c : Corner) (kind : FaultKind) : Prop :=
  ∃ e ∈ q.events, e.event = .valveFault c ∧ e.parameter = kind.code

/-- The 64th sample of a calibration: within 2048 ± 400 the candidate becomes the offset, and the corner is calibrated for ENGAGE
(ENGAGED follows the last, each corner then in CONTROL or PASSIVE), SUSPENDED in round 2 after a recalibration, or driving its
test; outside it the offset is kept and the corner is in FAULT, SENSE_OFFSET (R79, R103, R104, R115, R116, R127). That the row,
as a command of its own, is the outcome alone, with no loop step, hand-off or sampled mark, is the model's reading (log
entry 3). -/
def Obligations.CalibrationComplete : Prop :=
  ∀ (c : Corner) (raw : BitVec 12) (sum x : Nat) (s : State),
    (s.part.corner c).reg.calibration = some ⟨true, 63, sum⟩ → x = offsetOf (sum + raw.toNat) →
    (1648 ≤ x → x ≤ 2448 →
      (∀ b, (s.part.corner c).state = .calibrating .engage b → s.part.control = .engaging →
        (∃ d b', d ≠ c ∧ (∃ y, (s.part.corner d).state = .calibrating y b') ∧ (s.part.corner d).reg.calibration.isSome = true) →
        answers (.calibrationComplete c raw) s { s.part with corners := s.part.corners.set c { s.part.corner c with
          state := .calibrating .engage true, reg := calibrated x (s.part.corner c).reg } }) ∧
      (∀ b, (s.part.corner c).state = .calibrating .engage b → s.part.control = .engaging →
        (∀ d, d ≠ c → (∃ y b', (s.part.corner d).state = .calibrating y b') → (s.part.corner d).reg.calibration = none) →
        ∃ t, exec (.calibrationComplete c raw) s = .next t ∧ t.pending = s.pending ∧
          t.part = { s.part with control := .engaged, corners := t.part.corners, events := t.part.events } ∧
          (t.part.corner c).reg.offset = x ∧
          ∀ d, ((∃ y b', (s.part.corner d).state = .calibrating y b') →
              ((s.part.corner d).reasons.none = true → (t.part.corner d).state = .control ∧
                (t.part.corner d).reg.wanted = .tracking) ∧
              ((s.part.corner d).reasons.none = false → (t.part.corner d).state = .passive false ∧
                (t.part.corner d).reg.wanted = .ramping ∧ pendingEvent t.part (.cornerPassive d))) ∧
            ((∀ y b', (s.part.corner d).state ≠ .calibrating y b') → t.part.corner d = s.part.corner d)) ∧
      (∀ b, (s.part.corner c).state = .calibrating .recal b → answers (.calibrationComplete c raw) s { s.part with
        corners := s.part.corners.set c { s.part.corner c with
          state := .suspended
          reg := driverDisabled (calibrated x (s.part.corner c).reg)
          diag := { (s.part.corner c).diag with record := { (s.part.corner c).diag.record with
            total := min 4294967295 ((s.part.corner c).diag.record.total + (s.part.corner c).diag.record.attempts)
            round := 2
            attempts := 0 } } } }) ∧
      (∀ r, (s.part.corner c).state = .test .cal r → answers (.calibrationComplete c raw) s { s.part with
        corners := s.part.corners.set c { s.part.corner c with
          state := .test .drive { r with candidate := x }
          reg := { calibrated x (s.part.corner c).reg with wanted := .tracking, target := r.current } } })) ∧
    (x < 1648 ∨ 2448 < x → ∀ y b, (s.part.corner c).state = .calibrating y b →
      ∃ t, exec (.calibrationComplete c raw) s = .next t ∧ t.pending = s.pending ∧ (t.part.corner c).state = .fault ∧
        (t.part.corner c).reg = { driverDisabled (s.part.corner c).reg with calibration := none } ∧
        (t.part.corner c).diag = latched (s.part.corner c).diag .senseOffset ∧ faultRaised t.part c .senseOffset ∧
        t.part.params = s.part.params ∧ t.part.tracker = s.part.tracker ∧ t.part.context = s.part.context ∧
        ∀ d, (t.part.corner d).banks = (s.part.corner d).banks)

/-! ## Valve diagnosis (chapter 6) -/

/-- The diagnosis after steps 1 to 3 of R100, in the episode in progress or in one set up with this limit and first cycle
(R99). -/
def Sys2Proof.Claims.suspected (limit : Nat) (cycle : Word) (kind : FaultKind) (d : Diagnosis) : Diagnosis :=
  match d.episode with
  | some e => { d with
      openRun := 0
      shortRun := 0
      episode := some ⟨e.limit, none⟩
      record := { d.record with kind := kind, attempts := d.record.attempts + 1 } }
  | none => { d with
      openRun := 0
      shortRun := 0
      episode := some ⟨limit, none⟩
      record := { d.record with kind := kind, round := 1, attempts := 1, firstCycle := cycle } }

/-- What a suspicion makes of a corner of this part: a retry in SUSPENDED up to the episode's limit, then in round 1 the
recalibration, and in round 2 FAULT; RETRY is counted (R100, R103, R104). -/
def Sys2Proof.Claims.afterSuspicion (kind : FaultKind) (p : Part) (k q : CornerPart) : Prop :=
  let d := suspected p.params.retryLimit p.tracker.record.number kind k.diag
  let limit := match k.diag.episode with
    | some e => e.limit
    | none => p.params.retryLimit
  let counters := { k.counters with retry := min 4294967295 (k.counters.retry + 1) }
  (d.record.attempts ≤ limit → q = { k with
    state := .suspended, reg := { driverDisabled k.reg with calibration := none }, diag := d, counters := counters }) ∧
  (limit < d.record.attempts → d.record.round = 1 → q = { k with
    state := .calibrating .recal false, reg := calibrationRequested k.reg, diag := d, counters := counters }) ∧
  (limit < d.record.attempts → d.record.round ≠ 1 → q = { k with
    state := .fault, reg := { driverDisabled k.reg with calibration := none }, diag := latched d kind, counters := counters })

/-- The hand-off that meets the open condition, or the short one, of a corner regulating in ENGAGED: a suspicion of that kind.
Nothing else changes but the event of an entry to FAULT (R94 to R97, R99, R100, R103, R104; the rows as that hand-off, log
entry 3). -/
def Obligations.Suspicions : Prop :=
  ∀ (c : Corner) (im : Int) (s : State), s.part.control = .engaged → (s.part.corner c).state = .control →
    (s.part.corner c).reg.enabled = true → (s.part.corner c).reg.wanted = .tracking →
    (openPeriod s.part.params (s.part.corner c) im = true → s.part.params.satRun ≤ (s.part.corner c).diag.openRun + 1 →
      ∃ t, exec (.openCondition c im) s = .next t ∧ t.pending = s.pending ∧
        t.part = { s.part with corners := s.part.corners.set c (t.part.corner c), events := t.part.events } ∧
        afterSuspicion .openWinding s.part
          { s.part.corner c with diag := { (s.part.corner c).diag with leakRun := 0 } } (t.part.corner c) ∧
        ((t.part.corner c).state = .fault → faultRaised t.part c .openWinding) ∧
        ((t.part.corner c).state ≠ .fault → t.part.events = s.part.events)) ∧
    (limitPeriod s.part.pwm (s.part.corner c).reg = true → s.part.params.tripRun ≤ (s.part.corner c).diag.shortRun + 1 →
      ∃ t, exec (.shortSuspicion c im) s = .next t ∧ t.pending = s.pending ∧
        t.part = { s.part with corners := s.part.corners.set c (t.part.corner c), events := t.part.events } ∧
        afterSuspicion .shortWinding s.part
          { s.part.corner c with diag := { (s.part.corner c).diag with leakRun := 0 } } (t.part.corner c) ∧
        ((t.part.corner c).state = .fault → faultRaised t.part c .shortWinding) ∧
        ((t.part.corner c).state ≠ .fault → t.part.events = s.part.events))

/-- The ticks of the period's on-interval of 2C − 1 that have begun by a position of the counter (R76). -/
def Sys2Proof.Claims.onBegun (w : Pwm) (compare : Nat) : Nat :=
  if w.up then min (compare + w.count) (2 * compare - 1) else compare - w.count

/-- The ticks of on-time that a comparator's run still needs to exceed the filter time (R88). -/
def Sys2Proof.Claims.ticksNeeded (p : Part) (c : Corner) : Nat :=
  filterTime p.pwm.tripFilter + 1 - (if p.gate c then (p.corner c).reg.overRun else 0)

/-- The comparator trips within these ticks, the sense input standing at this reading: an enabled driver not yet tripped, the
on-interval not yet passed, the current above the level, and the ticks still needed lying within the on-interval and, with those
until the gate turns on, within the ticks given (R76, R88). -/
def Sys2Proof.Claims.tripMet (p : Part) (c : Corner) (raw : BitVec 12) (ticks : Nat) : Prop :=
  (p.corner c).reg.enabled = true ∧ (p.corner c).reg.tripped = false ∧
    (p.pwm.up = true → p.pwm.count < (p.corner c).reg.compare) ∧
    (p.pwm.tripLevel : Int) < measuredCurrent p.params (p.corner c).reg raw ∧
    onBegun p.pwm (p.corner c).reg.compare + ticksNeeded p c + 1 ≤ 2 * (p.corner c).reg.compare ∧
    (p.pwm.count - (p.corner c).reg.compare) + ticksNeeded p c ≤ ticks

/-- The counter at a tick of the on-interval, counted from 1 (R75, R76). -/
def Sys2Proof.Claims.counterAt (w : Pwm) (compare n : Nat) : Pwm :=
  { w with count := if n < compare then compare - n else n - compare, up := decide (compare ≤ n) }

/-- A comparator's run goes on with the counter while the gate is on and the current above the level, and starts afresh
otherwise. It trips once the run exceeds the filter time: the counter stands at that tick of the on-interval, OVERCURRENT is
counted and the gate is off for the period. In LIMIT mode the first after an enable raises OVERCURRENT_LIMIT and the driver stays
enabled. In LATCH mode the driver is disabled, and the report makes a regulating corner's short suspicion, rests a PASSIVE
corner, and in RELEASING turns the corner OFF. Where the filter time does not pass within the ticks given, nothing happens
(R76, R88 to R90, R97, R100, R119, R123). That the row gives a reading and the ticks it stands, and moves the counter but not the
clock, is the model's choice (log entries 1, 3 and 28); the trip of a TEST corner is stated with the ends of a valve test. -/
def Obligations.OvercurrentTrip : Prop :=
  (∀ (w : Pwm) (p : Part), p.pass w = { p with pwm := w, corners := (p.pass w).corners } ∧
    ∀ c, ∃ run, (p.pass w).corner c = { p.corner c with reg := { (p.corner c).reg with overRun := run } } ∧
      run = if (p.pass w).gate c = true ∧
          (p.pwm.tripLevel : Int) < measuredCurrent p.params (p.corner c).reg (p.pins.sense.get c)
        then (if p.gate c then (p.corner c).reg.overRun else 0) +
          (onBegun w (p.corner c).reg.compare - onBegun p.pwm (p.corner c).reg.compare)
        else 0) ∧
  ∀ (c : Corner) (raw : BitVec 12) (ticks : Nat) (k : CornerPart) (s : State),
    (¬ tripMet s.part c raw ticks → answers (.overcurrentTrip c raw ticks) s s.part) ∧
    (tripMet s.part c raw ticks →
    k = { s.part.corner c with
      reg := { (s.part.corner c).reg with tripped := true, overRun := 0 }
      counters := { (s.part.corner c).counters with overcurrent := min 4294967295 ((s.part.corner c).counters.overcurrent + 1) } } →
    ∃ t, exec (.overcurrentTrip c raw ticks) s = .next t ∧ t.pending = s.pending ∧
      t.part.pwm = counterAt s.part.pwm (s.part.corner c).reg.compare
        (onBegun s.part.pwm (s.part.corner c).reg.compare + ticksNeeded s.part c) ∧
      t.part.pins = { s.part.pins with sense := s.part.pins.sense.set c raw } ∧ t.part.params = s.part.params ∧
      t.part.tracker = s.part.tracker ∧ t.part.context = s.part.context ∧ t.part.now = s.part.now ∧ t.part.gate c = false ∧
      (∀ d, d ≠ c → t.part.corner d = { s.part.corner d with
        motion := (t.part.corner d).motion
        reg := { (s.part.corner d).reg with overRun := (t.part.corner d).reg.overRun } }) ∧
      (s.part.pwm.tripLatch = false → t.part = { s.part with
          pwm := t.part.pwm, pins := t.part.pins, corners := t.part.corners, events := t.part.events } ∧
        t.part.corner c = { k with reg := { k.reg with firstTrip := true } } ∧
        (∀ d, (t.part.corner d).motion = (s.part.corner d).motion) ∧
        ((s.part.corner c).reg.firstTrip = false → pendingEvent t.part (.overcurrentLimit c)) ∧
        ((s.part.corner c).reg.firstTrip = true → t.part.events = s.part.events)) ∧
      (s.part.pwm.tripLatch = true →
        (t.part.corner c).reg.enabled = false ∧ (t.part.corner c).reg.rests ∧
        (s.part.control = .engaged → (s.part.corner c).state = .control →
          afterSuspicion .shortWinding s.part { k with reg := driverDisabled k.reg } (t.part.corner c)) ∧
        (∀ x, s.part.control ≠ .releasing → (s.part.corner c).state = .passive x →
          t.part.corner c = { k with state := .passive true, reg := driverDisabled k.reg }) ∧
        (s.part.control = .releasing → ((s.part.corner c).state = .control ∨ ∃ x, (s.part.corner c).state = .passive x) →
          (t.part.corner c).state = .off ∧
          ((∀ d, d ≠ c → (s.part.corner d).state = .off ∨ (s.part.corner d).state = .fault) → settled s.part.loaded t.part) ∧
          ((∃ d, d ≠ c ∧ (s.part.corner d).state ≠ .off ∧ (s.part.corner d).state ≠ .fault) → t.part.control = .releasing))))

/-- The eighth period in a row of a disabled driver with i_m above LEAK_LEVEL puts the corner in FAULT, LEAK; a cycle start at
which a corner in CONTROL has a proving window of 1 ends its episode recovered. Nothing else changes but the event of each
(R98, R102, R104; the rows as that hand-off and that part of a cycle start, log entry 3). -/
def Obligations.LeakAndRecovery : Prop :=
  ∀ (c : Corner) (s : State),
    (∀ im : Int, s.part.control ≠ .releasing → (s.part.corner c).state ≠ .fault → (s.part.corner c).reg.enabled = false →
      (s.part.corner c).reg.calibration = none → (s.part.params.leakLevel : Int) < im → 7 ≤ (s.part.corner c).diag.leakRun →
      ∃ t, exec (.leakFault c im) s = .next t ∧ t.pending = s.pending ∧ faultRaised t.part c .leak ∧
        t.part = { s.part with
          events := t.part.events
          corners := s.part.corners.set c { s.part.corner c with
            state := .fault
            reg := driverDisabled (s.part.corner c).reg
            diag := latched (s.part.corner c).diag .leak } }) ∧
    (∀ limit, (s.part.corner c).state = .control → (s.part.corner c).diag.episode = some ⟨limit, some 1⟩ →
      ∃ t, exec (.episodeRecovered c) s = .next t ∧ t.pending = s.pending ∧
        recoveryRaised t.part c (s.part.corner c).diag.record.kind ∧
        t.part = { s.part with
          events := t.part.events
          corners := s.part.corners.set c { s.part.corner c with diag := recovered (s.part.corner c).diag } })

/-- The high flag after a supply sample (R110). -/
def Sys2Proof.Claims.highAfter (p : Part) (mv : Nat) : Bool :=
  if p.supply.high then decide (p.params.supplyHighOff < mv) else decide (p.params.supplyHighOn < mv)

/-- The low flag and its run after a supply sample (R109). -/
def Sys2Proof.Claims.lowStepped (p : Part) (mv : Nat) (q : Supply) : Prop :=
  let counts := if p.supply.low then decide (p.params.supplyLowOff ≤ mv) else decide (mv < p.params.supplyLowOn)
  (counts = false → q.low = p.supply.low ∧ q.lowRun = 0) ∧
    (counts = true → p.supply.lowRun < 7 → q.low = p.supply.low ∧ q.lowRun = p.supply.lowRun + 1) ∧
    (counts = true → 7 ≤ p.supply.lowRun → q.low = !p.supply.low ∧ q.lowRun = 0)

/-- The eighth supply sample in a row below SUPPLY_LOW_ON asserts the low flag: SUPPLY is raised, every corner gains the reason
and one in CONTROL in ENGAGED enters PASSIVE. The eighth at or above SUPPLY_LOW_OFF clears it: with the high flag clear every
corner loses the reason and a PASSIVE one in ENGAGED with no other reason returns to CONTROL; with it set the corners stay. At
a period start both detectors step: the run of the low one counts or restarts, and the high one asserts above SUPPLY_HIGH_ON,
raising SUPPLY with HIGH and giving every corner the reason, and clears at or below SUPPLY_HIGH_OFF (R109 to R111, R122, R124;
the rows as that supply sample, log entry 3; HIGH after LOW where both assert, log entry 24). -/
def Obligations.SupplyFlags : Prop :=
  ∀ (mv : Nat) (s : State),
    (∃ t, exec (.pwmPeriodStart mv) s = .next t ∧ t.pending = s.pending ∧
      t.part.supply.high = highAfter s.part mv ∧ lowStepped s.part mv t.part.supply ∧
      (s.part.supply.high = false → s.part.params.supplyHighOn < mv →
        (∃ x ∈ t.part.events, x.event = .supply ∧ x.parameter = 1) ∧
        ∀ c, (t.part.corner c).reasons.supply = true ∧
          (s.part.control = .engaged → (s.part.corner c).state = .control → (t.part.corner c).state = .passive false)) ∧
      (s.part.supply.high = true → mv ≤ s.part.params.supplyHighOff → t.part.supply.low = false →
        ∀ c, (t.part.corner c).reasons.supply = false ∧
          (∀ x, s.part.control = .engaged → (s.part.corner c).state = .passive x →
            (t.part.corner c).reasons = ⟨false, false, false, false, false⟩ →
            (t.part.corner c).state = .control ∧ (t.part.corner c).reg.wanted = .tracking))) ∧
    (s.part.supply.low = false → mv < s.part.params.supplyLowOn → 7 ≤ s.part.supply.lowRun →
      ∃ t, exec (.supplyLowAssert mv) s = .next t ∧ t.pending = s.pending ∧
        t.part = { s.part with
          supply := ⟨true, 0, highAfter s.part mv⟩, corners := t.part.corners, events := t.part.events } ∧
        pendingEvent t.part .supply ∧
        ∀ c, (t.part.corner c).reasons = { (s.part.corner c).reasons with supply := true } ∧
          (s.part.control = .engaged → (s.part.corner c).state = .control → (t.part.corner c).state = .passive false)) ∧
    (s.part.supply.low = true → s.part.params.supplyLowOff ≤ mv → 7 ≤ s.part.supply.lowRun →
      ∃ t, exec (.supplyLowClear mv) s = .next t ∧ t.pending = s.pending ∧
        t.part = { s.part with
          supply := ⟨false, 0, highAfter s.part mv⟩, corners := t.part.corners, events := t.part.events } ∧
        (highAfter s.part mv = true → s.part.supply.high = true →
          t.part.corners = s.part.corners ∧ t.part.events = s.part.events) ∧
        (highAfter s.part mv = false → ∀ c,
          (t.part.corner c).reasons = { (s.part.corner c).reasons with supply := false } ∧
          (∀ x, s.part.control = .engaged → (s.part.corner c).state = .passive x →
            { (s.part.corner c).reasons with supply := false } = ⟨false, false, false, false, false⟩ →
            (t.part.corner c).state = .control ∧ (t.part.corner c).reg.wanted = .tracking)))

/-- The reply of a valve test, placed, and its corner OFF with the slot released (R129, R190). -/
def Sys2Proof.Claims.testOver (c : Corner) (outcome : Byte) (r : TestRecord) (h : HeldOrder) (p : Part) : Part :=
  placeReply ⟨h.src, p.address, 0x11, [h.tag, h.code, 0, 0, BitVec.ofNat 8 c.index, outcome] ++ u16 r.candidate ++
      u16 r.driven ++ u16 r.count ++ s16 (if r.count = 0 then 0 else divRound r.sum r.count) ++ s16 (r.least.getD 0) ++
      s16 (r.greatest.getD 0) ++ u16 r.finalDuty⟩
    { p with slot := none, corners := p.corners.set c (turnedOff (p.corner c)) }

/-- A valve test ends OPEN at a hand-off that meets the open condition, COMPLETE at the hand-off of its last period, TRIPPED at a
LATCH trip, and OFFSET at a failed calibration: the corner is OFF, the slot is released and the reply carries the outcome and
the record (R94, R95, R127 to R129; the row as that hand-off, trip or sample, log entry 3). -/
def Obligations.ValveTestEnds : Prop :=
  ∀ (c : Corner) (r : TestRecord) (h : HeldOrder) (s : State), s.part.slot = some h →
    (∀ im : Int, (s.part.corner c).state = .test .drive r → (s.part.corner c).reg.enabled = true →
      (s.part.corner c).reg.wanted = .tracking →
      (openPeriod s.part.params (s.part.corner c) im = true → s.part.params.satRun ≤ (s.part.corner c).diag.openRun + 1 →
        answers (.valveTestEnd c (.handoff im)) s
          (testOver c 1 { r with driven := r.driven + 1, finalDuty := (s.part.corner c).reg.duty } h
            { s.part with corners := s.part.corners.set c { s.part.corner c with
              diag := { (s.part.corner c).diag with openRun := 0, shortRun := 0, leakRun := 0 } } })) ∧
      (¬ (openPeriod s.part.params (s.part.corner c) im = true ∧
          s.part.params.satRun ≤ (s.part.corner c).diag.openRun + 1) → r.driven + 1 = r.duration → 2 ≤ r.duration →
        answers (.valveTestEnd c (.handoff im)) s
          (testOver c 0 { r with
              driven := r.driven + 1
              finalDuty := (s.part.corner c).reg.duty
              count := r.count + 1
              sum := r.sum + im
              least := some (match r.least with | none => im | some y => min y im)
              greatest := some (match r.greatest with | none => im | some y => max y im) } h
            { s.part with corners := s.part.corners.set c { s.part.corner c with
              diag := { (s.part.corner c).diag with
                openRun := if openPeriod s.part.params (s.part.corner c) im then (s.part.corner c).diag.openRun + 1 else 0
                shortRun := 0
                leakRun := 0 } } }))) ∧
    ((s.part.corner c).state = .test .drive r → (s.part.corner c).reg.enabled = true → s.part.pwm.tripLatch = true →
      answers (.valveTestEnd c .trip) s (testOver c 2 r h s.part)) ∧
    (∀ (raw : BitVec 12) (sum : Nat), (s.part.corner c).state = .test .cal r →
      (s.part.corner c).reg.calibration = some ⟨true, 63, sum⟩ →
      offsetOf (sum + raw.toNat) < 1648 ∨ 2448 < offsetOf (sum + raw.toNat) →
      answers (.valveTestEnd c (.calibration raw)) s (testOver c 3 { r with candidate := offsetOf (sum + raw.toNat) } h s.part))

/-- A disturbed word stands in its bank with its new value, its parity no longer matching; every other word and everything else
stays (R69). -/
def Obligations.WordUpset : Prop :=
  ∀ (c : Corner) (id : BankId) (word : Fin 144) (value : Word) (s : State),
    ∃ t, exec (.wordUpset c id word value) s = .next t ∧ t.pending = s.pending ∧
      t.part = { s.part with
        corners := s.part.corners.set c { s.part.corner c with
          banks := (s.part.corner c).banks.modBank id (fun b =>
            { b with words := ((t.part.corner c).banks.get id).words }) } } ∧
      memRead ((t.part.corner c).banks.get id).words word = ⟨value, false⟩ ∧
      ∀ n, n ≠ word.val → memRead ((t.part.corner c).banks.get id).words n = memRead ((s.part.corner c).banks.get id).words n

/-! ## Reports (chapter 11) -/

/-- A count compressed: the exponent is the smallest from 0 to 7 for which the floor of n / 4^e is at most 31, the mantissa that
floor; with no such exponent, 7 and 31 (R182). -/
def Obligations.CountsCompressed : Prop :=
  ∀ n : Nat,
    (n < 524288 → (compress n).1 ≤ 7 ∧ (compress n).2 = n / 4 ^ (compress n).1 ∧ n / 4 ^ (compress n).1 ≤ 31 ∧
      ∀ e, e < (compress n).1 → 31 < n / 4 ^ e) ∧
    (524288 ≤ n → (∀ e, e ≤ 7 → 31 < n / 4 ^ e) ∧ compress n = (7, 31)) ∧
    represented (compress n) ≤ n ∧ (n ≤ 31 → represented (compress n) = n) ∧
    (n < 524288 → n < represented (compress n) + 4 ^ (compress n).1)

/-! ## What every step keeps -/

/-- The map words keep their canonical form, the forwarding queues hold at most 16 frames and the reply places at most 4, the
pending event set stays in priority order with one entry a pair and counts from 1 to 255, and the present bands of each mode stay
an unbroken run with rising bounds (R43, R44, R58, R152, R154, R163, R177 to R179). The canonical form is the model's own. -/
def Obligations.StructuresKept : Prop :=
  ∀ s t : State, step s = .next t →
    (s.part.storeCanonical → t.part.storeCanonical) ∧ (s.part.queuesSound → t.part.queuesSound) ∧
      (eventsSound s.part.events → eventsSound t.part.events) ∧ (s.part.schedule.sound → t.part.schedule.sound)

/-- Every parameter stays in its range with the bounds between parameters, no setpoint exceeds CURRENT_LIMIT, and the accumulator
and duty of an enabled driver lie within DUTY_MIN and DUTY_MAX (R85, R87, R169 to R171). -/
def Obligations.DutiesKept : Prop :=
  ∀ s t : State, s.part.dutiesSound → step s = .next t → t.part.dutiesSound

/-- The valve driver is disabled in OFF, CALIBRATING, SUSPENDED, FAULT, PASSIVE with ramp complete and the CAL phase of a test,
and a driver not enabled has duty 0, setpoint 0 and a cleared loop (R81, R82, R93). -/
def Obligations.DriversKept : Prop :=
  ∀ s t : State, s.part.driversSound → step s = .next t → t.part.driversSound

/-- No corner regulates, retries or is passive outside ENGAGED and RELEASING, and in ENGAGED a corner in CONTROL, SUSPENDED or
recalibration carries no passive reason; the control state is STANDBY only of a loaded part and UNLOADED only of one that is not,
and the schedule is complete throughout ENGAGING and ENGAGED (R43, R113, R120, R122). -/
def Obligations.SupervisionKept : Prop :=
  ∀ s t : State, step s = .next t →
    (s.part.supervised → t.part.supervised) ∧ (s.part.loadSound → t.part.loadSound)

/-- Speed, offsets, motion records and the substitute run stay within their ranges (R2, R9, R17, R27 to R32). -/
def Obligations.MotionKept : Prop :=
  ∀ s t : State, s.part.motionSound → step s = .next t → t.part.motionSound

/-- Every invariant of the statements above holds of the part right after power-on reset. -/
def Obligations.ResetSound : Prop :=
  spaced State.reset.part ∧ State.reset.part.storeCanonical ∧ State.reset.part.queuesSound ∧ eventsSound State.reset.part.events ∧
    State.reset.part.dutiesSound ∧ State.reset.part.driversSound ∧ State.reset.part.supervised ∧ State.reset.part.motionSound ∧
    State.reset.part.loadSound ∧ State.reset.part.schedule.sound ∧ State.reset.pending = []
end

