-- ==== Sys2Proof/Laws/State.lean ====
section
/-! SUPPORT. Laws/State.lean: one lemma for each field of the part and each update of Machine/Ops.lean, so that no proof unfolds
a record update; and what a command that acts on the part alone answers. -/

namespace Sys2Proof.Machine

open Sys2Proof

/-! ## Outcomes -/

/-- A command that acts on the part answers a next state with the queue as it stood. -/
theorem State.onPart_eq (f : Part → Part) (s : State) : s.onPart f = .next ⟨f s.part, s.pending⟩ := rfl

/-- An event whose condition holds has its effect. -/
theorem onlyWhen_pos {cond : Part → Bool} {p : Part} (h : cond p = true) (f : Part → Part) : onlyWhen cond f p = f p := by
  simp [onlyWhen, h]

/-- An event whose condition fails leaves the part as it is. -/
theorem onlyWhen_neg {cond : Part → Bool} {p : Part} (h : cond p = false) (f : Part → Part) : onlyWhen cond f p = p := by
  simp [onlyWhen, h]

/-- What holds before, and is kept by the effect, holds after an event that comes about only under its condition. -/
theorem onlyWhen_keeps {P : Part → Prop} {cond : Part → Bool} {f : Part → Part} {p : Part} (h : P p)
    (hf : cond p = true → P p → P (f p)) : P (onlyWhen cond f p) := by
  unfold onlyWhen
  split
  · exact hf (by assumption) h
  · exact h

/-! ## Part.modCorner -/

@[simp] theorem Part.modCorner_now (c : Corner) (f : CornerPart → CornerPart) (p : Part) : (p.modCorner c f).now = p.now := rfl
@[simp] theorem Part.modCorner_straps (c : Corner) (f : CornerPart → CornerPart) (p : Part) : (p.modCorner c f).straps = p.straps := rfl
@[simp] theorem Part.modCorner_tracker (c : Corner) (f : CornerPart → CornerPart) (p : Part) : (p.modCorner c f).tracker = p.tracker := rfl
@[simp] theorem Part.modCorner_context (c : Corner) (f : CornerPart → CornerPart) (p : Part) : (p.modCorner c f).context = p.context := rfl
@[simp] theorem Part.modCorner_corners (c : Corner) (f : CornerPart → CornerPart) (p : Part) : (p.modCorner c f).corners = p.corners.set c (f (p.corner c)) := rfl
@[simp] theorem Part.modCorner_control (c : Corner) (f : CornerPart → CornerPart) (p : Part) : (p.modCorner c f).control = p.control := rfl
@[simp] theorem Part.modCorner_schedule (c : Corner) (f : CornerPart → CornerPart) (p : Part) : (p.modCorner c f).schedule = p.schedule := rfl
@[simp] theorem Part.modCorner_selection (c : Corner) (f : CornerPart → CornerPart) (p : Part) : (p.modCorner c f).selection = p.selection := rfl
@[simp] theorem Part.modCorner_store (c : Corner) (f : CornerPart → CornerPart) (p : Part) : (p.modCorner c f).store = p.store := rfl
@[simp] theorem Part.modCorner_pwm (c : Corner) (f : CornerPart → CornerPart) (p : Part) : (p.modCorner c f).pwm = p.pwm := rfl
@[simp] theorem Part.modCorner_supply (c : Corner) (f : CornerPart → CornerPart) (p : Part) : (p.modCorner c f).supply = p.supply := rfl
@[simp] theorem Part.modCorner_portS (c : Corner) (f : CornerPart → CornerPart) (p : Part) : (p.modCorner c f).portS = p.portS := rfl
@[simp] theorem Part.modCorner_portW (c : Corner) (f : CornerPart → CornerPart) (p : Part) : (p.modCorner c f).portW = p.portW := rfl
@[simp] theorem Part.modCorner_intervalAt (c : Corner) (f : CornerPart → CornerPart) (p : Part) : (p.modCorner c f).intervalAt = p.intervalAt := rfl
@[simp] theorem Part.modCorner_link (c : Corner) (f : CornerPart → CornerPart) (p : Part) : (p.modCorner c f).link = p.link := rfl
@[simp] theorem Part.modCorner_slot (c : Corner) (f : CornerPart → CornerPart) (p : Part) : (p.modCorner c f).slot = p.slot := rfl
@[simp] theorem Part.modCorner_params (c : Corner) (f : CornerPart → CornerPart) (p : Part) : (p.modCorner c f).params = p.params := rfl
@[simp] theorem Part.modCorner_events (c : Corner) (f : CornerPart → CornerPart) (p : Part) : (p.modCorner c f).events = p.events := rfl
@[simp] theorem Part.modCorner_globals (c : Corner) (f : CornerPart → CornerPart) (p : Part) : (p.modCorner c f).globals = p.globals := rfl
@[simp] theorem Part.modCorner_pins (c : Corner) (f : CornerPart → CornerPart) (p : Part) : (p.modCorner c f).pins = p.pins := rfl
@[simp] theorem Part.modCorner_port (c : Corner) (f : CornerPart → CornerPart) (p : Part) (r : Port) : (p.modCorner c f).port r = p.port r := by cases r <;> rfl

/-! ## Part.setNow -/

@[simp] theorem Part.setNow_now (t : Nat) (p : Part) : (p.setNow t).now = t := rfl
@[simp] theorem Part.setNow_straps (t : Nat) (p : Part) : (p.setNow t).straps = p.straps := rfl
@[simp] theorem Part.setNow_tracker (t : Nat) (p : Part) : (p.setNow t).tracker = p.tracker := rfl
@[simp] theorem Part.setNow_context (t : Nat) (p : Part) : (p.setNow t).context = p.context := rfl
@[simp] theorem Part.setNow_corners (t : Nat) (p : Part) : (p.setNow t).corners = p.corners := rfl
@[simp] theorem Part.setNow_control (t : Nat) (p : Part) : (p.setNow t).control = p.control := rfl
@[simp] theorem Part.setNow_schedule (t : Nat) (p : Part) : (p.setNow t).schedule = p.schedule := rfl
@[simp] theorem Part.setNow_selection (t : Nat) (p : Part) : (p.setNow t).selection = p.selection := rfl
@[simp] theorem Part.setNow_store (t : Nat) (p : Part) : (p.setNow t).store = p.store := rfl
@[simp] theorem Part.setNow_pwm (t : Nat) (p : Part) : (p.setNow t).pwm = p.pwm := rfl
@[simp] theorem Part.setNow_supply (t : Nat) (p : Part) : (p.setNow t).supply = p.supply := rfl
@[simp] theorem Part.setNow_portS (t : Nat) (p : Part) : (p.setNow t).portS = p.portS := rfl
@[simp] theorem Part.setNow_portW (t : Nat) (p : Part) : (p.setNow t).portW = p.portW := rfl
@[simp] theorem Part.setNow_intervalAt (t : Nat) (p : Part) : (p.setNow t).intervalAt = p.intervalAt := rfl
@[simp] theorem Part.setNow_link (t : Nat) (p : Part) : (p.setNow t).link = p.link := rfl
@[simp] theorem Part.setNow_slot (t : Nat) (p : Part) : (p.setNow t).slot = p.slot := rfl
@[simp] theorem Part.setNow_params (t : Nat) (p : Part) : (p.setNow t).params = p.params := rfl
@[simp] theorem Part.setNow_events (t : Nat) (p : Part) : (p.setNow t).events = p.events := rfl
@[simp] theorem Part.setNow_globals (t : Nat) (p : Part) : (p.setNow t).globals = p.globals := rfl
@[simp] theorem Part.setNow_pins (t : Nat) (p : Part) : (p.setNow t).pins = p.pins := rfl
@[simp] theorem Part.setNow_corner (t : Nat) (p : Part) (d : Corner) : (p.setNow t).corner d = p.corner d := rfl
@[simp] theorem Part.setNow_port (t : Nat) (p : Part) (r : Port) : (p.setNow t).port r = p.port r := by cases r <;> rfl

/-! ## Part.reach -/

@[simp] theorem Part.reach_now (t : Nat) (p : Part) : (p.reach t).now = max p.now t := rfl
@[simp] theorem Part.reach_straps (t : Nat) (p : Part) : (p.reach t).straps = p.straps := rfl
@[simp] theorem Part.reach_tracker (t : Nat) (p : Part) : (p.reach t).tracker = p.tracker := rfl
@[simp] theorem Part.reach_context (t : Nat) (p : Part) : (p.reach t).context = p.context := rfl
@[simp] theorem Part.reach_corners (t : Nat) (p : Part) : (p.reach t).corners = p.corners := rfl
@[simp] theorem Part.reach_control (t : Nat) (p : Part) : (p.reach t).control = p.control := rfl
@[simp] theorem Part.reach_schedule (t : Nat) (p : Part) : (p.reach t).schedule = p.schedule := rfl
@[simp] theorem Part.reach_selection (t : Nat) (p : Part) : (p.reach t).selection = p.selection := rfl
@[simp] theorem Part.reach_store (t : Nat) (p : Part) : (p.reach t).store = p.store := rfl
@[simp] theorem Part.reach_pwm (t : Nat) (p : Part) : (p.reach t).pwm = p.pwm := rfl
@[simp] theorem Part.reach_supply (t : Nat) (p : Part) : (p.reach t).supply = p.supply := rfl
@[simp] theorem Part.reach_portS (t : Nat) (p : Part) : (p.reach t).portS = p.portS := rfl
@[simp] theorem Part.reach_portW (t : Nat) (p : Part) : (p.reach t).portW = p.portW := rfl
@[simp] theorem Part.reach_intervalAt (t : Nat) (p : Part) : (p.reach t).intervalAt = p.intervalAt := rfl
@[simp] theorem Part.reach_link (t : Nat) (p : Part) : (p.reach t).link = p.link := rfl
@[simp] theorem Part.reach_slot (t : Nat) (p : Part) : (p.reach t).slot = p.slot := rfl
@[simp] theorem Part.reach_params (t : Nat) (p : Part) : (p.reach t).params = p.params := rfl
@[simp] theorem Part.reach_events (t : Nat) (p : Part) : (p.reach t).events = p.events := rfl
@[simp] theorem Part.reach_globals (t : Nat) (p : Part) : (p.reach t).globals = p.globals := rfl
@[simp] theorem Part.reach_pins (t : Nat) (p : Part) : (p.reach t).pins = p.pins := rfl
@[simp] theorem Part.reach_corner (t : Nat) (p : Part) (d : Corner) : (p.reach t).corner d = p.corner d := rfl
@[simp] theorem Part.reach_port (t : Nat) (p : Part) (r : Port) : (p.reach t).port r = p.port r := by cases r <;> rfl

/-! ## Part.modTracker -/

@[simp] theorem Part.modTracker_now (f : Tracker → Tracker) (p : Part) : (p.modTracker f).now = p.now := rfl
@[simp] theorem Part.modTracker_straps (f : Tracker → Tracker) (p : Part) : (p.modTracker f).straps = p.straps := rfl
@[simp] theorem Part.modTracker_tracker (f : Tracker → Tracker) (p : Part) : (p.modTracker f).tracker = f p.tracker := rfl
@[simp] theorem Part.modTracker_context (f : Tracker → Tracker) (p : Part) : (p.modTracker f).context = p.context := rfl
@[simp] theorem Part.modTracker_corners (f : Tracker → Tracker) (p : Part) : (p.modTracker f).corners = p.corners := rfl
@[simp] theorem Part.modTracker_control (f : Tracker → Tracker) (p : Part) : (p.modTracker f).control = p.control := rfl
@[simp] theorem Part.modTracker_schedule (f : Tracker → Tracker) (p : Part) : (p.modTracker f).schedule = p.schedule := rfl
@[simp] theorem Part.modTracker_selection (f : Tracker → Tracker) (p : Part) : (p.modTracker f).selection = p.selection := rfl
@[simp] theorem Part.modTracker_store (f : Tracker → Tracker) (p : Part) : (p.modTracker f).store = p.store := rfl
@[simp] theorem Part.modTracker_pwm (f : Tracker → Tracker) (p : Part) : (p.modTracker f).pwm = p.pwm := rfl
@[simp] theorem Part.modTracker_supply (f : Tracker → Tracker) (p : Part) : (p.modTracker f).supply = p.supply := rfl
@[simp] theorem Part.modTracker_portS (f : Tracker → Tracker) (p : Part) : (p.modTracker f).portS = p.portS := rfl
@[simp] theorem Part.modTracker_portW (f : Tracker → Tracker) (p : Part) : (p.modTracker f).portW = p.portW := rfl
@[simp] theorem Part.modTracker_intervalAt (f : Tracker → Tracker) (p : Part) : (p.modTracker f).intervalAt = p.intervalAt := rfl
@[simp] theorem Part.modTracker_link (f : Tracker → Tracker) (p : Part) : (p.modTracker f).link = p.link := rfl
@[simp] theorem Part.modTracker_slot (f : Tracker → Tracker) (p : Part) : (p.modTracker f).slot = p.slot := rfl
@[simp] theorem Part.modTracker_params (f : Tracker → Tracker) (p : Part) : (p.modTracker f).params = p.params := rfl
@[simp] theorem Part.modTracker_events (f : Tracker → Tracker) (p : Part) : (p.modTracker f).events = p.events := rfl
@[simp] theorem Part.modTracker_globals (f : Tracker → Tracker) (p : Part) : (p.modTracker f).globals = p.globals := rfl
@[simp] theorem Part.modTracker_pins (f : Tracker → Tracker) (p : Part) : (p.modTracker f).pins = p.pins := rfl
@[simp] theorem Part.modTracker_corner (f : Tracker → Tracker) (p : Part) (d : Corner) : (p.modTracker f).corner d = p.corner d := rfl
@[simp] theorem Part.modTracker_port (f : Tracker → Tracker) (p : Part) (r : Port) : (p.modTracker f).port r = p.port r := by cases r <;> rfl

/-! ## Part.modContext -/

@[simp] theorem Part.modContext_now (f : Context → Context) (p : Part) : (p.modContext f).now = p.now := rfl
@[simp] theorem Part.modContext_straps (f : Context → Context) (p : Part) : (p.modContext f).straps = p.straps := rfl
@[simp] theorem Part.modContext_tracker (f : Context → Context) (p : Part) : (p.modContext f).tracker = p.tracker := rfl
@[simp] theorem Part.modContext_context (f : Context → Context) (p : Part) : (p.modContext f).context = f p.context := rfl
@[simp] theorem Part.modContext_corners (f : Context → Context) (p : Part) : (p.modContext f).corners = p.corners := rfl
@[simp] theorem Part.modContext_control (f : Context → Context) (p : Part) : (p.modContext f).control = p.control := rfl
@[simp] theorem Part.modContext_schedule (f : Context → Context) (p : Part) : (p.modContext f).schedule = p.schedule := rfl
@[simp] theorem Part.modContext_selection (f : Context → Context) (p : Part) : (p.modContext f).selection = p.selection := rfl
@[simp] theorem Part.modContext_store (f : Context → Context) (p : Part) : (p.modContext f).store = p.store := rfl
@[simp] theorem Part.modContext_pwm (f : Context → Context) (p : Part) : (p.modContext f).pwm = p.pwm := rfl
@[simp] theorem Part.modContext_supply (f : Context → Context) (p : Part) : (p.modContext f).supply = p.supply := rfl
@[simp] theorem Part.modContext_portS (f : Context → Context) (p : Part) : (p.modContext f).portS = p.portS := rfl
@[simp] theorem Part.modContext_portW (f : Context → Context) (p : Part) : (p.modContext f).portW = p.portW := rfl
@[simp] theorem Part.modContext_intervalAt (f : Context → Context) (p : Part) : (p.modContext f).intervalAt = p.intervalAt := rfl
@[simp] theorem Part.modContext_link (f : Context → Context) (p : Part) : (p.modContext f).link = p.link := rfl
@[simp] theorem Part.modContext_slot (f : Context → Context) (p : Part) : (p.modContext f).slot = p.slot := rfl
@[simp] theorem Part.modContext_params (f : Context → Context) (p : Part) : (p.modContext f).params = p.params := rfl
@[simp] theorem Part.modContext_events (f : Context → Context) (p : Part) : (p.modContext f).events = p.events := rfl
@[simp] theorem Part.modContext_globals (f : Context → Context) (p : Part) : (p.modContext f).globals = p.globals := rfl
@[simp] theorem Part.modContext_pins (f : Context → Context) (p : Part) : (p.modContext f).pins = p.pins := rfl
@[simp] theorem Part.modContext_corner (f : Context → Context) (p : Part) (d : Corner) : (p.modContext f).corner d = p.corner d := rfl
@[simp] theorem Part.modContext_port (f : Context → Context) (p : Part) (r : Port) : (p.modContext f).port r = p.port r := by cases r <;> rfl

/-! ## Part.setControl -/

@[simp] theorem Part.setControl_now (x : ControlState) (p : Part) : (p.setControl x).now = p.now := rfl
@[simp] theorem Part.setControl_straps (x : ControlState) (p : Part) : (p.setControl x).straps = p.straps := rfl
@[simp] theorem Part.setControl_tracker (x : ControlState) (p : Part) : (p.setControl x).tracker = p.tracker := rfl
@[simp] theorem Part.setControl_context (x : ControlState) (p : Part) : (p.setControl x).context = p.context := rfl
@[simp] theorem Part.setControl_corners (x : ControlState) (p : Part) : (p.setControl x).corners = p.corners := rfl
@[simp] theorem Part.setControl_control (x : ControlState) (p : Part) : (p.setControl x).control = x := rfl
@[simp] theorem Part.setControl_schedule (x : ControlState) (p : Part) : (p.setControl x).schedule = p.schedule := rfl
@[simp] theorem Part.setControl_selection (x : ControlState) (p : Part) : (p.setControl x).selection = p.selection := rfl
@[simp] theorem Part.setControl_store (x : ControlState) (p : Part) : (p.setControl x).store = p.store := rfl
@[simp] theorem Part.setControl_pwm (x : ControlState) (p : Part) : (p.setControl x).pwm = p.pwm := rfl
@[simp] theorem Part.setControl_supply (x : ControlState) (p : Part) : (p.setControl x).supply = p.supply := rfl
@[simp] theorem Part.setControl_portS (x : ControlState) (p : Part) : (p.setControl x).portS = p.portS := rfl
@[simp] theorem Part.setControl_portW (x : ControlState) (p : Part) : (p.setControl x).portW = p.portW := rfl
@[simp] theorem Part.setControl_intervalAt (x : ControlState) (p : Part) : (p.setControl x).intervalAt = p.intervalAt := rfl
@[simp] theorem Part.setControl_link (x : ControlState) (p : Part) : (p.setControl x).link = p.link := rfl
@[simp] theorem Part.setControl_slot (x : ControlState) (p : Part) : (p.setControl x).slot = p.slot := rfl
@[simp] theorem Part.setControl_params (x : ControlState) (p : Part) : (p.setControl x).params = p.params := rfl
@[simp] theorem Part.setControl_events (x : ControlState) (p : Part) : (p.setControl x).events = p.events := rfl
@[simp] theorem Part.setControl_globals (x : ControlState) (p : Part) : (p.setControl x).globals = p.globals := rfl
@[simp] theorem Part.setControl_pins (x : ControlState) (p : Part) : (p.setControl x).pins = p.pins := rfl
@[simp] theorem Part.setControl_corner (x : ControlState) (p : Part) (d : Corner) : (p.setControl x).corner d = p.corner d := rfl
@[simp] theorem Part.setControl_port (x : ControlState) (p : Part) (r : Port) : (p.setControl x).port r = p.port r := by cases r <;> rfl

/-! ## Part.setSchedule -/

@[simp] theorem Part.setSchedule_now (x : Schedule) (p : Part) : (p.setSchedule x).now = p.now := rfl
@[simp] theorem Part.setSchedule_straps (x : Schedule) (p : Part) : (p.setSchedule x).straps = p.straps := rfl
@[simp] theorem Part.setSchedule_tracker (x : Schedule) (p : Part) : (p.setSchedule x).tracker = p.tracker := rfl
@[simp] theorem Part.setSchedule_context (x : Schedule) (p : Part) : (p.setSchedule x).context = p.context := rfl
@[simp] theorem Part.setSchedule_corners (x : Schedule) (p : Part) : (p.setSchedule x).corners = p.corners := rfl
@[simp] theorem Part.setSchedule_control (x : Schedule) (p : Part) : (p.setSchedule x).control = p.control := rfl
@[simp] theorem Part.setSchedule_schedule (x : Schedule) (p : Part) : (p.setSchedule x).schedule = x := rfl
@[simp] theorem Part.setSchedule_selection (x : Schedule) (p : Part) : (p.setSchedule x).selection = p.selection := rfl
@[simp] theorem Part.setSchedule_store (x : Schedule) (p : Part) : (p.setSchedule x).store = p.store := rfl
@[simp] theorem Part.setSchedule_pwm (x : Schedule) (p : Part) : (p.setSchedule x).pwm = p.pwm := rfl
@[simp] theorem Part.setSchedule_supply (x : Schedule) (p : Part) : (p.setSchedule x).supply = p.supply := rfl
@[simp] theorem Part.setSchedule_portS (x : Schedule) (p : Part) : (p.setSchedule x).portS = p.portS := rfl
@[simp] theorem Part.setSchedule_portW (x : Schedule) (p : Part) : (p.setSchedule x).portW = p.portW := rfl
@[simp] theorem Part.setSchedule_intervalAt (x : Schedule) (p : Part) : (p.setSchedule x).intervalAt = p.intervalAt := rfl
@[simp] theorem Part.setSchedule_link (x : Schedule) (p : Part) : (p.setSchedule x).link = p.link := rfl
@[simp] theorem Part.setSchedule_slot (x : Schedule) (p : Part) : (p.setSchedule x).slot = p.slot := rfl
@[simp] theorem Part.setSchedule_params (x : Schedule) (p : Part) : (p.setSchedule x).params = p.params := rfl
@[simp] theorem Part.setSchedule_events (x : Schedule) (p : Part) : (p.setSchedule x).events = p.events := rfl
@[simp] theorem Part.setSchedule_globals (x : Schedule) (p : Part) : (p.setSchedule x).globals = p.globals := rfl
@[simp] theorem Part.setSchedule_pins (x : Schedule) (p : Part) : (p.setSchedule x).pins = p.pins := rfl
@[simp] theorem Part.setSchedule_corner (x : Schedule) (p : Part) (d : Corner) : (p.setSchedule x).corner d = p.corner d := rfl
@[simp] theorem Part.setSchedule_port (x : Schedule) (p : Part) (r : Port) : (p.setSchedule x).port r = p.port r := by cases r <;> rfl

/-! ## Part.setSelection -/

@[simp] theorem Part.setSelection_now (x : Option Selection) (p : Part) : (p.setSelection x).now = p.now := rfl
@[simp] theorem Part.setSelection_straps (x : Option Selection) (p : Part) : (p.setSelection x).straps = p.straps := rfl
@[simp] theorem Part.setSelection_tracker (x : Option Selection) (p : Part) : (p.setSelection x).tracker = p.tracker := rfl
@[simp] theorem Part.setSelection_context (x : Option Selection) (p : Part) : (p.setSelection x).context = p.context := rfl
@[simp] theorem Part.setSelection_corners (x : Option Selection) (p : Part) : (p.setSelection x).corners = p.corners := rfl
@[simp] theorem Part.setSelection_control (x : Option Selection) (p : Part) : (p.setSelection x).control = p.control := rfl
@[simp] theorem Part.setSelection_schedule (x : Option Selection) (p : Part) : (p.setSelection x).schedule = p.schedule := rfl
@[simp] theorem Part.setSelection_selection (x : Option Selection) (p : Part) : (p.setSelection x).selection = x := rfl
@[simp] theorem Part.setSelection_store (x : Option Selection) (p : Part) : (p.setSelection x).store = p.store := rfl
@[simp] theorem Part.setSelection_pwm (x : Option Selection) (p : Part) : (p.setSelection x).pwm = p.pwm := rfl
@[simp] theorem Part.setSelection_supply (x : Option Selection) (p : Part) : (p.setSelection x).supply = p.supply := rfl
@[simp] theorem Part.setSelection_portS (x : Option Selection) (p : Part) : (p.setSelection x).portS = p.portS := rfl
@[simp] theorem Part.setSelection_portW (x : Option Selection) (p : Part) : (p.setSelection x).portW = p.portW := rfl
@[simp] theorem Part.setSelection_intervalAt (x : Option Selection) (p : Part) : (p.setSelection x).intervalAt = p.intervalAt := rfl
@[simp] theorem Part.setSelection_link (x : Option Selection) (p : Part) : (p.setSelection x).link = p.link := rfl
@[simp] theorem Part.setSelection_slot (x : Option Selection) (p : Part) : (p.setSelection x).slot = p.slot := rfl
@[simp] theorem Part.setSelection_params (x : Option Selection) (p : Part) : (p.setSelection x).params = p.params := rfl
@[simp] theorem Part.setSelection_events (x : Option Selection) (p : Part) : (p.setSelection x).events = p.events := rfl
@[simp] theorem Part.setSelection_globals (x : Option Selection) (p : Part) : (p.setSelection x).globals = p.globals := rfl
@[simp] theorem Part.setSelection_pins (x : Option Selection) (p : Part) : (p.setSelection x).pins = p.pins := rfl
@[simp] theorem Part.setSelection_corner (x : Option Selection) (p : Part) (d : Corner) : (p.setSelection x).corner d = p.corner d := rfl
@[simp] theorem Part.setSelection_port (x : Option Selection) (p : Part) (r : Port) : (p.setSelection x).port r = p.port r := by cases r <;> rfl

/-! ## Part.modStore -/

@[simp] theorem Part.modStore_now (f : Store → Store) (p : Part) : (p.modStore f).now = p.now := rfl
@[simp] theorem Part.modStore_straps (f : Store → Store) (p : Part) : (p.modStore f).straps = p.straps := rfl
@[simp] theorem Part.modStore_tracker (f : Store → Store) (p : Part) : (p.modStore f).tracker = p.tracker := rfl
@[simp] theorem Part.modStore_context (f : Store → Store) (p : Part) : (p.modStore f).context = p.context := rfl
@[simp] theorem Part.modStore_corners (f : Store → Store) (p : Part) : (p.modStore f).corners = p.corners := rfl
@[simp] theorem Part.modStore_control (f : Store → Store) (p : Part) : (p.modStore f).control = p.control := rfl
@[simp] theorem Part.modStore_schedule (f : Store → Store) (p : Part) : (p.modStore f).schedule = p.schedule := rfl
@[simp] theorem Part.modStore_selection (f : Store → Store) (p : Part) : (p.modStore f).selection = p.selection := rfl
@[simp] theorem Part.modStore_store (f : Store → Store) (p : Part) : (p.modStore f).store = f p.store := rfl
@[simp] theorem Part.modStore_pwm (f : Store → Store) (p : Part) : (p.modStore f).pwm = p.pwm := rfl
@[simp] theorem Part.modStore_supply (f : Store → Store) (p : Part) : (p.modStore f).supply = p.supply := rfl
@[simp] theorem Part.modStore_portS (f : Store → Store) (p : Part) : (p.modStore f).portS = p.portS := rfl
@[simp] theorem Part.modStore_portW (f : Store → Store) (p : Part) : (p.modStore f).portW = p.portW := rfl
@[simp] theorem Part.modStore_intervalAt (f : Store → Store) (p : Part) : (p.modStore f).intervalAt = p.intervalAt := rfl
@[simp] theorem Part.modStore_link (f : Store → Store) (p : Part) : (p.modStore f).link = p.link := rfl
@[simp] theorem Part.modStore_slot (f : Store → Store) (p : Part) : (p.modStore f).slot = p.slot := rfl
@[simp] theorem Part.modStore_params (f : Store → Store) (p : Part) : (p.modStore f).params = p.params := rfl
@[simp] theorem Part.modStore_events (f : Store → Store) (p : Part) : (p.modStore f).events = p.events := rfl
@[simp] theorem Part.modStore_globals (f : Store → Store) (p : Part) : (p.modStore f).globals = p.globals := rfl
@[simp] theorem Part.modStore_pins (f : Store → Store) (p : Part) : (p.modStore f).pins = p.pins := rfl
@[simp] theorem Part.modStore_corner (f : Store → Store) (p : Part) (d : Corner) : (p.modStore f).corner d = p.corner d := rfl
@[simp] theorem Part.modStore_port (f : Store → Store) (p : Part) (r : Port) : (p.modStore f).port r = p.port r := by cases r <;> rfl

/-! ## Part.modPwm -/

@[simp] theorem Part.modPwm_now (f : Pwm → Pwm) (p : Part) : (p.modPwm f).now = p.now := rfl
@[simp] theorem Part.modPwm_straps (f : Pwm → Pwm) (p : Part) : (p.modPwm f).straps = p.straps := rfl
@[simp] theorem Part.modPwm_tracker (f : Pwm → Pwm) (p : Part) : (p.modPwm f).tracker = p.tracker := rfl
@[simp] theorem Part.modPwm_context (f : Pwm → Pwm) (p : Part) : (p.modPwm f).context = p.context := rfl
@[simp] theorem Part.modPwm_corners (f : Pwm → Pwm) (p : Part) : (p.modPwm f).corners = p.corners := rfl
@[simp] theorem Part.modPwm_control (f : Pwm → Pwm) (p : Part) : (p.modPwm f).control = p.control := rfl
@[simp] theorem Part.modPwm_schedule (f : Pwm → Pwm) (p : Part) : (p.modPwm f).schedule = p.schedule := rfl
@[simp] theorem Part.modPwm_selection (f : Pwm → Pwm) (p : Part) : (p.modPwm f).selection = p.selection := rfl
@[simp] theorem Part.modPwm_store (f : Pwm → Pwm) (p : Part) : (p.modPwm f).store = p.store := rfl
@[simp] theorem Part.modPwm_pwm (f : Pwm → Pwm) (p : Part) : (p.modPwm f).pwm = f p.pwm := rfl
@[simp] theorem Part.modPwm_supply (f : Pwm → Pwm) (p : Part) : (p.modPwm f).supply = p.supply := rfl
@[simp] theorem Part.modPwm_portS (f : Pwm → Pwm) (p : Part) : (p.modPwm f).portS = p.portS := rfl
@[simp] theorem Part.modPwm_portW (f : Pwm → Pwm) (p : Part) : (p.modPwm f).portW = p.portW := rfl
@[simp] theorem Part.modPwm_intervalAt (f : Pwm → Pwm) (p : Part) : (p.modPwm f).intervalAt = p.intervalAt := rfl
@[simp] theorem Part.modPwm_link (f : Pwm → Pwm) (p : Part) : (p.modPwm f).link = p.link := rfl
@[simp] theorem Part.modPwm_slot (f : Pwm → Pwm) (p : Part) : (p.modPwm f).slot = p.slot := rfl
@[simp] theorem Part.modPwm_params (f : Pwm → Pwm) (p : Part) : (p.modPwm f).params = p.params := rfl
@[simp] theorem Part.modPwm_events (f : Pwm → Pwm) (p : Part) : (p.modPwm f).events = p.events := rfl
@[simp] theorem Part.modPwm_globals (f : Pwm → Pwm) (p : Part) : (p.modPwm f).globals = p.globals := rfl
@[simp] theorem Part.modPwm_pins (f : Pwm → Pwm) (p : Part) : (p.modPwm f).pins = p.pins := rfl
@[simp] theorem Part.modPwm_corner (f : Pwm → Pwm) (p : Part) (d : Corner) : (p.modPwm f).corner d = p.corner d := rfl
@[simp] theorem Part.modPwm_port (f : Pwm → Pwm) (p : Part) (r : Port) : (p.modPwm f).port r = p.port r := by cases r <;> rfl

/-! ## Part.setSupply -/

@[simp] theorem Part.setSupply_now (x : Supply) (p : Part) : (p.setSupply x).now = p.now := rfl
@[simp] theorem Part.setSupply_straps (x : Supply) (p : Part) : (p.setSupply x).straps = p.straps := rfl
@[simp] theorem Part.setSupply_tracker (x : Supply) (p : Part) : (p.setSupply x).tracker = p.tracker := rfl
@[simp] theorem Part.setSupply_context (x : Supply) (p : Part) : (p.setSupply x).context = p.context := rfl
@[simp] theorem Part.setSupply_corners (x : Supply) (p : Part) : (p.setSupply x).corners = p.corners := rfl
@[simp] theorem Part.setSupply_control (x : Supply) (p : Part) : (p.setSupply x).control = p.control := rfl
@[simp] theorem Part.setSupply_schedule (x : Supply) (p : Part) : (p.setSupply x).schedule = p.schedule := rfl
@[simp] theorem Part.setSupply_selection (x : Supply) (p : Part) : (p.setSupply x).selection = p.selection := rfl
@[simp] theorem Part.setSupply_store (x : Supply) (p : Part) : (p.setSupply x).store = p.store := rfl
@[simp] theorem Part.setSupply_pwm (x : Supply) (p : Part) : (p.setSupply x).pwm = p.pwm := rfl
@[simp] theorem Part.setSupply_supply (x : Supply) (p : Part) : (p.setSupply x).supply = x := rfl
@[simp] theorem Part.setSupply_portS (x : Supply) (p : Part) : (p.setSupply x).portS = p.portS := rfl
@[simp] theorem Part.setSupply_portW (x : Supply) (p : Part) : (p.setSupply x).portW = p.portW := rfl
@[simp] theorem Part.setSupply_intervalAt (x : Supply) (p : Part) : (p.setSupply x).intervalAt = p.intervalAt := rfl
@[simp] theorem Part.setSupply_link (x : Supply) (p : Part) : (p.setSupply x).link = p.link := rfl
@[simp] theorem Part.setSupply_slot (x : Supply) (p : Part) : (p.setSupply x).slot = p.slot := rfl
@[simp] theorem Part.setSupply_params (x : Supply) (p : Part) : (p.setSupply x).params = p.params := rfl
@[simp] theorem Part.setSupply_events (x : Supply) (p : Part) : (p.setSupply x).events = p.events := rfl
@[simp] theorem Part.setSupply_globals (x : Supply) (p : Part) : (p.setSupply x).globals = p.globals := rfl
@[simp] theorem Part.setSupply_pins (x : Supply) (p : Part) : (p.setSupply x).pins = p.pins := rfl
@[simp] theorem Part.setSupply_corner (x : Supply) (p : Part) (d : Corner) : (p.setSupply x).corner d = p.corner d := rfl
@[simp] theorem Part.setSupply_port (x : Supply) (p : Part) (r : Port) : (p.setSupply x).port r = p.port r := by cases r <;> rfl

/-! ## Part.setIntervalAt -/

@[simp] theorem Part.setIntervalAt_now (t : Nat) (p : Part) : (p.setIntervalAt t).now = p.now := rfl
@[simp] theorem Part.setIntervalAt_straps (t : Nat) (p : Part) : (p.setIntervalAt t).straps = p.straps := rfl
@[simp] theorem Part.setIntervalAt_tracker (t : Nat) (p : Part) : (p.setIntervalAt t).tracker = p.tracker := rfl
@[simp] theorem Part.setIntervalAt_context (t : Nat) (p : Part) : (p.setIntervalAt t).context = p.context := rfl
@[simp] theorem Part.setIntervalAt_corners (t : Nat) (p : Part) : (p.setIntervalAt t).corners = p.corners := rfl
@[simp] theorem Part.setIntervalAt_control (t : Nat) (p : Part) : (p.setIntervalAt t).control = p.control := rfl
@[simp] theorem Part.setIntervalAt_schedule (t : Nat) (p : Part) : (p.setIntervalAt t).schedule = p.schedule := rfl
@[simp] theorem Part.setIntervalAt_selection (t : Nat) (p : Part) : (p.setIntervalAt t).selection = p.selection := rfl
@[simp] theorem Part.setIntervalAt_store (t : Nat) (p : Part) : (p.setIntervalAt t).store = p.store := rfl
@[simp] theorem Part.setIntervalAt_pwm (t : Nat) (p : Part) : (p.setIntervalAt t).pwm = p.pwm := rfl
@[simp] theorem Part.setIntervalAt_supply (t : Nat) (p : Part) : (p.setIntervalAt t).supply = p.supply := rfl
@[simp] theorem Part.setIntervalAt_portS (t : Nat) (p : Part) : (p.setIntervalAt t).portS = p.portS := rfl
@[simp] theorem Part.setIntervalAt_portW (t : Nat) (p : Part) : (p.setIntervalAt t).portW = p.portW := rfl
@[simp] theorem Part.setIntervalAt_intervalAt (t : Nat) (p : Part) : (p.setIntervalAt t).intervalAt = t := rfl
@[simp] theorem Part.setIntervalAt_link (t : Nat) (p : Part) : (p.setIntervalAt t).link = p.link := rfl
@[simp] theorem Part.setIntervalAt_slot (t : Nat) (p : Part) : (p.setIntervalAt t).slot = p.slot := rfl
@[simp] theorem Part.setIntervalAt_params (t : Nat) (p : Part) : (p.setIntervalAt t).params = p.params := rfl
@[simp] theorem Part.setIntervalAt_events (t : Nat) (p : Part) : (p.setIntervalAt t).events = p.events := rfl
@[simp] theorem Part.setIntervalAt_globals (t : Nat) (p : Part) : (p.setIntervalAt t).globals = p.globals := rfl
@[simp] theorem Part.setIntervalAt_pins (t : Nat) (p : Part) : (p.setIntervalAt t).pins = p.pins := rfl
@[simp] theorem Part.setIntervalAt_corner (t : Nat) (p : Part) (d : Corner) : (p.setIntervalAt t).corner d = p.corner d := rfl
@[simp] theorem Part.setIntervalAt_port (t : Nat) (p : Part) (r : Port) : (p.setIntervalAt t).port r = p.port r := by cases r <;> rfl

/-! ## Part.modLink -/

@[simp] theorem Part.modLink_now (f : Link → Link) (p : Part) : (p.modLink f).now = p.now := rfl
@[simp] theorem Part.modLink_straps (f : Link → Link) (p : Part) : (p.modLink f).straps = p.straps := rfl
@[simp] theorem Part.modLink_tracker (f : Link → Link) (p : Part) : (p.modLink f).tracker = p.tracker := rfl
@[simp] theorem Part.modLink_context (f : Link → Link) (p : Part) : (p.modLink f).context = p.context := rfl
@[simp] theorem Part.modLink_corners (f : Link → Link) (p : Part) : (p.modLink f).corners = p.corners := rfl
@[simp] theorem Part.modLink_control (f : Link → Link) (p : Part) : (p.modLink f).control = p.control := rfl
@[simp] theorem Part.modLink_schedule (f : Link → Link) (p : Part) : (p.modLink f).schedule = p.schedule := rfl
@[simp] theorem Part.modLink_selection (f : Link → Link) (p : Part) : (p.modLink f).selection = p.selection := rfl
@[simp] theorem Part.modLink_store (f : Link → Link) (p : Part) : (p.modLink f).store = p.store := rfl
@[simp] theorem Part.modLink_pwm (f : Link → Link) (p : Part) : (p.modLink f).pwm = p.pwm := rfl
@[simp] theorem Part.modLink_supply (f : Link → Link) (p : Part) : (p.modLink f).supply = p.supply := rfl
@[simp] theorem Part.modLink_portS (f : Link → Link) (p : Part) : (p.modLink f).portS = p.portS := rfl
@[simp] theorem Part.modLink_portW (f : Link → Link) (p : Part) : (p.modLink f).portW = p.portW := rfl
@[simp] theorem Part.modLink_intervalAt (f : Link → Link) (p : Part) : (p.modLink f).intervalAt = p.intervalAt := rfl
@[simp] theorem Part.modLink_link (f : Link → Link) (p : Part) : (p.modLink f).link = f p.link := rfl
@[simp] theorem Part.modLink_slot (f : Link → Link) (p : Part) : (p.modLink f).slot = p.slot := rfl
@[simp] theorem Part.modLink_params (f : Link → Link) (p : Part) : (p.modLink f).params = p.params := rfl
@[simp] theorem Part.modLink_events (f : Link → Link) (p : Part) : (p.modLink f).events = p.events := rfl
@[simp] theorem Part.modLink_globals (f : Link → Link) (p : Part) : (p.modLink f).globals = p.globals := rfl
@[simp] theorem Part.modLink_pins (f : Link → Link) (p : Part) : (p.modLink f).pins = p.pins := rfl
@[simp] theorem Part.modLink_corner (f : Link → Link) (p : Part) (d : Corner) : (p.modLink f).corner d = p.corner d := rfl
@[simp] theorem Part.modLink_port (f : Link → Link) (p : Part) (r : Port) : (p.modLink f).port r = p.port r := by cases r <;> rfl

/-! ## Part.setSlot -/

@[simp] theorem Part.setSlot_now (x : Option HeldOrder) (p : Part) : (p.setSlot x).now = p.now := rfl
@[simp] theorem Part.setSlot_straps (x : Option HeldOrder) (p : Part) : (p.setSlot x).straps = p.straps := rfl
@[simp] theorem Part.setSlot_tracker (x : Option HeldOrder) (p : Part) : (p.setSlot x).tracker = p.tracker := rfl
@[simp] theorem Part.setSlot_context (x : Option HeldOrder) (p : Part) : (p.setSlot x).context = p.context := rfl
@[simp] theorem Part.setSlot_corners (x : Option HeldOrder) (p : Part) : (p.setSlot x).corners = p.corners := rfl
@[simp] theorem Part.setSlot_control (x : Option HeldOrder) (p : Part) : (p.setSlot x).control = p.control := rfl
@[simp] theorem Part.setSlot_schedule (x : Option HeldOrder) (p : Part) : (p.setSlot x).schedule = p.schedule := rfl
@[simp] theorem Part.setSlot_selection (x : Option HeldOrder) (p : Part) : (p.setSlot x).selection = p.selection := rfl
@[simp] theorem Part.setSlot_store (x : Option HeldOrder) (p : Part) : (p.setSlot x).store = p.store := rfl
@[simp] theorem Part.setSlot_pwm (x : Option HeldOrder) (p : Part) : (p.setSlot x).pwm = p.pwm := rfl
@[simp] theorem Part.setSlot_supply (x : Option HeldOrder) (p : Part) : (p.setSlot x).supply = p.supply := rfl
@[simp] theorem Part.setSlot_portS (x : Option HeldOrder) (p : Part) : (p.setSlot x).portS = p.portS := rfl
@[simp] theorem Part.setSlot_portW (x : Option HeldOrder) (p : Part) : (p.setSlot x).portW = p.portW := rfl
@[simp] theorem Part.setSlot_intervalAt (x : Option HeldOrder) (p : Part) : (p.setSlot x).intervalAt = p.intervalAt := rfl
@[simp] theorem Part.setSlot_link (x : Option HeldOrder) (p : Part) : (p.setSlot x).link = p.link := rfl
@[simp] theorem Part.setSlot_slot (x : Option HeldOrder) (p : Part) : (p.setSlot x).slot = x := rfl
@[simp] theorem Part.setSlot_params (x : Option HeldOrder) (p : Part) : (p.setSlot x).params = p.params := rfl
@[simp] theorem Part.setSlot_events (x : Option HeldOrder) (p : Part) : (p.setSlot x).events = p.events := rfl
@[simp] theorem Part.setSlot_globals (x : Option HeldOrder) (p : Part) : (p.setSlot x).globals = p.globals := rfl
@[simp] theorem Part.setSlot_pins (x : Option HeldOrder) (p : Part) : (p.setSlot x).pins = p.pins := rfl
@[simp] theorem Part.setSlot_corner (x : Option HeldOrder) (p : Part) (d : Corner) : (p.setSlot x).corner d = p.corner d := rfl
@[simp] theorem Part.setSlot_port (x : Option HeldOrder) (p : Part) (r : Port) : (p.setSlot x).port r = p.port r := by cases r <;> rfl

/-! ## Part.setParams -/

@[simp] theorem Part.setParams_now (x : Params) (p : Part) : (p.setParams x).now = p.now := rfl
@[simp] theorem Part.setParams_straps (x : Params) (p : Part) : (p.setParams x).straps = p.straps := rfl
@[simp] theorem Part.setParams_tracker (x : Params) (p : Part) : (p.setParams x).tracker = p.tracker := rfl
@[simp] theorem Part.setParams_context (x : Params) (p : Part) : (p.setParams x).context = p.context := rfl
@[simp] theorem Part.setParams_corners (x : Params) (p : Part) : (p.setParams x).corners = p.corners := rfl
@[simp] theorem Part.setParams_control (x : Params) (p : Part) : (p.setParams x).control = p.control := rfl
@[simp] theorem Part.setParams_schedule (x : Params) (p : Part) : (p.setParams x).schedule = p.schedule := rfl
@[simp] theorem Part.setParams_selection (x : Params) (p : Part) : (p.setParams x).selection = p.selection := rfl
@[simp] theorem Part.setParams_store (x : Params) (p : Part) : (p.setParams x).store = p.store := rfl
@[simp] theorem Part.setParams_pwm (x : Params) (p : Part) : (p.setParams x).pwm = p.pwm := rfl
@[simp] theorem Part.setParams_supply (x : Params) (p : Part) : (p.setParams x).supply = p.supply := rfl
@[simp] theorem Part.setParams_portS (x : Params) (p : Part) : (p.setParams x).portS = p.portS := rfl
@[simp] theorem Part.setParams_portW (x : Params) (p : Part) : (p.setParams x).portW = p.portW := rfl
@[simp] theorem Part.setParams_intervalAt (x : Params) (p : Part) : (p.setParams x).intervalAt = p.intervalAt := rfl
@[simp] theorem Part.setParams_link (x : Params) (p : Part) : (p.setParams x).link = p.link := rfl
@[simp] theorem Part.setParams_slot (x : Params) (p : Part) : (p.setParams x).slot = p.slot := rfl
@[simp] theorem Part.setParams_params (x : Params) (p : Part) : (p.setParams x).params = x := rfl
@[simp] theorem Part.setParams_events (x : Params) (p : Part) : (p.setParams x).events = p.events := rfl
@[simp] theorem Part.setParams_globals (x : Params) (p : Part) : (p.setParams x).globals = p.globals := rfl
@[simp] theorem Part.setParams_pins (x : Params) (p : Part) : (p.setParams x).pins = p.pins := rfl
@[simp] theorem Part.setParams_corner (x : Params) (p : Part) (d : Corner) : (p.setParams x).corner d = p.corner d := rfl
@[simp] theorem Part.setParams_port (x : Params) (p : Part) (r : Port) : (p.setParams x).port r = p.port r := by cases r <;> rfl

/-! ## Part.setEvents -/

@[simp] theorem Part.setEvents_now (x : List Entry) (p : Part) : (p.setEvents x).now = p.now := rfl
@[simp] theorem Part.setEvents_straps (x : List Entry) (p : Part) : (p.setEvents x).straps = p.straps := rfl
@[simp] theorem Part.setEvents_tracker (x : List Entry) (p : Part) : (p.setEvents x).tracker = p.tracker := rfl
@[simp] theorem Part.setEvents_context (x : List Entry) (p : Part) : (p.setEvents x).context = p.context := rfl
@[simp] theorem Part.setEvents_corners (x : List Entry) (p : Part) : (p.setEvents x).corners = p.corners := rfl
@[simp] theorem Part.setEvents_control (x : List Entry) (p : Part) : (p.setEvents x).control = p.control := rfl
@[simp] theorem Part.setEvents_schedule (x : List Entry) (p : Part) : (p.setEvents x).schedule = p.schedule := rfl
@[simp] theorem Part.setEvents_selection (x : List Entry) (p : Part) : (p.setEvents x).selection = p.selection := rfl
@[simp] theorem Part.setEvents_store (x : List Entry) (p : Part) : (p.setEvents x).store = p.store := rfl
@[simp] theorem Part.setEvents_pwm (x : List Entry) (p : Part) : (p.setEvents x).pwm = p.pwm := rfl
@[simp] theorem Part.setEvents_supply (x : List Entry) (p : Part) : (p.setEvents x).supply = p.supply := rfl
@[simp] theorem Part.setEvents_portS (x : List Entry) (p : Part) : (p.setEvents x).portS = p.portS := rfl
@[simp] theorem Part.setEvents_portW (x : List Entry) (p : Part) : (p.setEvents x).portW = p.portW := rfl
@[simp] theorem Part.setEvents_intervalAt (x : List Entry) (p : Part) : (p.setEvents x).intervalAt = p.intervalAt := rfl
@[simp] theorem Part.setEvents_link (x : List Entry) (p : Part) : (p.setEvents x).link = p.link := rfl
@[simp] theorem Part.setEvents_slot (x : List Entry) (p : Part) : (p.setEvents x).slot = p.slot := rfl
@[simp] theorem Part.setEvents_params (x : List Entry) (p : Part) : (p.setEvents x).params = p.params := rfl
@[simp] theorem Part.setEvents_events (x : List Entry) (p : Part) : (p.setEvents x).events = x := rfl
@[simp] theorem Part.setEvents_globals (x : List Entry) (p : Part) : (p.setEvents x).globals = p.globals := rfl
@[simp] theorem Part.setEvents_pins (x : List Entry) (p : Part) : (p.setEvents x).pins = p.pins := rfl
@[simp] theorem Part.setEvents_corner (x : List Entry) (p : Part) (d : Corner) : (p.setEvents x).corner d = p.corner d := rfl
@[simp] theorem Part.setEvents_port (x : List Entry) (p : Part) (r : Port) : (p.setEvents x).port r = p.port r := by cases r <;> rfl

/-! ## Part.modGlobals -/

@[simp] theorem Part.modGlobals_now (f : GlobalCounters → GlobalCounters) (p : Part) : (p.modGlobals f).now = p.now := rfl
@[simp] theorem Part.modGlobals_straps (f : GlobalCounters → GlobalCounters) (p : Part) : (p.modGlobals f).straps = p.straps := rfl
@[simp] theorem Part.modGlobals_tracker (f : GlobalCounters → GlobalCounters) (p : Part) : (p.modGlobals f).tracker = p.tracker := rfl
@[simp] theorem Part.modGlobals_context (f : GlobalCounters → GlobalCounters) (p : Part) : (p.modGlobals f).context = p.context := rfl
@[simp] theorem Part.modGlobals_corners (f : GlobalCounters → GlobalCounters) (p : Part) : (p.modGlobals f).corners = p.corners := rfl
@[simp] theorem Part.modGlobals_control (f : GlobalCounters → GlobalCounters) (p : Part) : (p.modGlobals f).control = p.control := rfl
@[simp] theorem Part.modGlobals_schedule (f : GlobalCounters → GlobalCounters) (p : Part) : (p.modGlobals f).schedule = p.schedule := rfl
@[simp] theorem Part.modGlobals_selection (f : GlobalCounters → GlobalCounters) (p : Part) : (p.modGlobals f).selection = p.selection := rfl
@[simp] theorem Part.modGlobals_store (f : GlobalCounters → GlobalCounters) (p : Part) : (p.modGlobals f).store = p.store := rfl
@[simp] theorem Part.modGlobals_pwm (f : GlobalCounters → GlobalCounters) (p : Part) : (p.modGlobals f).pwm = p.pwm := rfl
@[simp] theorem Part.modGlobals_supply (f : GlobalCounters → GlobalCounters) (p : Part) : (p.modGlobals f).supply = p.supply := rfl
@[simp] theorem Part.modGlobals_portS (f : GlobalCounters → GlobalCounters) (p : Part) : (p.modGlobals f).portS = p.portS := rfl
@[simp] theorem Part.modGlobals_portW (f : GlobalCounters → GlobalCounters) (p : Part) : (p.modGlobals f).portW = p.portW := rfl
@[simp] theorem Part.modGlobals_intervalAt (f : GlobalCounters → GlobalCounters) (p : Part) : (p.modGlobals f).intervalAt = p.intervalAt := rfl
@[simp] theorem Part.modGlobals_link (f : GlobalCounters → GlobalCounters) (p : Part) : (p.modGlobals f).link = p.link := rfl
@[simp] theorem Part.modGlobals_slot (f : GlobalCounters → GlobalCounters) (p : Part) : (p.modGlobals f).slot = p.slot := rfl
@[simp] theorem Part.modGlobals_params (f : GlobalCounters → GlobalCounters) (p : Part) : (p.modGlobals f).params = p.params := rfl
@[simp] theorem Part.modGlobals_events (f : GlobalCounters → GlobalCounters) (p : Part) : (p.modGlobals f).events = p.events := rfl
@[simp] theorem Part.modGlobals_globals (f : GlobalCounters → GlobalCounters) (p : Part) : (p.modGlobals f).globals = f p.globals := rfl
@[simp] theorem Part.modGlobals_pins (f : GlobalCounters → GlobalCounters) (p : Part) : (p.modGlobals f).pins = p.pins := rfl
@[simp] theorem Part.modGlobals_corner (f : GlobalCounters → GlobalCounters) (p : Part) (d : Corner) : (p.modGlobals f).corner d = p.corner d := rfl
@[simp] theorem Part.modGlobals_port (f : GlobalCounters → GlobalCounters) (p : Part) (r : Port) : (p.modGlobals f).port r = p.port r := by cases r <;> rfl

/-! ## Part.modPins -/

@[simp] theorem Part.modPins_now (f : Pins → Pins) (p : Part) : (p.modPins f).now = p.now := rfl
@[simp] theorem Part.modPins_straps (f : Pins → Pins) (p : Part) : (p.modPins f).straps = p.straps := rfl
@[simp] theorem Part.modPins_tracker (f : Pins → Pins) (p : Part) : (p.modPins f).tracker = p.tracker := rfl
@[simp] theorem Part.modPins_context (f : Pins → Pins) (p : Part) : (p.modPins f).context = p.context := rfl
@[simp] theorem Part.modPins_corners (f : Pins → Pins) (p : Part) : (p.modPins f).corners = p.corners := rfl
@[simp] theorem Part.modPins_control (f : Pins → Pins) (p : Part) : (p.modPins f).control = p.control := rfl
@[simp] theorem Part.modPins_schedule (f : Pins → Pins) (p : Part) : (p.modPins f).schedule = p.schedule := rfl
@[simp] theorem Part.modPins_selection (f : Pins → Pins) (p : Part) : (p.modPins f).selection = p.selection := rfl
@[simp] theorem Part.modPins_store (f : Pins → Pins) (p : Part) : (p.modPins f).store = p.store := rfl
@[simp] theorem Part.modPins_pwm (f : Pins → Pins) (p : Part) : (p.modPins f).pwm = p.pwm := rfl
@[simp] theorem Part.modPins_supply (f : Pins → Pins) (p : Part) : (p.modPins f).supply = p.supply := rfl
@[simp] theorem Part.modPins_portS (f : Pins → Pins) (p : Part) : (p.modPins f).portS = p.portS := rfl
@[simp] theorem Part.modPins_portW (f : Pins → Pins) (p : Part) : (p.modPins f).portW = p.portW := rfl
@[simp] theorem Part.modPins_intervalAt (f : Pins → Pins) (p : Part) : (p.modPins f).intervalAt = p.intervalAt := rfl
@[simp] theorem Part.modPins_link (f : Pins → Pins) (p : Part) : (p.modPins f).link = p.link := rfl
@[simp] theorem Part.modPins_slot (f : Pins → Pins) (p : Part) : (p.modPins f).slot = p.slot := rfl
@[simp] theorem Part.modPins_params (f : Pins → Pins) (p : Part) : (p.modPins f).params = p.params := rfl
@[simp] theorem Part.modPins_events (f : Pins → Pins) (p : Part) : (p.modPins f).events = p.events := rfl
@[simp] theorem Part.modPins_globals (f : Pins → Pins) (p : Part) : (p.modPins f).globals = p.globals := rfl
@[simp] theorem Part.modPins_pins (f : Pins → Pins) (p : Part) : (p.modPins f).pins = f p.pins := rfl
@[simp] theorem Part.modPins_corner (f : Pins → Pins) (p : Part) (d : Corner) : (p.modPins f).corner d = p.corner d := rfl
@[simp] theorem Part.modPins_port (f : Pins → Pins) (p : Part) (r : Port) : (p.modPins f).port r = p.port r := by cases r <;> rfl

/-! ## Part.modPort -/

@[simp] theorem Part.modPort_now (q : Port) (f : PortPart → PortPart) (p : Part) : (p.modPort q f).now = p.now := by cases q <;> rfl
@[simp] theorem Part.modPort_straps (q : Port) (f : PortPart → PortPart) (p : Part) : (p.modPort q f).straps = p.straps := by cases q <;> rfl
@[simp] theorem Part.modPort_tracker (q : Port) (f : PortPart → PortPart) (p : Part) : (p.modPort q f).tracker = p.tracker := by cases q <;> rfl
@[simp] theorem Part.modPort_context (q : Port) (f : PortPart → PortPart) (p : Part) : (p.modPort q f).context = p.context := by cases q <;> rfl
@[simp] theorem Part.modPort_corners (q : Port) (f : PortPart → PortPart) (p : Part) : (p.modPort q f).corners = p.corners := by cases q <;> rfl
@[simp] theorem Part.modPort_control (q : Port) (f : PortPart → PortPart) (p : Part) : (p.modPort q f).control = p.control := by cases q <;> rfl
@[simp] theorem Part.modPort_schedule (q : Port) (f : PortPart → PortPart) (p : Part) : (p.modPort q f).schedule = p.schedule := by cases q <;> rfl
@[simp] theorem Part.modPort_selection (q : Port) (f : PortPart → PortPart) (p : Part) : (p.modPort q f).selection = p.selection := by cases q <;> rfl
@[simp] theorem Part.modPort_store (q : Port) (f : PortPart → PortPart) (p : Part) : (p.modPort q f).store = p.store := by cases q <;> rfl
@[simp] theorem Part.modPort_pwm (q : Port) (f : PortPart → PortPart) (p : Part) : (p.modPort q f).pwm = p.pwm := by cases q <;> rfl
@[simp] theorem Part.modPort_supply (q : Port) (f : PortPart → PortPart) (p : Part) : (p.modPort q f).supply = p.supply := by cases q <;> rfl
@[simp] theorem Part.modPort_intervalAt (q : Port) (f : PortPart → PortPart) (p : Part) : (p.modPort q f).intervalAt = p.intervalAt := by cases q <;> rfl
@[simp] theorem Part.modPort_link (q : Port) (f : PortPart → PortPart) (p : Part) : (p.modPort q f).link = p.link := by cases q <;> rfl
@[simp] theorem Part.modPort_slot (q : Port) (f : PortPart → PortPart) (p : Part) : (p.modPort q f).slot = p.slot := by cases q <;> rfl
@[simp] theorem Part.modPort_params (q : Port) (f : PortPart → PortPart) (p : Part) : (p.modPort q f).params = p.params := by cases q <;> rfl
@[simp] theorem Part.modPort_events (q : Port) (f : PortPart → PortPart) (p : Part) : (p.modPort q f).events = p.events := by cases q <;> rfl
@[simp] theorem Part.modPort_globals (q : Port) (f : PortPart → PortPart) (p : Part) : (p.modPort q f).globals = p.globals := by cases q <;> rfl
@[simp] theorem Part.modPort_pins (q : Port) (f : PortPart → PortPart) (p : Part) : (p.modPort q f).pins = p.pins := by cases q <;> rfl
@[simp] theorem Part.modPort_corner (q : Port) (f : PortPart → PortPart) (p : Part) (d : Corner) : (p.modPort q f).corner d = p.corner d := by cases q <;> rfl
@[simp] theorem Part.modPort_s_portS (f : PortPart → PortPart) (p : Part) : (p.modPort .s f).portS = f p.portS := rfl
@[simp] theorem Part.modPort_s_portW (f : PortPart → PortPart) (p : Part) : (p.modPort .s f).portW = p.portW := rfl
@[simp] theorem Part.modPort_w_portS (f : PortPart → PortPart) (p : Part) : (p.modPort .w f).portS = p.portS := rfl
@[simp] theorem Part.modPort_w_portW (f : PortPart → PortPart) (p : Part) : (p.modPort .w f).portW = f p.portW := rfl

/-- The port updated. -/
@[simp] theorem Part.port_modPort_self (q : Port) (f : PortPart → PortPart) (p : Part) :
    (p.modPort q f).port q = f (p.port q) := by cases q <;> rfl

/-- The other port. -/
theorem Part.port_modPort_of_ne {q r : Port} (h : r ≠ q) (f : PortPart → PortPart) (p : Part) :
    (p.modPort q f).port r = p.port r := by cases q <;> cases r <;> first | rfl | exact absurd rfl h

end Sys2Proof.Machine
end

