-- ==== Sys2Proof/Laws/Corners.lean ====
section
/-! SUPPORT. Laws/Corners.lean: the four corners: reading and replacing one of them, and operations taken at each. -/

namespace Sys2Proof

namespace Quad

@[simp] theorem get_set_self {α : Type} (q : Quad α) (c : Corner) (x : α) : (q.set c x).get c = x := by cases c <;> rfl

theorem get_set_of_ne {α : Type} {c d : Corner} (h : d ≠ c) (q : Quad α) (x : α) : (q.set c x).get d = q.get d := by
  cases c <;> cases d <;> first | rfl | exact absurd rfl h

/-- Reading a quad after one corner is replaced. -/
theorem get_set {α : Type} (q : Quad α) (c d : Corner) (x : α) : (q.set c x).get d = if d = c then x else q.get d := by
  cases c <;> cases d <;> rfl

@[simp] theorem get_fill {α : Type} (x : α) (c : Corner) : (fill x).get c = x := by cases c <;> rfl

@[simp] theorem get_ofCorners {α : Type} (f : Corner → α) (c : Corner) : (ofCorners f).get c = f c := by cases c <;> rfl

@[simp] theorem get_map {α β : Type} (f : α → β) (q : Quad α) (c : Corner) : (q.map f).get c = f (q.get c) := by
  cases c <;> rfl

@[simp] theorem set_get_self {α : Type} (q : Quad α) (c : Corner) : q.set c (q.get c) = q := by cases c <;> rfl

/-- Two quads that agree at every corner are one. -/
theorem ext_get {α : Type} {q r : Quad α} (h : ∀ c, q.get c = r.get c) : q = r := by
  obtain ⟨a, b, c, d⟩ := q
  obtain ⟨a', b', c', d'⟩ := r
  have h1 : a = a' := h .fl
  have h2 : b = b' := h .fr
  have h3 : c = c' := h .rl
  have h4 : d = d' := h .rr
  rw [h1, h2, h3, h4]

/-- A test of every value is a test at every corner. -/
theorem all_toList {α : Type} (q : Quad α) (test : α → Bool) : q.toList.all test = true ↔ ∀ c, test (q.get c) = true := by
  constructor
  · intro h c
    simp only [toList, List.all_cons, List.all_nil, Bool.and_true, Bool.and_eq_true] at h
    cases c
    · exact h.1
    · exact h.2.1
    · exact h.2.2.1
    · exact h.2.2.2
  · intro h
    have h1 : test q.fl = true := h .fl
    have h2 : test q.fr = true := h .fr
    have h3 : test q.rl = true := h .rl
    have h4 : test q.rr = true := h .rr
    simp [toList, h1, h2, h3, h4]

end Quad

namespace Machine

/-- The corner updated. -/
@[simp] theorem Part.corner_modCorner_self (c : Corner) (f : CornerPart → CornerPart) (p : Part) :
    (p.modCorner c f).corner c = f (p.corner c) := Quad.get_set_self _ _ _

/-- The corners beside the one updated. -/
theorem Part.corner_modCorner_of_ne {c d : Corner} (h : d ≠ c) (f : CornerPart → CornerPart) (p : Part) :
    (p.modCorner c f).corner d = p.corner d := Quad.get_set_of_ne h _ _

/-- Any corner after the update of one. -/
theorem Part.corner_modCorner (c d : Corner) (f : CornerPart → CornerPart) (p : Part) :
    (p.modCorner c f).corner d = if d = c then f (p.corner c) else p.corner d := Quad.get_set _ _ _ _

/-- A property each corner's operation keeps is kept by the four together. -/
theorem forCorners_keeps {P : Part → Prop} {f : Corner → Part → Part} (h : ∀ c p, P p → P (f c p)) {p : Part} (hp : P p) :
    P (forCorners f p) := h _ _ (h _ _ (h _ _ (h _ _ hp)))

/-- What each corner's operation leaves as it is, the four together leave as it is. -/
theorem forCorners_same {α : Type} (g : Part → α) {f : Corner → Part → Part} (h : ∀ c p, g (f c p) = g p) (p : Part) :
    g (forCorners f p) = g p := by simp only [forCorners, h]

/-- Where each corner's operation touches that corner alone, a corner ends as its own operation leaves it. -/
theorem forCorners_corner {f : Corner → Part → Part} {g : Part → CornerPart → CornerPart}
    (same : ∀ c p, (f c p).corner c = g p (p.corner c))
    (other : ∀ c d p, d ≠ c → (f c p).corner d = p.corner d)
    (stable : ∀ c p k, g (f c p) k = g p k) (c : Corner) (p : Part) :
    (forCorners f p).corner c = g p (p.corner c) := by
  cases c <;>
    simp [forCorners, same, other, stable]

end Machine

end Sys2Proof
end

