-- ==== Sys2Proof/Laws/Frames.lean ====
section
/-! SUPPORT. Laws/Frames.lean: what each shared operation of the model leaves as it is, field by field, so that a proof about a
command cites these and unfolds none of them. -/

namespace Sys2Proof.Machine

open Sys2Proof

/-- What happens at one port leaves the other. -/
@[simp] theorem countPort_w_portS (f : PortCounters → PortCounters) (p : Part) : (countPort .w f p).portS = p.portS := rfl
@[simp] theorem countPort_s_portW (f : PortCounters → PortCounters) (p : Part) : (countPort .s f p).portW = p.portW := rfl
@[simp] theorem goodFrame_w_portS (p : Part) : (goodFrame .w p).portS = p.portS := rfl
@[simp] theorem goodFrame_s_portW (p : Part) : (goodFrame .s p).portW = p.portW := rfl
@[simp] theorem beginSending_w_portS (f : Frame) (p : Part) : (beginSending .w f p).portS = p.portS := rfl
@[simp] theorem beginSending_s_portW (f : Frame) (p : Part) : (beginSending .s f p).portW = p.portW := rfl

/-! ## raise -/

@[simp] theorem raise_now (e : Event) (b : Byte) (p : Part) : (raise e b p).now = p.now := by simp [raise]
@[simp] theorem raise_straps (e : Event) (b : Byte) (p : Part) : (raise e b p).straps = p.straps := by simp [raise]
@[simp] theorem raise_tracker (e : Event) (b : Byte) (p : Part) : (raise e b p).tracker = p.tracker := by simp [raise]
@[simp] theorem raise_context (e : Event) (b : Byte) (p : Part) : (raise e b p).context = p.context := by simp [raise]
@[simp] theorem raise_corners (e : Event) (b : Byte) (p : Part) : (raise e b p).corners = p.corners := by simp [raise]
@[simp] theorem raise_control (e : Event) (b : Byte) (p : Part) : (raise e b p).control = p.control := by simp [raise]
@[simp] theorem raise_schedule (e : Event) (b : Byte) (p : Part) : (raise e b p).schedule = p.schedule := by simp [raise]
@[simp] theorem raise_selection (e : Event) (b : Byte) (p : Part) : (raise e b p).selection = p.selection := by simp [raise]
@[simp] theorem raise_store (e : Event) (b : Byte) (p : Part) : (raise e b p).store = p.store := by simp [raise]
@[simp] theorem raise_pwm (e : Event) (b : Byte) (p : Part) : (raise e b p).pwm = p.pwm := by simp [raise]
@[simp] theorem raise_supply (e : Event) (b : Byte) (p : Part) : (raise e b p).supply = p.supply := by simp [raise]
@[simp] theorem raise_portS (e : Event) (b : Byte) (p : Part) : (raise e b p).portS = p.portS := by simp [raise]
@[simp] theorem raise_portW (e : Event) (b : Byte) (p : Part) : (raise e b p).portW = p.portW := by simp [raise]
@[simp] theorem raise_intervalAt (e : Event) (b : Byte) (p : Part) : (raise e b p).intervalAt = p.intervalAt := by simp [raise]
@[simp] theorem raise_link (e : Event) (b : Byte) (p : Part) : (raise e b p).link = p.link := by simp [raise]
@[simp] theorem raise_slot (e : Event) (b : Byte) (p : Part) : (raise e b p).slot = p.slot := by simp [raise]
@[simp] theorem raise_params (e : Event) (b : Byte) (p : Part) : (raise e b p).params = p.params := by simp [raise]
@[simp] theorem raise_globals (e : Event) (b : Byte) (p : Part) : (raise e b p).globals = p.globals := by simp [raise]
@[simp] theorem raise_pins (e : Event) (b : Byte) (p : Part) : (raise e b p).pins = p.pins := by simp [raise]
@[simp] theorem raise_corner (e : Event) (b : Byte) (d : Corner) (p : Part) : (raise e b p).corner d = p.corner d := by simp [raise]
@[simp] theorem raise_port (e : Event) (b : Byte) (r : Port) (p : Part) : (raise e b p).port r = p.port r := by simp [raise]

/-! ## countCorner -/

@[simp] theorem countCorner_now (c : Corner) (f : CornerCounters → CornerCounters) (p : Part) : (countCorner c f p).now = p.now := by simp [countCorner]
@[simp] theorem countCorner_straps (c : Corner) (f : CornerCounters → CornerCounters) (p : Part) : (countCorner c f p).straps = p.straps := by simp [countCorner]
@[simp] theorem countCorner_tracker (c : Corner) (f : CornerCounters → CornerCounters) (p : Part) : (countCorner c f p).tracker = p.tracker := by simp [countCorner]
@[simp] theorem countCorner_context (c : Corner) (f : CornerCounters → CornerCounters) (p : Part) : (countCorner c f p).context = p.context := by simp [countCorner]
@[simp] theorem countCorner_control (c : Corner) (f : CornerCounters → CornerCounters) (p : Part) : (countCorner c f p).control = p.control := by simp [countCorner]
@[simp] theorem countCorner_schedule (c : Corner) (f : CornerCounters → CornerCounters) (p : Part) : (countCorner c f p).schedule = p.schedule := by simp [countCorner]
@[simp] theorem countCorner_selection (c : Corner) (f : CornerCounters → CornerCounters) (p : Part) : (countCorner c f p).selection = p.selection := by simp [countCorner]
@[simp] theorem countCorner_store (c : Corner) (f : CornerCounters → CornerCounters) (p : Part) : (countCorner c f p).store = p.store := by simp [countCorner]
@[simp] theorem countCorner_pwm (c : Corner) (f : CornerCounters → CornerCounters) (p : Part) : (countCorner c f p).pwm = p.pwm := by simp [countCorner]
@[simp] theorem countCorner_supply (c : Corner) (f : CornerCounters → CornerCounters) (p : Part) : (countCorner c f p).supply = p.supply := by simp [countCorner]
@[simp] theorem countCorner_portS (c : Corner) (f : CornerCounters → CornerCounters) (p : Part) : (countCorner c f p).portS = p.portS := by simp [countCorner]
@[simp] theorem countCorner_portW (c : Corner) (f : CornerCounters → CornerCounters) (p : Part) : (countCorner c f p).portW = p.portW := by simp [countCorner]
@[simp] theorem countCorner_intervalAt (c : Corner) (f : CornerCounters → CornerCounters) (p : Part) : (countCorner c f p).intervalAt = p.intervalAt := by simp [countCorner]
@[simp] theorem countCorner_link (c : Corner) (f : CornerCounters → CornerCounters) (p : Part) : (countCorner c f p).link = p.link := by simp [countCorner]
@[simp] theorem countCorner_slot (c : Corner) (f : CornerCounters → CornerCounters) (p : Part) : (countCorner c f p).slot = p.slot := by simp [countCorner]
@[simp] theorem countCorner_params (c : Corner) (f : CornerCounters → CornerCounters) (p : Part) : (countCorner c f p).params = p.params := by simp [countCorner]
@[simp] theorem countCorner_events (c : Corner) (f : CornerCounters → CornerCounters) (p : Part) : (countCorner c f p).events = p.events := by simp [countCorner]
@[simp] theorem countCorner_globals (c : Corner) (f : CornerCounters → CornerCounters) (p : Part) : (countCorner c f p).globals = p.globals := by simp [countCorner]
@[simp] theorem countCorner_pins (c : Corner) (f : CornerCounters → CornerCounters) (p : Part) : (countCorner c f p).pins = p.pins := by simp [countCorner]
@[simp] theorem countCorner_port (c : Corner) (f : CornerCounters → CornerCounters) (r : Port) (p : Part) : (countCorner c f p).port r = p.port r := by simp [countCorner]

/-! ## countPort -/

@[simp] theorem countPort_now (q : Port) (f : PortCounters → PortCounters) (p : Part) : (countPort q f p).now = p.now := by simp [countPort]
@[simp] theorem countPort_straps (q : Port) (f : PortCounters → PortCounters) (p : Part) : (countPort q f p).straps = p.straps := by simp [countPort]
@[simp] theorem countPort_tracker (q : Port) (f : PortCounters → PortCounters) (p : Part) : (countPort q f p).tracker = p.tracker := by simp [countPort]
@[simp] theorem countPort_context (q : Port) (f : PortCounters → PortCounters) (p : Part) : (countPort q f p).context = p.context := by simp [countPort]
@[simp] theorem countPort_corners (q : Port) (f : PortCounters → PortCounters) (p : Part) : (countPort q f p).corners = p.corners := by simp [countPort]
@[simp] theorem countPort_control (q : Port) (f : PortCounters → PortCounters) (p : Part) : (countPort q f p).control = p.control := by simp [countPort]
@[simp] theorem countPort_schedule (q : Port) (f : PortCounters → PortCounters) (p : Part) : (countPort q f p).schedule = p.schedule := by simp [countPort]
@[simp] theorem countPort_selection (q : Port) (f : PortCounters → PortCounters) (p : Part) : (countPort q f p).selection = p.selection := by simp [countPort]
@[simp] theorem countPort_store (q : Port) (f : PortCounters → PortCounters) (p : Part) : (countPort q f p).store = p.store := by simp [countPort]
@[simp] theorem countPort_pwm (q : Port) (f : PortCounters → PortCounters) (p : Part) : (countPort q f p).pwm = p.pwm := by simp [countPort]
@[simp] theorem countPort_supply (q : Port) (f : PortCounters → PortCounters) (p : Part) : (countPort q f p).supply = p.supply := by simp [countPort]
@[simp] theorem countPort_intervalAt (q : Port) (f : PortCounters → PortCounters) (p : Part) : (countPort q f p).intervalAt = p.intervalAt := by simp [countPort]
@[simp] theorem countPort_link (q : Port) (f : PortCounters → PortCounters) (p : Part) : (countPort q f p).link = p.link := by simp [countPort]
@[simp] theorem countPort_slot (q : Port) (f : PortCounters → PortCounters) (p : Part) : (countPort q f p).slot = p.slot := by simp [countPort]
@[simp] theorem countPort_params (q : Port) (f : PortCounters → PortCounters) (p : Part) : (countPort q f p).params = p.params := by simp [countPort]
@[simp] theorem countPort_events (q : Port) (f : PortCounters → PortCounters) (p : Part) : (countPort q f p).events = p.events := by simp [countPort]
@[simp] theorem countPort_globals (q : Port) (f : PortCounters → PortCounters) (p : Part) : (countPort q f p).globals = p.globals := by simp [countPort]
@[simp] theorem countPort_pins (q : Port) (f : PortCounters → PortCounters) (p : Part) : (countPort q f p).pins = p.pins := by simp [countPort]
@[simp] theorem countPort_corner (q : Port) (f : PortCounters → PortCounters) (d : Corner) (p : Part) : (countPort q f p).corner d = p.corner d := by simp [countPort]

/-! ## goodFrame -/

@[simp] theorem goodFrame_now (q : Port) (p : Part) : (goodFrame q p).now = p.now := by simp [goodFrame]
@[simp] theorem goodFrame_straps (q : Port) (p : Part) : (goodFrame q p).straps = p.straps := by simp [goodFrame]
@[simp] theorem goodFrame_tracker (q : Port) (p : Part) : (goodFrame q p).tracker = p.tracker := by simp [goodFrame]
@[simp] theorem goodFrame_context (q : Port) (p : Part) : (goodFrame q p).context = p.context := by simp [goodFrame]
@[simp] theorem goodFrame_corners (q : Port) (p : Part) : (goodFrame q p).corners = p.corners := by simp [goodFrame]
@[simp] theorem goodFrame_control (q : Port) (p : Part) : (goodFrame q p).control = p.control := by simp [goodFrame]
@[simp] theorem goodFrame_schedule (q : Port) (p : Part) : (goodFrame q p).schedule = p.schedule := by simp [goodFrame]
@[simp] theorem goodFrame_selection (q : Port) (p : Part) : (goodFrame q p).selection = p.selection := by simp [goodFrame]
@[simp] theorem goodFrame_store (q : Port) (p : Part) : (goodFrame q p).store = p.store := by simp [goodFrame]
@[simp] theorem goodFrame_pwm (q : Port) (p : Part) : (goodFrame q p).pwm = p.pwm := by simp [goodFrame]
@[simp] theorem goodFrame_supply (q : Port) (p : Part) : (goodFrame q p).supply = p.supply := by simp [goodFrame]
@[simp] theorem goodFrame_intervalAt (q : Port) (p : Part) : (goodFrame q p).intervalAt = p.intervalAt := by simp [goodFrame]
@[simp] theorem goodFrame_link (q : Port) (p : Part) : (goodFrame q p).link = p.link := by simp [goodFrame]
@[simp] theorem goodFrame_slot (q : Port) (p : Part) : (goodFrame q p).slot = p.slot := by simp [goodFrame]
@[simp] theorem goodFrame_params (q : Port) (p : Part) : (goodFrame q p).params = p.params := by simp [goodFrame]
@[simp] theorem goodFrame_events (q : Port) (p : Part) : (goodFrame q p).events = p.events := by simp [goodFrame]
@[simp] theorem goodFrame_globals (q : Port) (p : Part) : (goodFrame q p).globals = p.globals := by simp [goodFrame]
@[simp] theorem goodFrame_pins (q : Port) (p : Part) : (goodFrame q p).pins = p.pins := by simp [goodFrame]
@[simp] theorem goodFrame_corner (q : Port) (d : Corner) (p : Part) : (goodFrame q p).corner d = p.corner d := by simp [goodFrame]

/-! ## beginSending -/

@[simp] theorem beginSending_now (q : Port) (f : Frame) (p : Part) : (beginSending q f p).now = p.now := by simp [beginSending]
@[simp] theorem beginSending_straps (q : Port) (f : Frame) (p : Part) : (beginSending q f p).straps = p.straps := by simp [beginSending]
@[simp] theorem beginSending_tracker (q : Port) (f : Frame) (p : Part) : (beginSending q f p).tracker = p.tracker := by simp [beginSending]
@[simp] theorem beginSending_context (q : Port) (f : Frame) (p : Part) : (beginSending q f p).context = p.context := by simp [beginSending]
@[simp] theorem beginSending_corners (q : Port) (f : Frame) (p : Part) : (beginSending q f p).corners = p.corners := by simp [beginSending]
@[simp] theorem beginSending_control (q : Port) (f : Frame) (p : Part) : (beginSending q f p).control = p.control := by simp [beginSending]
@[simp] theorem beginSending_schedule (q : Port) (f : Frame) (p : Part) : (beginSending q f p).schedule = p.schedule := by simp [beginSending]
@[simp] theorem beginSending_selection (q : Port) (f : Frame) (p : Part) : (beginSending q f p).selection = p.selection := by simp [beginSending]
@[simp] theorem beginSending_store (q : Port) (f : Frame) (p : Part) : (beginSending q f p).store = p.store := by simp [beginSending]
@[simp] theorem beginSending_pwm (q : Port) (f : Frame) (p : Part) : (beginSending q f p).pwm = p.pwm := by simp [beginSending]
@[simp] theorem beginSending_supply (q : Port) (f : Frame) (p : Part) : (beginSending q f p).supply = p.supply := by simp [beginSending]
@[simp] theorem beginSending_intervalAt (q : Port) (f : Frame) (p : Part) : (beginSending q f p).intervalAt = p.intervalAt := by simp [beginSending]
@[simp] theorem beginSending_link (q : Port) (f : Frame) (p : Part) : (beginSending q f p).link = p.link := by simp [beginSending]
@[simp] theorem beginSending_slot (q : Port) (f : Frame) (p : Part) : (beginSending q f p).slot = p.slot := by simp [beginSending]
@[simp] theorem beginSending_params (q : Port) (f : Frame) (p : Part) : (beginSending q f p).params = p.params := by simp [beginSending]
@[simp] theorem beginSending_events (q : Port) (f : Frame) (p : Part) : (beginSending q f p).events = p.events := by simp [beginSending]
@[simp] theorem beginSending_globals (q : Port) (f : Frame) (p : Part) : (beginSending q f p).globals = p.globals := by simp [beginSending]
@[simp] theorem beginSending_pins (q : Port) (f : Frame) (p : Part) : (beginSending q f p).pins = p.pins := by simp [beginSending]
@[simp] theorem beginSending_corner (q : Port) (f : Frame) (d : Corner) (p : Part) : (beginSending q f p).corner d = p.corner d := by simp [beginSending]

/-! ## arbitrateS -/

@[simp] theorem arbitrateS_now (p : Part) : (arbitrateS p).now = p.now := by
  unfold arbitrateS
  split
  · rfl
  · split <;> simp
@[simp] theorem arbitrateS_straps (p : Part) : (arbitrateS p).straps = p.straps := by
  unfold arbitrateS
  split
  · rfl
  · split <;> simp
@[simp] theorem arbitrateS_tracker (p : Part) : (arbitrateS p).tracker = p.tracker := by
  unfold arbitrateS
  split
  · rfl
  · split <;> simp
@[simp] theorem arbitrateS_context (p : Part) : (arbitrateS p).context = p.context := by
  unfold arbitrateS
  split
  · rfl
  · split <;> simp
@[simp] theorem arbitrateS_corners (p : Part) : (arbitrateS p).corners = p.corners := by
  unfold arbitrateS
  split
  · rfl
  · split <;> simp
@[simp] theorem arbitrateS_control (p : Part) : (arbitrateS p).control = p.control := by
  unfold arbitrateS
  split
  · rfl
  · split <;> simp
@[simp] theorem arbitrateS_schedule (p : Part) : (arbitrateS p).schedule = p.schedule := by
  unfold arbitrateS
  split
  · rfl
  · split <;> simp
@[simp] theorem arbitrateS_selection (p : Part) : (arbitrateS p).selection = p.selection := by
  unfold arbitrateS
  split
  · rfl
  · split <;> simp
@[simp] theorem arbitrateS_store (p : Part) : (arbitrateS p).store = p.store := by
  unfold arbitrateS
  split
  · rfl
  · split <;> simp
@[simp] theorem arbitrateS_pwm (p : Part) : (arbitrateS p).pwm = p.pwm := by
  unfold arbitrateS
  split
  · rfl
  · split <;> simp
@[simp] theorem arbitrateS_supply (p : Part) : (arbitrateS p).supply = p.supply := by
  unfold arbitrateS
  split
  · rfl
  · split <;> simp
@[simp] theorem arbitrateS_portW (p : Part) : (arbitrateS p).portW = p.portW := by
  unfold arbitrateS
  split
  · rfl
  · split <;> simp
@[simp] theorem arbitrateS_intervalAt (p : Part) : (arbitrateS p).intervalAt = p.intervalAt := by
  unfold arbitrateS
  split
  · rfl
  · split <;> simp
@[simp] theorem arbitrateS_slot (p : Part) : (arbitrateS p).slot = p.slot := by
  unfold arbitrateS
  split
  · rfl
  · split <;> simp
@[simp] theorem arbitrateS_params (p : Part) : (arbitrateS p).params = p.params := by
  unfold arbitrateS
  split
  · rfl
  · split <;> simp
@[simp] theorem arbitrateS_events (p : Part) : (arbitrateS p).events = p.events := by
  unfold arbitrateS
  split
  · rfl
  · split <;> simp
@[simp] theorem arbitrateS_globals (p : Part) : (arbitrateS p).globals = p.globals := by
  unfold arbitrateS
  split
  · rfl
  · split <;> simp
@[simp] theorem arbitrateS_pins (p : Part) : (arbitrateS p).pins = p.pins := by
  unfold arbitrateS
  split
  · rfl
  · split <;> simp
@[simp] theorem arbitrateS_corner (d : Corner) (p : Part) : (arbitrateS p).corner d = p.corner d := by
  unfold arbitrateS
  split
  · rfl
  · split <;> simp

/-! ## arbitrateW -/

@[simp] theorem arbitrateW_now (p : Part) : (arbitrateW p).now = p.now := by
  unfold arbitrateW
  split
  · rfl
  · split <;> simp
@[simp] theorem arbitrateW_straps (p : Part) : (arbitrateW p).straps = p.straps := by
  unfold arbitrateW
  split
  · rfl
  · split <;> simp
@[simp] theorem arbitrateW_tracker (p : Part) : (arbitrateW p).tracker = p.tracker := by
  unfold arbitrateW
  split
  · rfl
  · split <;> simp
@[simp] theorem arbitrateW_context (p : Part) : (arbitrateW p).context = p.context := by
  unfold arbitrateW
  split
  · rfl
  · split <;> simp
@[simp] theorem arbitrateW_corners (p : Part) : (arbitrateW p).corners = p.corners := by
  unfold arbitrateW
  split
  · rfl
  · split <;> simp
@[simp] theorem arbitrateW_control (p : Part) : (arbitrateW p).control = p.control := by
  unfold arbitrateW
  split
  · rfl
  · split <;> simp
@[simp] theorem arbitrateW_schedule (p : Part) : (arbitrateW p).schedule = p.schedule := by
  unfold arbitrateW
  split
  · rfl
  · split <;> simp
@[simp] theorem arbitrateW_selection (p : Part) : (arbitrateW p).selection = p.selection := by
  unfold arbitrateW
  split
  · rfl
  · split <;> simp
@[simp] theorem arbitrateW_store (p : Part) : (arbitrateW p).store = p.store := by
  unfold arbitrateW
  split
  · rfl
  · split <;> simp
@[simp] theorem arbitrateW_pwm (p : Part) : (arbitrateW p).pwm = p.pwm := by
  unfold arbitrateW
  split
  · rfl
  · split <;> simp
@[simp] theorem arbitrateW_supply (p : Part) : (arbitrateW p).supply = p.supply := by
  unfold arbitrateW
  split
  · rfl
  · split <;> simp
@[simp] theorem arbitrateW_portS (p : Part) : (arbitrateW p).portS = p.portS := by
  unfold arbitrateW
  split
  · rfl
  · split <;> simp
@[simp] theorem arbitrateW_intervalAt (p : Part) : (arbitrateW p).intervalAt = p.intervalAt := by
  unfold arbitrateW
  split
  · rfl
  · split <;> simp
@[simp] theorem arbitrateW_slot (p : Part) : (arbitrateW p).slot = p.slot := by
  unfold arbitrateW
  split
  · rfl
  · split <;> simp
@[simp] theorem arbitrateW_params (p : Part) : (arbitrateW p).params = p.params := by
  unfold arbitrateW
  split
  · rfl
  · split <;> simp
@[simp] theorem arbitrateW_events (p : Part) : (arbitrateW p).events = p.events := by
  unfold arbitrateW
  split
  · rfl
  · split <;> simp
@[simp] theorem arbitrateW_globals (p : Part) : (arbitrateW p).globals = p.globals := by
  unfold arbitrateW
  split
  · rfl
  · split <;> simp
@[simp] theorem arbitrateW_pins (p : Part) : (arbitrateW p).pins = p.pins := by
  unfold arbitrateW
  split
  · rfl
  · split <;> simp
@[simp] theorem arbitrateW_corner (d : Corner) (p : Part) : (arbitrateW p).corner d = p.corner d := by
  unfold arbitrateW
  split
  · rfl
  · split <;> simp

/-! ## placeWheelBound -/

@[simp] theorem placeWheelBound_now (f : Frame) (p : Part) : (placeWheelBound f p).now = p.now := by unfold placeWheelBound; split <;> simp
@[simp] theorem placeWheelBound_straps (f : Frame) (p : Part) : (placeWheelBound f p).straps = p.straps := by unfold placeWheelBound; split <;> simp
@[simp] theorem placeWheelBound_tracker (f : Frame) (p : Part) : (placeWheelBound f p).tracker = p.tracker := by unfold placeWheelBound; split <;> simp
@[simp] theorem placeWheelBound_context (f : Frame) (p : Part) : (placeWheelBound f p).context = p.context := by unfold placeWheelBound; split <;> simp
@[simp] theorem placeWheelBound_corners (f : Frame) (p : Part) : (placeWheelBound f p).corners = p.corners := by unfold placeWheelBound; split <;> simp
@[simp] theorem placeWheelBound_control (f : Frame) (p : Part) : (placeWheelBound f p).control = p.control := by unfold placeWheelBound; split <;> simp
@[simp] theorem placeWheelBound_schedule (f : Frame) (p : Part) : (placeWheelBound f p).schedule = p.schedule := by unfold placeWheelBound; split <;> simp
@[simp] theorem placeWheelBound_selection (f : Frame) (p : Part) : (placeWheelBound f p).selection = p.selection := by unfold placeWheelBound; split <;> simp
@[simp] theorem placeWheelBound_store (f : Frame) (p : Part) : (placeWheelBound f p).store = p.store := by unfold placeWheelBound; split <;> simp
@[simp] theorem placeWheelBound_pwm (f : Frame) (p : Part) : (placeWheelBound f p).pwm = p.pwm := by unfold placeWheelBound; split <;> simp
@[simp] theorem placeWheelBound_supply (f : Frame) (p : Part) : (placeWheelBound f p).supply = p.supply := by unfold placeWheelBound; split <;> simp
@[simp] theorem placeWheelBound_portS (f : Frame) (p : Part) : (placeWheelBound f p).portS = p.portS := by unfold placeWheelBound; split <;> simp
@[simp] theorem placeWheelBound_intervalAt (f : Frame) (p : Part) : (placeWheelBound f p).intervalAt = p.intervalAt := by unfold placeWheelBound; split <;> simp
@[simp] theorem placeWheelBound_slot (f : Frame) (p : Part) : (placeWheelBound f p).slot = p.slot := by unfold placeWheelBound; split <;> simp
@[simp] theorem placeWheelBound_params (f : Frame) (p : Part) : (placeWheelBound f p).params = p.params := by unfold placeWheelBound; split <;> simp
@[simp] theorem placeWheelBound_events (f : Frame) (p : Part) : (placeWheelBound f p).events = p.events := by unfold placeWheelBound; split <;> simp
@[simp] theorem placeWheelBound_globals (f : Frame) (p : Part) : (placeWheelBound f p).globals = p.globals := by unfold placeWheelBound; split <;> simp
@[simp] theorem placeWheelBound_pins (f : Frame) (p : Part) : (placeWheelBound f p).pins = p.pins := by unfold placeWheelBound; split <;> simp
@[simp] theorem placeWheelBound_corner (f : Frame) (d : Corner) (p : Part) : (placeWheelBound f p).corner d = p.corner d := by unfold placeWheelBound; split <;> simp

/-! ## placeChassisBound -/

@[simp] theorem placeChassisBound_now (f : Frame) (p : Part) : (placeChassisBound f p).now = p.now := by unfold placeChassisBound; split <;> simp
@[simp] theorem placeChassisBound_straps (f : Frame) (p : Part) : (placeChassisBound f p).straps = p.straps := by unfold placeChassisBound; split <;> simp
@[simp] theorem placeChassisBound_tracker (f : Frame) (p : Part) : (placeChassisBound f p).tracker = p.tracker := by unfold placeChassisBound; split <;> simp
@[simp] theorem placeChassisBound_context (f : Frame) (p : Part) : (placeChassisBound f p).context = p.context := by unfold placeChassisBound; split <;> simp
@[simp] theorem placeChassisBound_corners (f : Frame) (p : Part) : (placeChassisBound f p).corners = p.corners := by unfold placeChassisBound; split <;> simp
@[simp] theorem placeChassisBound_control (f : Frame) (p : Part) : (placeChassisBound f p).control = p.control := by unfold placeChassisBound; split <;> simp
@[simp] theorem placeChassisBound_schedule (f : Frame) (p : Part) : (placeChassisBound f p).schedule = p.schedule := by unfold placeChassisBound; split <;> simp
@[simp] theorem placeChassisBound_selection (f : Frame) (p : Part) : (placeChassisBound f p).selection = p.selection := by unfold placeChassisBound; split <;> simp
@[simp] theorem placeChassisBound_store (f : Frame) (p : Part) : (placeChassisBound f p).store = p.store := by unfold placeChassisBound; split <;> simp
@[simp] theorem placeChassisBound_pwm (f : Frame) (p : Part) : (placeChassisBound f p).pwm = p.pwm := by unfold placeChassisBound; split <;> simp
@[simp] theorem placeChassisBound_supply (f : Frame) (p : Part) : (placeChassisBound f p).supply = p.supply := by unfold placeChassisBound; split <;> simp
@[simp] theorem placeChassisBound_portW (f : Frame) (p : Part) : (placeChassisBound f p).portW = p.portW := by unfold placeChassisBound; split <;> simp
@[simp] theorem placeChassisBound_intervalAt (f : Frame) (p : Part) : (placeChassisBound f p).intervalAt = p.intervalAt := by unfold placeChassisBound; split <;> simp
@[simp] theorem placeChassisBound_slot (f : Frame) (p : Part) : (placeChassisBound f p).slot = p.slot := by unfold placeChassisBound; split <;> simp
@[simp] theorem placeChassisBound_params (f : Frame) (p : Part) : (placeChassisBound f p).params = p.params := by unfold placeChassisBound; split <;> simp
@[simp] theorem placeChassisBound_events (f : Frame) (p : Part) : (placeChassisBound f p).events = p.events := by unfold placeChassisBound; split <;> simp
@[simp] theorem placeChassisBound_globals (f : Frame) (p : Part) : (placeChassisBound f p).globals = p.globals := by unfold placeChassisBound; split <;> simp
@[simp] theorem placeChassisBound_pins (f : Frame) (p : Part) : (placeChassisBound f p).pins = p.pins := by unfold placeChassisBound; split <;> simp
@[simp] theorem placeChassisBound_corner (f : Frame) (d : Corner) (p : Part) : (placeChassisBound f p).corner d = p.corner d := by unfold placeChassisBound; split <;> simp

/-! ## placeReply -/

@[simp] theorem placeReply_now (f : Frame) (p : Part) : (placeReply f p).now = p.now := by simp [placeReply]
@[simp] theorem placeReply_straps (f : Frame) (p : Part) : (placeReply f p).straps = p.straps := by simp [placeReply]
@[simp] theorem placeReply_tracker (f : Frame) (p : Part) : (placeReply f p).tracker = p.tracker := by simp [placeReply]
@[simp] theorem placeReply_context (f : Frame) (p : Part) : (placeReply f p).context = p.context := by simp [placeReply]
@[simp] theorem placeReply_corners (f : Frame) (p : Part) : (placeReply f p).corners = p.corners := by simp [placeReply]
@[simp] theorem placeReply_control (f : Frame) (p : Part) : (placeReply f p).control = p.control := by simp [placeReply]
@[simp] theorem placeReply_schedule (f : Frame) (p : Part) : (placeReply f p).schedule = p.schedule := by simp [placeReply]
@[simp] theorem placeReply_selection (f : Frame) (p : Part) : (placeReply f p).selection = p.selection := by simp [placeReply]
@[simp] theorem placeReply_store (f : Frame) (p : Part) : (placeReply f p).store = p.store := by simp [placeReply]
@[simp] theorem placeReply_pwm (f : Frame) (p : Part) : (placeReply f p).pwm = p.pwm := by simp [placeReply]
@[simp] theorem placeReply_supply (f : Frame) (p : Part) : (placeReply f p).supply = p.supply := by simp [placeReply]
@[simp] theorem placeReply_portW (f : Frame) (p : Part) : (placeReply f p).portW = p.portW := by simp [placeReply]
@[simp] theorem placeReply_intervalAt (f : Frame) (p : Part) : (placeReply f p).intervalAt = p.intervalAt := by simp [placeReply]
@[simp] theorem placeReply_slot (f : Frame) (p : Part) : (placeReply f p).slot = p.slot := by simp [placeReply]
@[simp] theorem placeReply_params (f : Frame) (p : Part) : (placeReply f p).params = p.params := by simp [placeReply]
@[simp] theorem placeReply_events (f : Frame) (p : Part) : (placeReply f p).events = p.events := by simp [placeReply]
@[simp] theorem placeReply_globals (f : Frame) (p : Part) : (placeReply f p).globals = p.globals := by simp [placeReply]
@[simp] theorem placeReply_pins (f : Frame) (p : Part) : (placeReply f p).pins = p.pins := by simp [placeReply]
@[simp] theorem placeReply_corner (f : Frame) (d : Corner) (p : Part) : (placeReply f p).corner d = p.corner d := by simp [placeReply]

/-! ## placeReport -/

@[simp] theorem placeReport_now (f : Frame) (p : Part) : (placeReport f p).now = p.now := by unfold placeReport; split <;> simp
@[simp] theorem placeReport_straps (f : Frame) (p : Part) : (placeReport f p).straps = p.straps := by unfold placeReport; split <;> simp
@[simp] theorem placeReport_tracker (f : Frame) (p : Part) : (placeReport f p).tracker = p.tracker := by unfold placeReport; split <;> simp
@[simp] theorem placeReport_context (f : Frame) (p : Part) : (placeReport f p).context = p.context := by unfold placeReport; split <;> simp
@[simp] theorem placeReport_corners (f : Frame) (p : Part) : (placeReport f p).corners = p.corners := by unfold placeReport; split <;> simp
@[simp] theorem placeReport_control (f : Frame) (p : Part) : (placeReport f p).control = p.control := by unfold placeReport; split <;> simp
@[simp] theorem placeReport_schedule (f : Frame) (p : Part) : (placeReport f p).schedule = p.schedule := by unfold placeReport; split <;> simp
@[simp] theorem placeReport_selection (f : Frame) (p : Part) : (placeReport f p).selection = p.selection := by unfold placeReport; split <;> simp
@[simp] theorem placeReport_store (f : Frame) (p : Part) : (placeReport f p).store = p.store := by unfold placeReport; split <;> simp
@[simp] theorem placeReport_pwm (f : Frame) (p : Part) : (placeReport f p).pwm = p.pwm := by unfold placeReport; split <;> simp
@[simp] theorem placeReport_supply (f : Frame) (p : Part) : (placeReport f p).supply = p.supply := by unfold placeReport; split <;> simp
@[simp] theorem placeReport_portW (f : Frame) (p : Part) : (placeReport f p).portW = p.portW := by unfold placeReport; split <;> simp
@[simp] theorem placeReport_intervalAt (f : Frame) (p : Part) : (placeReport f p).intervalAt = p.intervalAt := by unfold placeReport; split <;> simp
@[simp] theorem placeReport_slot (f : Frame) (p : Part) : (placeReport f p).slot = p.slot := by unfold placeReport; split <;> simp
@[simp] theorem placeReport_params (f : Frame) (p : Part) : (placeReport f p).params = p.params := by unfold placeReport; split <;> simp
@[simp] theorem placeReport_events (f : Frame) (p : Part) : (placeReport f p).events = p.events := by unfold placeReport; split <;> simp
@[simp] theorem placeReport_pins (f : Frame) (p : Part) : (placeReport f p).pins = p.pins := by unfold placeReport; split <;> simp
@[simp] theorem placeReport_corner (f : Frame) (d : Corner) (p : Part) : (placeReport f p).corner d = p.corner d := by unfold placeReport; split <;> simp

/-! ## setSubstitute -/

@[simp] theorem setSubstitute_now (f : Frame) (p : Part) : (setSubstitute f p).now = p.now := by simp [setSubstitute]
@[simp] theorem setSubstitute_straps (f : Frame) (p : Part) : (setSubstitute f p).straps = p.straps := by simp [setSubstitute]
@[simp] theorem setSubstitute_tracker (f : Frame) (p : Part) : (setSubstitute f p).tracker = p.tracker := by simp [setSubstitute]
@[simp] theorem setSubstitute_context (f : Frame) (p : Part) : (setSubstitute f p).context = p.context := by simp [setSubstitute]
@[simp] theorem setSubstitute_corners (f : Frame) (p : Part) : (setSubstitute f p).corners = p.corners := by simp [setSubstitute]
@[simp] theorem setSubstitute_control (f : Frame) (p : Part) : (setSubstitute f p).control = p.control := by simp [setSubstitute]
@[simp] theorem setSubstitute_schedule (f : Frame) (p : Part) : (setSubstitute f p).schedule = p.schedule := by simp [setSubstitute]
@[simp] theorem setSubstitute_selection (f : Frame) (p : Part) : (setSubstitute f p).selection = p.selection := by simp [setSubstitute]
@[simp] theorem setSubstitute_store (f : Frame) (p : Part) : (setSubstitute f p).store = p.store := by simp [setSubstitute]
@[simp] theorem setSubstitute_pwm (f : Frame) (p : Part) : (setSubstitute f p).pwm = p.pwm := by simp [setSubstitute]
@[simp] theorem setSubstitute_supply (f : Frame) (p : Part) : (setSubstitute f p).supply = p.supply := by simp [setSubstitute]
@[simp] theorem setSubstitute_portS (f : Frame) (p : Part) : (setSubstitute f p).portS = p.portS := by simp [setSubstitute]
@[simp] theorem setSubstitute_intervalAt (f : Frame) (p : Part) : (setSubstitute f p).intervalAt = p.intervalAt := by simp [setSubstitute]
@[simp] theorem setSubstitute_slot (f : Frame) (p : Part) : (setSubstitute f p).slot = p.slot := by simp [setSubstitute]
@[simp] theorem setSubstitute_params (f : Frame) (p : Part) : (setSubstitute f p).params = p.params := by simp [setSubstitute]
@[simp] theorem setSubstitute_events (f : Frame) (p : Part) : (setSubstitute f p).events = p.events := by simp [setSubstitute]
@[simp] theorem setSubstitute_globals (f : Frame) (p : Part) : (setSubstitute f p).globals = p.globals := by simp [setSubstitute]
@[simp] theorem setSubstitute_pins (f : Frame) (p : Part) : (setSubstitute f p).pins = p.pins := by simp [setSubstitute]
@[simp] theorem setSubstitute_corner (f : Frame) (d : Corner) (p : Part) : (setSubstitute f p).corner d = p.corner d := by simp [setSubstitute]

/-! ## answerHeld -/

@[simp] theorem answerHeld_now (result reason : Byte) (data : List Byte) (p : Part) : (answerHeld result reason data p).now = p.now := by unfold answerHeld; split <;> simp
@[simp] theorem answerHeld_straps (result reason : Byte) (data : List Byte) (p : Part) : (answerHeld result reason data p).straps = p.straps := by unfold answerHeld; split <;> simp
@[simp] theorem answerHeld_tracker (result reason : Byte) (data : List Byte) (p : Part) : (answerHeld result reason data p).tracker = p.tracker := by unfold answerHeld; split <;> simp
@[simp] theorem answerHeld_context (result reason : Byte) (data : List Byte) (p : Part) : (answerHeld result reason data p).context = p.context := by unfold answerHeld; split <;> simp
@[simp] theorem answerHeld_corners (result reason : Byte) (data : List Byte) (p : Part) : (answerHeld result reason data p).corners = p.corners := by unfold answerHeld; split <;> simp
@[simp] theorem answerHeld_control (result reason : Byte) (data : List Byte) (p : Part) : (answerHeld result reason data p).control = p.control := by unfold answerHeld; split <;> simp
@[simp] theorem answerHeld_schedule (result reason : Byte) (data : List Byte) (p : Part) : (answerHeld result reason data p).schedule = p.schedule := by unfold answerHeld; split <;> simp
@[simp] theorem answerHeld_selection (result reason : Byte) (data : List Byte) (p : Part) : (answerHeld result reason data p).selection = p.selection := by unfold answerHeld; split <;> simp
@[simp] theorem answerHeld_store (result reason : Byte) (data : List Byte) (p : Part) : (answerHeld result reason data p).store = p.store := by unfold answerHeld; split <;> simp
@[simp] theorem answerHeld_pwm (result reason : Byte) (data : List Byte) (p : Part) : (answerHeld result reason data p).pwm = p.pwm := by unfold answerHeld; split <;> simp
@[simp] theorem answerHeld_supply (result reason : Byte) (data : List Byte) (p : Part) : (answerHeld result reason data p).supply = p.supply := by unfold answerHeld; split <;> simp
@[simp] theorem answerHeld_portW (result reason : Byte) (data : List Byte) (p : Part) : (answerHeld result reason data p).portW = p.portW := by unfold answerHeld; split <;> simp
@[simp] theorem answerHeld_intervalAt (result reason : Byte) (data : List Byte) (p : Part) : (answerHeld result reason data p).intervalAt = p.intervalAt := by unfold answerHeld; split <;> simp
@[simp] theorem answerHeld_params (result reason : Byte) (data : List Byte) (p : Part) : (answerHeld result reason data p).params = p.params := by unfold answerHeld; split <;> simp
@[simp] theorem answerHeld_events (result reason : Byte) (data : List Byte) (p : Part) : (answerHeld result reason data p).events = p.events := by unfold answerHeld; split <;> simp
@[simp] theorem answerHeld_globals (result reason : Byte) (data : List Byte) (p : Part) : (answerHeld result reason data p).globals = p.globals := by unfold answerHeld; split <;> simp
@[simp] theorem answerHeld_pins (result reason : Byte) (data : List Byte) (p : Part) : (answerHeld result reason data p).pins = p.pins := by unfold answerHeld; split <;> simp
@[simp] theorem answerHeld_corner (result reason : Byte) (data : List Byte) (d : Corner) (p : Part) : (answerHeld result reason data p).corner d = p.corner d := by unfold answerHeld; split <;> simp

/-! ## unprime -/

@[simp] theorem unprime_now (c : Corner) (p : Part) : (unprime c p).now = p.now := by simp [unprime]
@[simp] theorem unprime_straps (c : Corner) (p : Part) : (unprime c p).straps = p.straps := by simp [unprime]
@[simp] theorem unprime_tracker (c : Corner) (p : Part) : (unprime c p).tracker = p.tracker := by simp [unprime]
@[simp] theorem unprime_context (c : Corner) (p : Part) : (unprime c p).context = p.context := by simp [unprime]
@[simp] theorem unprime_control (c : Corner) (p : Part) : (unprime c p).control = p.control := by simp [unprime]
@[simp] theorem unprime_schedule (c : Corner) (p : Part) : (unprime c p).schedule = p.schedule := by simp [unprime]
@[simp] theorem unprime_selection (c : Corner) (p : Part) : (unprime c p).selection = p.selection := by simp [unprime]
@[simp] theorem unprime_store (c : Corner) (p : Part) : (unprime c p).store = p.store := by simp [unprime]
@[simp] theorem unprime_pwm (c : Corner) (p : Part) : (unprime c p).pwm = p.pwm := by simp [unprime]
@[simp] theorem unprime_supply (c : Corner) (p : Part) : (unprime c p).supply = p.supply := by simp [unprime]
@[simp] theorem unprime_portS (c : Corner) (p : Part) : (unprime c p).portS = p.portS := by simp [unprime]
@[simp] theorem unprime_portW (c : Corner) (p : Part) : (unprime c p).portW = p.portW := by simp [unprime]
@[simp] theorem unprime_intervalAt (c : Corner) (p : Part) : (unprime c p).intervalAt = p.intervalAt := by simp [unprime]
@[simp] theorem unprime_link (c : Corner) (p : Part) : (unprime c p).link = p.link := by simp [unprime]
@[simp] theorem unprime_slot (c : Corner) (p : Part) : (unprime c p).slot = p.slot := by simp [unprime]
@[simp] theorem unprime_params (c : Corner) (p : Part) : (unprime c p).params = p.params := by simp [unprime]
@[simp] theorem unprime_events (c : Corner) (p : Part) : (unprime c p).events = p.events := by simp [unprime]
@[simp] theorem unprime_globals (c : Corner) (p : Part) : (unprime c p).globals = p.globals := by simp [unprime]
@[simp] theorem unprime_pins (c : Corner) (p : Part) : (unprime c p).pins = p.pins := by simp [unprime]
@[simp] theorem unprime_port (c : Corner) (r : Port) (p : Part) : (unprime c p).port r = p.port r := by simp [unprime]

/-! ## enterPassive -/

@[simp] theorem enterPassive_now (c : Corner) (p : Part) : (enterPassive c p).now = p.now := by simp [enterPassive]
@[simp] theorem enterPassive_straps (c : Corner) (p : Part) : (enterPassive c p).straps = p.straps := by simp [enterPassive]
@[simp] theorem enterPassive_tracker (c : Corner) (p : Part) : (enterPassive c p).tracker = p.tracker := by simp [enterPassive]
@[simp] theorem enterPassive_context (c : Corner) (p : Part) : (enterPassive c p).context = p.context := by simp [enterPassive]
@[simp] theorem enterPassive_control (c : Corner) (p : Part) : (enterPassive c p).control = p.control := by simp [enterPassive]
@[simp] theorem enterPassive_schedule (c : Corner) (p : Part) : (enterPassive c p).schedule = p.schedule := by simp [enterPassive]
@[simp] theorem enterPassive_selection (c : Corner) (p : Part) : (enterPassive c p).selection = p.selection := by simp [enterPassive]
@[simp] theorem enterPassive_store (c : Corner) (p : Part) : (enterPassive c p).store = p.store := by simp [enterPassive]
@[simp] theorem enterPassive_pwm (c : Corner) (p : Part) : (enterPassive c p).pwm = p.pwm := by simp [enterPassive]
@[simp] theorem enterPassive_supply (c : Corner) (p : Part) : (enterPassive c p).supply = p.supply := by simp [enterPassive]
@[simp] theorem enterPassive_portS (c : Corner) (p : Part) : (enterPassive c p).portS = p.portS := by simp [enterPassive]
@[simp] theorem enterPassive_portW (c : Corner) (p : Part) : (enterPassive c p).portW = p.portW := by simp [enterPassive]
@[simp] theorem enterPassive_intervalAt (c : Corner) (p : Part) : (enterPassive c p).intervalAt = p.intervalAt := by simp [enterPassive]
@[simp] theorem enterPassive_link (c : Corner) (p : Part) : (enterPassive c p).link = p.link := by simp [enterPassive]
@[simp] theorem enterPassive_slot (c : Corner) (p : Part) : (enterPassive c p).slot = p.slot := by simp [enterPassive]
@[simp] theorem enterPassive_params (c : Corner) (p : Part) : (enterPassive c p).params = p.params := by simp [enterPassive]
@[simp] theorem enterPassive_globals (c : Corner) (p : Part) : (enterPassive c p).globals = p.globals := by simp [enterPassive]
@[simp] theorem enterPassive_pins (c : Corner) (p : Part) : (enterPassive c p).pins = p.pins := by simp [enterPassive]
@[simp] theorem enterPassive_port (c : Corner) (r : Port) (p : Part) : (enterPassive c p).port r = p.port r := by simp [enterPassive]

/-! ## returnToControl -/

@[simp] theorem returnToControl_now (c : Corner) (p : Part) : (returnToControl c p).now = p.now := by simp [returnToControl]
@[simp] theorem returnToControl_straps (c : Corner) (p : Part) : (returnToControl c p).straps = p.straps := by simp [returnToControl]
@[simp] theorem returnToControl_tracker (c : Corner) (p : Part) : (returnToControl c p).tracker = p.tracker := by simp [returnToControl]
@[simp] theorem returnToControl_context (c : Corner) (p : Part) : (returnToControl c p).context = p.context := by simp [returnToControl]
@[simp] theorem returnToControl_control (c : Corner) (p : Part) : (returnToControl c p).control = p.control := by simp [returnToControl]
@[simp] theorem returnToControl_schedule (c : Corner) (p : Part) : (returnToControl c p).schedule = p.schedule := by simp [returnToControl]
@[simp] theorem returnToControl_selection (c : Corner) (p : Part) : (returnToControl c p).selection = p.selection := by simp [returnToControl]
@[simp] theorem returnToControl_store (c : Corner) (p : Part) : (returnToControl c p).store = p.store := by simp [returnToControl]
@[simp] theorem returnToControl_pwm (c : Corner) (p : Part) : (returnToControl c p).pwm = p.pwm := by simp [returnToControl]
@[simp] theorem returnToControl_supply (c : Corner) (p : Part) : (returnToControl c p).supply = p.supply := by simp [returnToControl]
@[simp] theorem returnToControl_portS (c : Corner) (p : Part) : (returnToControl c p).portS = p.portS := by simp [returnToControl]
@[simp] theorem returnToControl_portW (c : Corner) (p : Part) : (returnToControl c p).portW = p.portW := by simp [returnToControl]
@[simp] theorem returnToControl_intervalAt (c : Corner) (p : Part) : (returnToControl c p).intervalAt = p.intervalAt := by simp [returnToControl]
@[simp] theorem returnToControl_link (c : Corner) (p : Part) : (returnToControl c p).link = p.link := by simp [returnToControl]
@[simp] theorem returnToControl_slot (c : Corner) (p : Part) : (returnToControl c p).slot = p.slot := by simp [returnToControl]
@[simp] theorem returnToControl_params (c : Corner) (p : Part) : (returnToControl c p).params = p.params := by simp [returnToControl]
@[simp] theorem returnToControl_events (c : Corner) (p : Part) : (returnToControl c p).events = p.events := by simp [returnToControl]
@[simp] theorem returnToControl_globals (c : Corner) (p : Part) : (returnToControl c p).globals = p.globals := by simp [returnToControl]
@[simp] theorem returnToControl_pins (c : Corner) (p : Part) : (returnToControl c p).pins = p.pins := by simp [returnToControl]
@[simp] theorem returnToControl_port (c : Corner) (r : Port) (p : Part) : (returnToControl c p).port r = p.port r := by simp [returnToControl]

/-! ## supervise -/

@[simp] theorem supervise_now (c : Corner) (p : Part) : (supervise c p).now = p.now := by unfold supervise; split <;> first | rfl | (split <;> simp)
@[simp] theorem supervise_straps (c : Corner) (p : Part) : (supervise c p).straps = p.straps := by unfold supervise; split <;> first | rfl | (split <;> simp)
@[simp] theorem supervise_tracker (c : Corner) (p : Part) : (supervise c p).tracker = p.tracker := by unfold supervise; split <;> first | rfl | (split <;> simp)
@[simp] theorem supervise_context (c : Corner) (p : Part) : (supervise c p).context = p.context := by unfold supervise; split <;> first | rfl | (split <;> simp)
@[simp] theorem supervise_control (c : Corner) (p : Part) : (supervise c p).control = p.control := by unfold supervise; split <;> first | rfl | (split <;> simp)
@[simp] theorem supervise_schedule (c : Corner) (p : Part) : (supervise c p).schedule = p.schedule := by unfold supervise; split <;> first | rfl | (split <;> simp)
@[simp] theorem supervise_selection (c : Corner) (p : Part) : (supervise c p).selection = p.selection := by unfold supervise; split <;> first | rfl | (split <;> simp)
@[simp] theorem supervise_store (c : Corner) (p : Part) : (supervise c p).store = p.store := by unfold supervise; split <;> first | rfl | (split <;> simp)
@[simp] theorem supervise_pwm (c : Corner) (p : Part) : (supervise c p).pwm = p.pwm := by unfold supervise; split <;> first | rfl | (split <;> simp)
@[simp] theorem supervise_supply (c : Corner) (p : Part) : (supervise c p).supply = p.supply := by unfold supervise; split <;> first | rfl | (split <;> simp)
@[simp] theorem supervise_portS (c : Corner) (p : Part) : (supervise c p).portS = p.portS := by unfold supervise; split <;> first | rfl | (split <;> simp)
@[simp] theorem supervise_portW (c : Corner) (p : Part) : (supervise c p).portW = p.portW := by unfold supervise; split <;> first | rfl | (split <;> simp)
@[simp] theorem supervise_intervalAt (c : Corner) (p : Part) : (supervise c p).intervalAt = p.intervalAt := by unfold supervise; split <;> first | rfl | (split <;> simp)
@[simp] theorem supervise_link (c : Corner) (p : Part) : (supervise c p).link = p.link := by unfold supervise; split <;> first | rfl | (split <;> simp)
@[simp] theorem supervise_slot (c : Corner) (p : Part) : (supervise c p).slot = p.slot := by unfold supervise; split <;> first | rfl | (split <;> simp)
@[simp] theorem supervise_params (c : Corner) (p : Part) : (supervise c p).params = p.params := by unfold supervise; split <;> first | rfl | (split <;> simp)
@[simp] theorem supervise_globals (c : Corner) (p : Part) : (supervise c p).globals = p.globals := by unfold supervise; split <;> first | rfl | (split <;> simp)
@[simp] theorem supervise_pins (c : Corner) (p : Part) : (supervise c p).pins = p.pins := by unfold supervise; split <;> first | rfl | (split <;> simp)
@[simp] theorem supervise_port (c : Corner) (r : Port) (p : Part) : (supervise c p).port r = p.port r := by unfold supervise; split <;> first | rfl | (split <;> simp)

/-! ## putReason -/

@[simp] theorem putReason_now (which : Reason) (present : Bool) (c : Corner) (p : Part) : (putReason which present c p).now = p.now := by simp [putReason]
@[simp] theorem putReason_straps (which : Reason) (present : Bool) (c : Corner) (p : Part) : (putReason which present c p).straps = p.straps := by simp [putReason]
@[simp] theorem putReason_tracker (which : Reason) (present : Bool) (c : Corner) (p : Part) : (putReason which present c p).tracker = p.tracker := by simp [putReason]
@[simp] theorem putReason_context (which : Reason) (present : Bool) (c : Corner) (p : Part) : (putReason which present c p).context = p.context := by simp [putReason]
@[simp] theorem putReason_control (which : Reason) (present : Bool) (c : Corner) (p : Part) : (putReason which present c p).control = p.control := by simp [putReason]
@[simp] theorem putReason_schedule (which : Reason) (present : Bool) (c : Corner) (p : Part) : (putReason which present c p).schedule = p.schedule := by simp [putReason]
@[simp] theorem putReason_selection (which : Reason) (present : Bool) (c : Corner) (p : Part) : (putReason which present c p).selection = p.selection := by simp [putReason]
@[simp] theorem putReason_store (which : Reason) (present : Bool) (c : Corner) (p : Part) : (putReason which present c p).store = p.store := by simp [putReason]
@[simp] theorem putReason_pwm (which : Reason) (present : Bool) (c : Corner) (p : Part) : (putReason which present c p).pwm = p.pwm := by simp [putReason]
@[simp] theorem putReason_supply (which : Reason) (present : Bool) (c : Corner) (p : Part) : (putReason which present c p).supply = p.supply := by simp [putReason]
@[simp] theorem putReason_portS (which : Reason) (present : Bool) (c : Corner) (p : Part) : (putReason which present c p).portS = p.portS := by simp [putReason]
@[simp] theorem putReason_portW (which : Reason) (present : Bool) (c : Corner) (p : Part) : (putReason which present c p).portW = p.portW := by simp [putReason]
@[simp] theorem putReason_intervalAt (which : Reason) (present : Bool) (c : Corner) (p : Part) : (putReason which present c p).intervalAt = p.intervalAt := by simp [putReason]
@[simp] theorem putReason_link (which : Reason) (present : Bool) (c : Corner) (p : Part) : (putReason which present c p).link = p.link := by simp [putReason]
@[simp] theorem putReason_slot (which : Reason) (present : Bool) (c : Corner) (p : Part) : (putReason which present c p).slot = p.slot := by simp [putReason]
@[simp] theorem putReason_params (which : Reason) (present : Bool) (c : Corner) (p : Part) : (putReason which present c p).params = p.params := by simp [putReason]
@[simp] theorem putReason_globals (which : Reason) (present : Bool) (c : Corner) (p : Part) : (putReason which present c p).globals = p.globals := by simp [putReason]
@[simp] theorem putReason_pins (which : Reason) (present : Bool) (c : Corner) (p : Part) : (putReason which present c p).pins = p.pins := by simp [putReason]
@[simp] theorem putReason_port (which : Reason) (present : Bool) (c : Corner) (r : Port) (p : Part) : (putReason which present c p).port r = p.port r := by simp [putReason]

/-! ## enterUnloaded -/

@[simp] theorem enterUnloaded_now (p : Part) : (enterUnloaded p).now = p.now := by simp [enterUnloaded, forCorners]
@[simp] theorem enterUnloaded_straps (p : Part) : (enterUnloaded p).straps = p.straps := by simp [enterUnloaded, forCorners]
@[simp] theorem enterUnloaded_tracker (p : Part) : (enterUnloaded p).tracker = p.tracker := by simp [enterUnloaded, forCorners]
@[simp] theorem enterUnloaded_context (p : Part) : (enterUnloaded p).context = p.context := by simp [enterUnloaded, forCorners]
@[simp] theorem enterUnloaded_schedule (p : Part) : (enterUnloaded p).schedule = p.schedule := by simp [enterUnloaded, forCorners]
@[simp] theorem enterUnloaded_selection (p : Part) : (enterUnloaded p).selection = p.selection := by simp [enterUnloaded, forCorners]
@[simp] theorem enterUnloaded_store (p : Part) : (enterUnloaded p).store = p.store := by simp [enterUnloaded, forCorners]
@[simp] theorem enterUnloaded_pwm (p : Part) : (enterUnloaded p).pwm = p.pwm := by simp [enterUnloaded, forCorners]
@[simp] theorem enterUnloaded_supply (p : Part) : (enterUnloaded p).supply = p.supply := by simp [enterUnloaded, forCorners]
@[simp] theorem enterUnloaded_portS (p : Part) : (enterUnloaded p).portS = p.portS := by simp [enterUnloaded, forCorners]
@[simp] theorem enterUnloaded_portW (p : Part) : (enterUnloaded p).portW = p.portW := by simp [enterUnloaded, forCorners]
@[simp] theorem enterUnloaded_intervalAt (p : Part) : (enterUnloaded p).intervalAt = p.intervalAt := by simp [enterUnloaded, forCorners]
@[simp] theorem enterUnloaded_link (p : Part) : (enterUnloaded p).link = p.link := by simp [enterUnloaded, forCorners]
@[simp] theorem enterUnloaded_slot (p : Part) : (enterUnloaded p).slot = p.slot := by simp [enterUnloaded, forCorners]
@[simp] theorem enterUnloaded_params (p : Part) : (enterUnloaded p).params = p.params := by simp [enterUnloaded, forCorners]
@[simp] theorem enterUnloaded_events (p : Part) : (enterUnloaded p).events = p.events := by simp [enterUnloaded, forCorners]
@[simp] theorem enterUnloaded_globals (p : Part) : (enterUnloaded p).globals = p.globals := by simp [enterUnloaded, forCorners]
@[simp] theorem enterUnloaded_pins (p : Part) : (enterUnloaded p).pins = p.pins := by simp [enterUnloaded, forCorners]
@[simp] theorem enterUnloaded_port (r : Port) (p : Part) : (enterUnloaded p).port r = p.port r := by simp [enterUnloaded, forCorners]

/-! ## judgeLoaded -/

@[simp] theorem judgeLoaded_now (p : Part) : (judgeLoaded p).now = p.now := by unfold judgeLoaded; split <;> first | rfl | (split <;> simp)
@[simp] theorem judgeLoaded_straps (p : Part) : (judgeLoaded p).straps = p.straps := by unfold judgeLoaded; split <;> first | rfl | (split <;> simp)
@[simp] theorem judgeLoaded_tracker (p : Part) : (judgeLoaded p).tracker = p.tracker := by unfold judgeLoaded; split <;> first | rfl | (split <;> simp)
@[simp] theorem judgeLoaded_context (p : Part) : (judgeLoaded p).context = p.context := by unfold judgeLoaded; split <;> first | rfl | (split <;> simp)
@[simp] theorem judgeLoaded_schedule (p : Part) : (judgeLoaded p).schedule = p.schedule := by unfold judgeLoaded; split <;> first | rfl | (split <;> simp)
@[simp] theorem judgeLoaded_selection (p : Part) : (judgeLoaded p).selection = p.selection := by unfold judgeLoaded; split <;> first | rfl | (split <;> simp)
@[simp] theorem judgeLoaded_store (p : Part) : (judgeLoaded p).store = p.store := by unfold judgeLoaded; split <;> first | rfl | (split <;> simp)
@[simp] theorem judgeLoaded_pwm (p : Part) : (judgeLoaded p).pwm = p.pwm := by unfold judgeLoaded; split <;> first | rfl | (split <;> simp)
@[simp] theorem judgeLoaded_supply (p : Part) : (judgeLoaded p).supply = p.supply := by unfold judgeLoaded; split <;> first | rfl | (split <;> simp)
@[simp] theorem judgeLoaded_portS (p : Part) : (judgeLoaded p).portS = p.portS := by unfold judgeLoaded; split <;> first | rfl | (split <;> simp)
@[simp] theorem judgeLoaded_portW (p : Part) : (judgeLoaded p).portW = p.portW := by unfold judgeLoaded; split <;> first | rfl | (split <;> simp)
@[simp] theorem judgeLoaded_intervalAt (p : Part) : (judgeLoaded p).intervalAt = p.intervalAt := by unfold judgeLoaded; split <;> first | rfl | (split <;> simp)
@[simp] theorem judgeLoaded_link (p : Part) : (judgeLoaded p).link = p.link := by unfold judgeLoaded; split <;> first | rfl | (split <;> simp)
@[simp] theorem judgeLoaded_slot (p : Part) : (judgeLoaded p).slot = p.slot := by unfold judgeLoaded; split <;> first | rfl | (split <;> simp)
@[simp] theorem judgeLoaded_params (p : Part) : (judgeLoaded p).params = p.params := by unfold judgeLoaded; split <;> first | rfl | (split <;> simp)
@[simp] theorem judgeLoaded_events (p : Part) : (judgeLoaded p).events = p.events := by unfold judgeLoaded; split <;> first | rfl | (split <;> simp)
@[simp] theorem judgeLoaded_globals (p : Part) : (judgeLoaded p).globals = p.globals := by unfold judgeLoaded; split <;> first | rfl | (split <;> simp)
@[simp] theorem judgeLoaded_pins (p : Part) : (judgeLoaded p).pins = p.pins := by unfold judgeLoaded; split <;> first | rfl | (split <;> simp)
@[simp] theorem judgeLoaded_port (r : Port) (p : Part) : (judgeLoaded p).port r = p.port r := by unfold judgeLoaded; split <;> first | rfl | (split <;> simp)

/-! ## settleUnengaged -/

@[simp] theorem settleUnengaged_now (p : Part) : (settleUnengaged p).now = p.now := by unfold settleUnengaged; split <;> simp
@[simp] theorem settleUnengaged_straps (p : Part) : (settleUnengaged p).straps = p.straps := by unfold settleUnengaged; split <;> simp
@[simp] theorem settleUnengaged_tracker (p : Part) : (settleUnengaged p).tracker = p.tracker := by unfold settleUnengaged; split <;> simp
@[simp] theorem settleUnengaged_context (p : Part) : (settleUnengaged p).context = p.context := by unfold settleUnengaged; split <;> simp
@[simp] theorem settleUnengaged_schedule (p : Part) : (settleUnengaged p).schedule = p.schedule := by unfold settleUnengaged; split <;> simp
@[simp] theorem settleUnengaged_selection (p : Part) : (settleUnengaged p).selection = p.selection := by unfold settleUnengaged; split <;> simp
@[simp] theorem settleUnengaged_store (p : Part) : (settleUnengaged p).store = p.store := by unfold settleUnengaged; split <;> simp
@[simp] theorem settleUnengaged_pwm (p : Part) : (settleUnengaged p).pwm = p.pwm := by unfold settleUnengaged; split <;> simp
@[simp] theorem settleUnengaged_supply (p : Part) : (settleUnengaged p).supply = p.supply := by unfold settleUnengaged; split <;> simp
@[simp] theorem settleUnengaged_portS (p : Part) : (settleUnengaged p).portS = p.portS := by unfold settleUnengaged; split <;> simp
@[simp] theorem settleUnengaged_portW (p : Part) : (settleUnengaged p).portW = p.portW := by unfold settleUnengaged; split <;> simp
@[simp] theorem settleUnengaged_intervalAt (p : Part) : (settleUnengaged p).intervalAt = p.intervalAt := by unfold settleUnengaged; split <;> simp
@[simp] theorem settleUnengaged_link (p : Part) : (settleUnengaged p).link = p.link := by unfold settleUnengaged; split <;> simp
@[simp] theorem settleUnengaged_slot (p : Part) : (settleUnengaged p).slot = p.slot := by unfold settleUnengaged; split <;> simp
@[simp] theorem settleUnengaged_params (p : Part) : (settleUnengaged p).params = p.params := by unfold settleUnengaged; split <;> simp
@[simp] theorem settleUnengaged_events (p : Part) : (settleUnengaged p).events = p.events := by unfold settleUnengaged; split <;> simp
@[simp] theorem settleUnengaged_globals (p : Part) : (settleUnengaged p).globals = p.globals := by unfold settleUnengaged; split <;> simp
@[simp] theorem settleUnengaged_pins (p : Part) : (settleUnengaged p).pins = p.pins := by unfold settleUnengaged; split <;> simp
@[simp] theorem settleUnengaged_port (r : Port) (p : Part) : (settleUnengaged p).port r = p.port r := by unfold settleUnengaged; split <;> simp

/-! ## judgeReleased -/

@[simp] theorem judgeReleased_now (p : Part) : (judgeReleased p).now = p.now := by unfold judgeReleased; split <;> simp
@[simp] theorem judgeReleased_straps (p : Part) : (judgeReleased p).straps = p.straps := by unfold judgeReleased; split <;> simp
@[simp] theorem judgeReleased_tracker (p : Part) : (judgeReleased p).tracker = p.tracker := by unfold judgeReleased; split <;> simp
@[simp] theorem judgeReleased_context (p : Part) : (judgeReleased p).context = p.context := by unfold judgeReleased; split <;> simp
@[simp] theorem judgeReleased_schedule (p : Part) : (judgeReleased p).schedule = p.schedule := by unfold judgeReleased; split <;> simp
@[simp] theorem judgeReleased_selection (p : Part) : (judgeReleased p).selection = p.selection := by unfold judgeReleased; split <;> simp
@[simp] theorem judgeReleased_store (p : Part) : (judgeReleased p).store = p.store := by unfold judgeReleased; split <;> simp
@[simp] theorem judgeReleased_pwm (p : Part) : (judgeReleased p).pwm = p.pwm := by unfold judgeReleased; split <;> simp
@[simp] theorem judgeReleased_supply (p : Part) : (judgeReleased p).supply = p.supply := by unfold judgeReleased; split <;> simp
@[simp] theorem judgeReleased_portS (p : Part) : (judgeReleased p).portS = p.portS := by unfold judgeReleased; split <;> simp
@[simp] theorem judgeReleased_portW (p : Part) : (judgeReleased p).portW = p.portW := by unfold judgeReleased; split <;> simp
@[simp] theorem judgeReleased_intervalAt (p : Part) : (judgeReleased p).intervalAt = p.intervalAt := by unfold judgeReleased; split <;> simp
@[simp] theorem judgeReleased_link (p : Part) : (judgeReleased p).link = p.link := by unfold judgeReleased; split <;> simp
@[simp] theorem judgeReleased_slot (p : Part) : (judgeReleased p).slot = p.slot := by unfold judgeReleased; split <;> simp
@[simp] theorem judgeReleased_params (p : Part) : (judgeReleased p).params = p.params := by unfold judgeReleased; split <;> simp
@[simp] theorem judgeReleased_events (p : Part) : (judgeReleased p).events = p.events := by unfold judgeReleased; split <;> simp
@[simp] theorem judgeReleased_globals (p : Part) : (judgeReleased p).globals = p.globals := by unfold judgeReleased; split <;> simp
@[simp] theorem judgeReleased_pins (p : Part) : (judgeReleased p).pins = p.pins := by unfold judgeReleased; split <;> simp
@[simp] theorem judgeReleased_port (r : Port) (p : Part) : (judgeReleased p).port r = p.port r := by unfold judgeReleased; split <;> simp

/-! ## corruptActive -/

@[simp] theorem corruptActive_now (c : Corner) (id : BankId) (p : Part) : (corruptActive c id p).now = p.now := by simp [corruptActive]
@[simp] theorem corruptActive_straps (c : Corner) (id : BankId) (p : Part) : (corruptActive c id p).straps = p.straps := by simp [corruptActive]
@[simp] theorem corruptActive_tracker (c : Corner) (id : BankId) (p : Part) : (corruptActive c id p).tracker = p.tracker := by simp [corruptActive]
@[simp] theorem corruptActive_context (c : Corner) (id : BankId) (p : Part) : (corruptActive c id p).context = p.context := by simp [corruptActive]
@[simp] theorem corruptActive_schedule (c : Corner) (id : BankId) (p : Part) : (corruptActive c id p).schedule = p.schedule := by simp [corruptActive]
@[simp] theorem corruptActive_selection (c : Corner) (id : BankId) (p : Part) : (corruptActive c id p).selection = p.selection := by simp [corruptActive]
@[simp] theorem corruptActive_store (c : Corner) (id : BankId) (p : Part) : (corruptActive c id p).store = p.store := by simp [corruptActive]
@[simp] theorem corruptActive_pwm (c : Corner) (id : BankId) (p : Part) : (corruptActive c id p).pwm = p.pwm := by simp [corruptActive]
@[simp] theorem corruptActive_supply (c : Corner) (id : BankId) (p : Part) : (corruptActive c id p).supply = p.supply := by simp [corruptActive]
@[simp] theorem corruptActive_portS (c : Corner) (id : BankId) (p : Part) : (corruptActive c id p).portS = p.portS := by simp [corruptActive]
@[simp] theorem corruptActive_portW (c : Corner) (id : BankId) (p : Part) : (corruptActive c id p).portW = p.portW := by simp [corruptActive]
@[simp] theorem corruptActive_intervalAt (c : Corner) (id : BankId) (p : Part) : (corruptActive c id p).intervalAt = p.intervalAt := by simp [corruptActive]
@[simp] theorem corruptActive_link (c : Corner) (id : BankId) (p : Part) : (corruptActive c id p).link = p.link := by simp [corruptActive]
@[simp] theorem corruptActive_slot (c : Corner) (id : BankId) (p : Part) : (corruptActive c id p).slot = p.slot := by simp [corruptActive]
@[simp] theorem corruptActive_params (c : Corner) (id : BankId) (p : Part) : (corruptActive c id p).params = p.params := by simp [corruptActive]
@[simp] theorem corruptActive_globals (c : Corner) (id : BankId) (p : Part) : (corruptActive c id p).globals = p.globals := by simp [corruptActive]
@[simp] theorem corruptActive_pins (c : Corner) (id : BankId) (p : Part) : (corruptActive c id p).pins = p.pins := by simp [corruptActive]
@[simp] theorem corruptActive_port (c : Corner) (id : BankId) (r : Port) (p : Part) : (corruptActive c id p).port r = p.port r := by simp [corruptActive]

/-! ## swapEffect -/

@[simp] theorem swapEffect_now (c : Corner) (p : Part) : (swapEffect c p).now = p.now := by simp [swapEffect]
@[simp] theorem swapEffect_straps (c : Corner) (p : Part) : (swapEffect c p).straps = p.straps := by simp [swapEffect]
@[simp] theorem swapEffect_tracker (c : Corner) (p : Part) : (swapEffect c p).tracker = p.tracker := by simp [swapEffect]
@[simp] theorem swapEffect_context (c : Corner) (p : Part) : (swapEffect c p).context = p.context := by simp [swapEffect]
@[simp] theorem swapEffect_schedule (c : Corner) (p : Part) : (swapEffect c p).schedule = p.schedule := by simp [swapEffect]
@[simp] theorem swapEffect_selection (c : Corner) (p : Part) : (swapEffect c p).selection = p.selection := by simp [swapEffect]
@[simp] theorem swapEffect_store (c : Corner) (p : Part) : (swapEffect c p).store = p.store := by simp [swapEffect]
@[simp] theorem swapEffect_pwm (c : Corner) (p : Part) : (swapEffect c p).pwm = p.pwm := by simp [swapEffect]
@[simp] theorem swapEffect_supply (c : Corner) (p : Part) : (swapEffect c p).supply = p.supply := by simp [swapEffect]
@[simp] theorem swapEffect_portS (c : Corner) (p : Part) : (swapEffect c p).portS = p.portS := by simp [swapEffect]
@[simp] theorem swapEffect_portW (c : Corner) (p : Part) : (swapEffect c p).portW = p.portW := by simp [swapEffect]
@[simp] theorem swapEffect_intervalAt (c : Corner) (p : Part) : (swapEffect c p).intervalAt = p.intervalAt := by simp [swapEffect]
@[simp] theorem swapEffect_link (c : Corner) (p : Part) : (swapEffect c p).link = p.link := by simp [swapEffect]
@[simp] theorem swapEffect_slot (c : Corner) (p : Part) : (swapEffect c p).slot = p.slot := by simp [swapEffect]
@[simp] theorem swapEffect_params (c : Corner) (p : Part) : (swapEffect c p).params = p.params := by simp [swapEffect]
@[simp] theorem swapEffect_globals (c : Corner) (p : Part) : (swapEffect c p).globals = p.globals := by simp [swapEffect]
@[simp] theorem swapEffect_pins (c : Corner) (p : Part) : (swapEffect c p).pins = p.pins := by simp [swapEffect]
@[simp] theorem swapEffect_port (c : Corner) (r : Port) (p : Part) : (swapEffect c p).port r = p.port r := by simp [swapEffect]

/-! ## endTest -/

@[simp] theorem endTest_now (c : Corner) (x : TestOutcome) (r : TestRecord) (p : Part) : (endTest c x r p).now = p.now := by simp [endTest]
@[simp] theorem endTest_straps (c : Corner) (x : TestOutcome) (r : TestRecord) (p : Part) : (endTest c x r p).straps = p.straps := by simp [endTest]
@[simp] theorem endTest_tracker (c : Corner) (x : TestOutcome) (r : TestRecord) (p : Part) : (endTest c x r p).tracker = p.tracker := by simp [endTest]
@[simp] theorem endTest_context (c : Corner) (x : TestOutcome) (r : TestRecord) (p : Part) : (endTest c x r p).context = p.context := by simp [endTest]
@[simp] theorem endTest_control (c : Corner) (x : TestOutcome) (r : TestRecord) (p : Part) : (endTest c x r p).control = p.control := by simp [endTest]
@[simp] theorem endTest_schedule (c : Corner) (x : TestOutcome) (r : TestRecord) (p : Part) : (endTest c x r p).schedule = p.schedule := by simp [endTest]
@[simp] theorem endTest_selection (c : Corner) (x : TestOutcome) (r : TestRecord) (p : Part) : (endTest c x r p).selection = p.selection := by simp [endTest]
@[simp] theorem endTest_store (c : Corner) (x : TestOutcome) (r : TestRecord) (p : Part) : (endTest c x r p).store = p.store := by simp [endTest]
@[simp] theorem endTest_pwm (c : Corner) (x : TestOutcome) (r : TestRecord) (p : Part) : (endTest c x r p).pwm = p.pwm := by simp [endTest]
@[simp] theorem endTest_supply (c : Corner) (x : TestOutcome) (r : TestRecord) (p : Part) : (endTest c x r p).supply = p.supply := by simp [endTest]
@[simp] theorem endTest_portW (c : Corner) (x : TestOutcome) (r : TestRecord) (p : Part) : (endTest c x r p).portW = p.portW := by simp [endTest]
@[simp] theorem endTest_intervalAt (c : Corner) (x : TestOutcome) (r : TestRecord) (p : Part) : (endTest c x r p).intervalAt = p.intervalAt := by simp [endTest]
@[simp] theorem endTest_params (c : Corner) (x : TestOutcome) (r : TestRecord) (p : Part) : (endTest c x r p).params = p.params := by simp [endTest]
@[simp] theorem endTest_events (c : Corner) (x : TestOutcome) (r : TestRecord) (p : Part) : (endTest c x r p).events = p.events := by simp [endTest]
@[simp] theorem endTest_globals (c : Corner) (x : TestOutcome) (r : TestRecord) (p : Part) : (endTest c x r p).globals = p.globals := by simp [endTest]
@[simp] theorem endTest_pins (c : Corner) (x : TestOutcome) (r : TestRecord) (p : Part) : (endTest c x r p).pins = p.pins := by simp [endTest]

/-! ## enterFault -/

@[simp] theorem enterFault_now (c : Corner) (kind : FaultKind) (p : Part) : (enterFault c kind p).now = p.now := by simp [enterFault]
@[simp] theorem enterFault_straps (c : Corner) (kind : FaultKind) (p : Part) : (enterFault c kind p).straps = p.straps := by simp [enterFault]
@[simp] theorem enterFault_tracker (c : Corner) (kind : FaultKind) (p : Part) : (enterFault c kind p).tracker = p.tracker := by simp [enterFault]
@[simp] theorem enterFault_context (c : Corner) (kind : FaultKind) (p : Part) : (enterFault c kind p).context = p.context := by simp [enterFault]
@[simp] theorem enterFault_schedule (c : Corner) (kind : FaultKind) (p : Part) : (enterFault c kind p).schedule = p.schedule := by simp [enterFault]
@[simp] theorem enterFault_selection (c : Corner) (kind : FaultKind) (p : Part) : (enterFault c kind p).selection = p.selection := by simp [enterFault]
@[simp] theorem enterFault_store (c : Corner) (kind : FaultKind) (p : Part) : (enterFault c kind p).store = p.store := by simp [enterFault]
@[simp] theorem enterFault_pwm (c : Corner) (kind : FaultKind) (p : Part) : (enterFault c kind p).pwm = p.pwm := by simp [enterFault]
@[simp] theorem enterFault_supply (c : Corner) (kind : FaultKind) (p : Part) : (enterFault c kind p).supply = p.supply := by simp [enterFault]
@[simp] theorem enterFault_portS (c : Corner) (kind : FaultKind) (p : Part) : (enterFault c kind p).portS = p.portS := by simp [enterFault]
@[simp] theorem enterFault_portW (c : Corner) (kind : FaultKind) (p : Part) : (enterFault c kind p).portW = p.portW := by simp [enterFault]
@[simp] theorem enterFault_intervalAt (c : Corner) (kind : FaultKind) (p : Part) : (enterFault c kind p).intervalAt = p.intervalAt := by simp [enterFault]
@[simp] theorem enterFault_link (c : Corner) (kind : FaultKind) (p : Part) : (enterFault c kind p).link = p.link := by simp [enterFault]
@[simp] theorem enterFault_slot (c : Corner) (kind : FaultKind) (p : Part) : (enterFault c kind p).slot = p.slot := by simp [enterFault]
@[simp] theorem enterFault_params (c : Corner) (kind : FaultKind) (p : Part) : (enterFault c kind p).params = p.params := by simp [enterFault]
@[simp] theorem enterFault_globals (c : Corner) (kind : FaultKind) (p : Part) : (enterFault c kind p).globals = p.globals := by simp [enterFault]
@[simp] theorem enterFault_pins (c : Corner) (kind : FaultKind) (p : Part) : (enterFault c kind p).pins = p.pins := by simp [enterFault]
@[simp] theorem enterFault_port (c : Corner) (kind : FaultKind) (r : Port) (p : Part) : (enterFault c kind p).port r = p.port r := by simp [enterFault]

/-! ## suspicion -/

@[simp] theorem suspicion_now (c : Corner) (kind : FaultKind) (p : Part) : (suspicion c kind p).now = p.now := by
  unfold suspicion
  dsimp only
  split
  · simp
  · split <;> simp
@[simp] theorem suspicion_straps (c : Corner) (kind : FaultKind) (p : Part) : (suspicion c kind p).straps = p.straps := by
  unfold suspicion
  dsimp only
  split
  · simp
  · split <;> simp
@[simp] theorem suspicion_tracker (c : Corner) (kind : FaultKind) (p : Part) : (suspicion c kind p).tracker = p.tracker := by
  unfold suspicion
  dsimp only
  split
  · simp
  · split <;> simp
@[simp] theorem suspicion_context (c : Corner) (kind : FaultKind) (p : Part) : (suspicion c kind p).context = p.context := by
  unfold suspicion
  dsimp only
  split
  · simp
  · split <;> simp
@[simp] theorem suspicion_schedule (c : Corner) (kind : FaultKind) (p : Part) : (suspicion c kind p).schedule = p.schedule := by
  unfold suspicion
  dsimp only
  split
  · simp
  · split <;> simp
@[simp] theorem suspicion_selection (c : Corner) (kind : FaultKind) (p : Part) : (suspicion c kind p).selection = p.selection := by
  unfold suspicion
  dsimp only
  split
  · simp
  · split <;> simp
@[simp] theorem suspicion_store (c : Corner) (kind : FaultKind) (p : Part) : (suspicion c kind p).store = p.store := by
  unfold suspicion
  dsimp only
  split
  · simp
  · split <;> simp
@[simp] theorem suspicion_pwm (c : Corner) (kind : FaultKind) (p : Part) : (suspicion c kind p).pwm = p.pwm := by
  unfold suspicion
  dsimp only
  split
  · simp
  · split <;> simp
@[simp] theorem suspicion_supply (c : Corner) (kind : FaultKind) (p : Part) : (suspicion c kind p).supply = p.supply := by
  unfold suspicion
  dsimp only
  split
  · simp
  · split <;> simp
@[simp] theorem suspicion_portS (c : Corner) (kind : FaultKind) (p : Part) : (suspicion c kind p).portS = p.portS := by
  unfold suspicion
  dsimp only
  split
  · simp
  · split <;> simp
@[simp] theorem suspicion_portW (c : Corner) (kind : FaultKind) (p : Part) : (suspicion c kind p).portW = p.portW := by
  unfold suspicion
  dsimp only
  split
  · simp
  · split <;> simp
@[simp] theorem suspicion_intervalAt (c : Corner) (kind : FaultKind) (p : Part) : (suspicion c kind p).intervalAt = p.intervalAt := by
  unfold suspicion
  dsimp only
  split
  · simp
  · split <;> simp
@[simp] theorem suspicion_link (c : Corner) (kind : FaultKind) (p : Part) : (suspicion c kind p).link = p.link := by
  unfold suspicion
  dsimp only
  split
  · simp
  · split <;> simp
@[simp] theorem suspicion_slot (c : Corner) (kind : FaultKind) (p : Part) : (suspicion c kind p).slot = p.slot := by
  unfold suspicion
  dsimp only
  split
  · simp
  · split <;> simp
@[simp] theorem suspicion_params (c : Corner) (kind : FaultKind) (p : Part) : (suspicion c kind p).params = p.params := by
  unfold suspicion
  dsimp only
  split
  · simp
  · split <;> simp
@[simp] theorem suspicion_globals (c : Corner) (kind : FaultKind) (p : Part) : (suspicion c kind p).globals = p.globals := by
  unfold suspicion
  dsimp only
  split
  · simp
  · split <;> simp
@[simp] theorem suspicion_pins (c : Corner) (kind : FaultKind) (p : Part) : (suspicion c kind p).pins = p.pins := by
  unfold suspicion
  dsimp only
  split
  · simp
  · split <;> simp
@[simp] theorem suspicion_port (c : Corner) (kind : FaultKind) (r : Port) (p : Part) : (suspicion c kind p).port r = p.port r := by
  unfold suspicion
  dsimp only
  split
  · simp
  · split <;> simp

end Sys2Proof.Machine
end

