-- ==== Sys2Proof/Laws/CornerFrames.lean ====
section
/-! SUPPORT. Laws/CornerFrames.lean: what each shared operation leaves as it is at every corner, the one it acts on included; and
the operations of one corner at the others. -/

namespace Sys2Proof.Machine

open Sys2Proof

/-! ## countCorner -/

@[simp] theorem countCorner_corner_motion (c : Corner) (f : CornerCounters → CornerCounters) (d : Corner) (p : Part) :
    ((countCorner c f p).corner d).motion = (p.corner d).motion := by
  by_cases h : d = c
  · subst h; simp [countCorner]
  · simp [countCorner, Part.corner_modCorner_of_ne h]
@[simp] theorem countCorner_corner_stuck (c : Corner) (f : CornerCounters → CornerCounters) (d : Corner) (p : Part) :
    ((countCorner c f p).corner d).stuck = (p.corner d).stuck := by
  by_cases h : d = c
  · subst h; simp [countCorner]
  · simp [countCorner, Part.corner_modCorner_of_ne h]
@[simp] theorem countCorner_corner_lastDemand (c : Corner) (f : CornerCounters → CornerCounters) (d : Corner) (p : Part) :
    ((countCorner c f p).corner d).lastDemand = (p.corner d).lastDemand := by
  by_cases h : d = c
  · subst h; simp [countCorner]
  · simp [countCorner, Part.corner_modCorner_of_ne h]
@[simp] theorem countCorner_corner_lastTarget (c : Corner) (f : CornerCounters → CornerCounters) (d : Corner) (p : Part) :
    ((countCorner c f p).corner d).lastTarget = (p.corner d).lastTarget := by
  by_cases h : d = c
  · subst h; simp [countCorner]
  · simp [countCorner, Part.corner_modCorner_of_ne h]
@[simp] theorem countCorner_corner_banks (c : Corner) (f : CornerCounters → CornerCounters) (d : Corner) (p : Part) :
    ((countCorner c f p).corner d).banks = (p.corner d).banks := by
  by_cases h : d = c
  · subst h; simp [countCorner]
  · simp [countCorner, Part.corner_modCorner_of_ne h]
@[simp] theorem countCorner_corner_reg (c : Corner) (f : CornerCounters → CornerCounters) (d : Corner) (p : Part) :
    ((countCorner c f p).corner d).reg = (p.corner d).reg := by
  by_cases h : d = c
  · subst h; simp [countCorner]
  · simp [countCorner, Part.corner_modCorner_of_ne h]
@[simp] theorem countCorner_corner_diag (c : Corner) (f : CornerCounters → CornerCounters) (d : Corner) (p : Part) :
    ((countCorner c f p).corner d).diag = (p.corner d).diag := by
  by_cases h : d = c
  · subst h; simp [countCorner]
  · simp [countCorner, Part.corner_modCorner_of_ne h]
@[simp] theorem countCorner_corner_state (c : Corner) (f : CornerCounters → CornerCounters) (d : Corner) (p : Part) :
    ((countCorner c f p).corner d).state = (p.corner d).state := by
  by_cases h : d = c
  · subst h; simp [countCorner]
  · simp [countCorner, Part.corner_modCorner_of_ne h]
@[simp] theorem countCorner_corner_reasons (c : Corner) (f : CornerCounters → CornerCounters) (d : Corner) (p : Part) :
    ((countCorner c f p).corner d).reasons = (p.corner d).reasons := by
  by_cases h : d = c
  · subst h; simp [countCorner]
  · simp [countCorner, Part.corner_modCorner_of_ne h]

/-! ## unprime -/

@[simp] theorem unprime_corner_stuck (c : Corner) (d : Corner) (p : Part) :
    ((unprime c p).corner d).stuck = (p.corner d).stuck := by
  by_cases h : d = c
  · subst h; simp [unprime]
  · simp [unprime, Part.corner_modCorner_of_ne h]
@[simp] theorem unprime_corner_lastDemand (c : Corner) (d : Corner) (p : Part) :
    ((unprime c p).corner d).lastDemand = (p.corner d).lastDemand := by
  by_cases h : d = c
  · subst h; simp [unprime]
  · simp [unprime, Part.corner_modCorner_of_ne h]
@[simp] theorem unprime_corner_lastTarget (c : Corner) (d : Corner) (p : Part) :
    ((unprime c p).corner d).lastTarget = (p.corner d).lastTarget := by
  by_cases h : d = c
  · subst h; simp [unprime]
  · simp [unprime, Part.corner_modCorner_of_ne h]
@[simp] theorem unprime_corner_banks (c : Corner) (d : Corner) (p : Part) :
    ((unprime c p).corner d).banks = (p.corner d).banks := by
  by_cases h : d = c
  · subst h; simp [unprime]
  · simp [unprime, Part.corner_modCorner_of_ne h]
@[simp] theorem unprime_corner_reg (c : Corner) (d : Corner) (p : Part) :
    ((unprime c p).corner d).reg = (p.corner d).reg := by
  by_cases h : d = c
  · subst h; simp [unprime]
  · simp [unprime, Part.corner_modCorner_of_ne h]
@[simp] theorem unprime_corner_diag (c : Corner) (d : Corner) (p : Part) :
    ((unprime c p).corner d).diag = (p.corner d).diag := by
  by_cases h : d = c
  · subst h; simp [unprime]
  · simp [unprime, Part.corner_modCorner_of_ne h]
@[simp] theorem unprime_corner_state (c : Corner) (d : Corner) (p : Part) :
    ((unprime c p).corner d).state = (p.corner d).state := by
  by_cases h : d = c
  · subst h; simp [unprime]
  · simp [unprime, Part.corner_modCorner_of_ne h]
@[simp] theorem unprime_corner_reasons (c : Corner) (d : Corner) (p : Part) :
    ((unprime c p).corner d).reasons = (p.corner d).reasons := by
  by_cases h : d = c
  · subst h; simp [unprime]
  · simp [unprime, Part.corner_modCorner_of_ne h]
@[simp] theorem unprime_corner_counters (c : Corner) (d : Corner) (p : Part) :
    ((unprime c p).corner d).counters = (p.corner d).counters := by
  by_cases h : d = c
  · subst h; simp [unprime]
  · simp [unprime, Part.corner_modCorner_of_ne h]

/-! ## enterPassive -/

@[simp] theorem enterPassive_corner_motion (c : Corner) (d : Corner) (p : Part) :
    ((enterPassive c p).corner d).motion = (p.corner d).motion := by
  by_cases h : d = c
  · subst h; simp [enterPassive]
  · simp [enterPassive, Part.corner_modCorner_of_ne h]
@[simp] theorem enterPassive_corner_stuck (c : Corner) (d : Corner) (p : Part) :
    ((enterPassive c p).corner d).stuck = (p.corner d).stuck := by
  by_cases h : d = c
  · subst h; simp [enterPassive]
  · simp [enterPassive, Part.corner_modCorner_of_ne h]
@[simp] theorem enterPassive_corner_lastDemand (c : Corner) (d : Corner) (p : Part) :
    ((enterPassive c p).corner d).lastDemand = (p.corner d).lastDemand := by
  by_cases h : d = c
  · subst h; simp [enterPassive]
  · simp [enterPassive, Part.corner_modCorner_of_ne h]
@[simp] theorem enterPassive_corner_lastTarget (c : Corner) (d : Corner) (p : Part) :
    ((enterPassive c p).corner d).lastTarget = (p.corner d).lastTarget := by
  by_cases h : d = c
  · subst h; simp [enterPassive]
  · simp [enterPassive, Part.corner_modCorner_of_ne h]
@[simp] theorem enterPassive_corner_banks (c : Corner) (d : Corner) (p : Part) :
    ((enterPassive c p).corner d).banks = (p.corner d).banks := by
  by_cases h : d = c
  · subst h; simp [enterPassive]
  · simp [enterPassive, Part.corner_modCorner_of_ne h]
@[simp] theorem enterPassive_corner_reasons (c : Corner) (d : Corner) (p : Part) :
    ((enterPassive c p).corner d).reasons = (p.corner d).reasons := by
  by_cases h : d = c
  · subst h; simp [enterPassive]
  · simp [enterPassive, Part.corner_modCorner_of_ne h]

/-! ## returnToControl -/

@[simp] theorem returnToControl_corner_motion (c : Corner) (d : Corner) (p : Part) :
    ((returnToControl c p).corner d).motion = (p.corner d).motion := by
  by_cases h : d = c
  · subst h; simp [returnToControl]
  · simp [returnToControl, Part.corner_modCorner_of_ne h]
@[simp] theorem returnToControl_corner_stuck (c : Corner) (d : Corner) (p : Part) :
    ((returnToControl c p).corner d).stuck = (p.corner d).stuck := by
  by_cases h : d = c
  · subst h; simp [returnToControl]
  · simp [returnToControl, Part.corner_modCorner_of_ne h]
@[simp] theorem returnToControl_corner_lastDemand (c : Corner) (d : Corner) (p : Part) :
    ((returnToControl c p).corner d).lastDemand = (p.corner d).lastDemand := by
  by_cases h : d = c
  · subst h; simp [returnToControl]
  · simp [returnToControl, Part.corner_modCorner_of_ne h]
@[simp] theorem returnToControl_corner_lastTarget (c : Corner) (d : Corner) (p : Part) :
    ((returnToControl c p).corner d).lastTarget = (p.corner d).lastTarget := by
  by_cases h : d = c
  · subst h; simp [returnToControl]
  · simp [returnToControl, Part.corner_modCorner_of_ne h]
@[simp] theorem returnToControl_corner_banks (c : Corner) (d : Corner) (p : Part) :
    ((returnToControl c p).corner d).banks = (p.corner d).banks := by
  by_cases h : d = c
  · subst h; simp [returnToControl]
  · simp [returnToControl, Part.corner_modCorner_of_ne h]
@[simp] theorem returnToControl_corner_diag (c : Corner) (d : Corner) (p : Part) :
    ((returnToControl c p).corner d).diag = (p.corner d).diag := by
  by_cases h : d = c
  · subst h; simp [returnToControl]
  · simp [returnToControl, Part.corner_modCorner_of_ne h]
@[simp] theorem returnToControl_corner_reasons (c : Corner) (d : Corner) (p : Part) :
    ((returnToControl c p).corner d).reasons = (p.corner d).reasons := by
  by_cases h : d = c
  · subst h; simp [returnToControl]
  · simp [returnToControl, Part.corner_modCorner_of_ne h]
@[simp] theorem returnToControl_corner_counters (c : Corner) (d : Corner) (p : Part) :
    ((returnToControl c p).corner d).counters = (p.corner d).counters := by
  by_cases h : d = c
  · subst h; simp [returnToControl]
  · simp [returnToControl, Part.corner_modCorner_of_ne h]

/-! ## supervise -/

@[simp] theorem supervise_corner_motion (c : Corner) (d : Corner) (p : Part) :
    ((supervise c p).corner d).motion = (p.corner d).motion := by unfold supervise; split <;> first | rfl | (split <;> simp)
@[simp] theorem supervise_corner_stuck (c : Corner) (d : Corner) (p : Part) :
    ((supervise c p).corner d).stuck = (p.corner d).stuck := by unfold supervise; split <;> first | rfl | (split <;> simp)
@[simp] theorem supervise_corner_lastDemand (c : Corner) (d : Corner) (p : Part) :
    ((supervise c p).corner d).lastDemand = (p.corner d).lastDemand := by unfold supervise; split <;> first | rfl | (split <;> simp)
@[simp] theorem supervise_corner_lastTarget (c : Corner) (d : Corner) (p : Part) :
    ((supervise c p).corner d).lastTarget = (p.corner d).lastTarget := by unfold supervise; split <;> first | rfl | (split <;> simp)
@[simp] theorem supervise_corner_banks (c : Corner) (d : Corner) (p : Part) :
    ((supervise c p).corner d).banks = (p.corner d).banks := by unfold supervise; split <;> first | rfl | (split <;> simp)
@[simp] theorem supervise_corner_reasons (c : Corner) (d : Corner) (p : Part) :
    ((supervise c p).corner d).reasons = (p.corner d).reasons := by unfold supervise; split <;> first | rfl | (split <;> simp)

/-! ## putReason -/

@[simp] theorem putReason_corner_motion (which : Reason) (present : Bool) (c : Corner) (d : Corner) (p : Part) :
    ((putReason which present c p).corner d).motion = (p.corner d).motion := by
  by_cases h : d = c
  · subst h; simp [putReason]
  · simp [putReason, Part.corner_modCorner_of_ne h]
@[simp] theorem putReason_corner_stuck (which : Reason) (present : Bool) (c : Corner) (d : Corner) (p : Part) :
    ((putReason which present c p).corner d).stuck = (p.corner d).stuck := by
  by_cases h : d = c
  · subst h; simp [putReason]
  · simp [putReason, Part.corner_modCorner_of_ne h]
@[simp] theorem putReason_corner_lastDemand (which : Reason) (present : Bool) (c : Corner) (d : Corner) (p : Part) :
    ((putReason which present c p).corner d).lastDemand = (p.corner d).lastDemand := by
  by_cases h : d = c
  · subst h; simp [putReason]
  · simp [putReason, Part.corner_modCorner_of_ne h]
@[simp] theorem putReason_corner_lastTarget (which : Reason) (present : Bool) (c : Corner) (d : Corner) (p : Part) :
    ((putReason which present c p).corner d).lastTarget = (p.corner d).lastTarget := by
  by_cases h : d = c
  · subst h; simp [putReason]
  · simp [putReason, Part.corner_modCorner_of_ne h]
@[simp] theorem putReason_corner_banks (which : Reason) (present : Bool) (c : Corner) (d : Corner) (p : Part) :
    ((putReason which present c p).corner d).banks = (p.corner d).banks := by
  by_cases h : d = c
  · subst h; simp [putReason]
  · simp [putReason, Part.corner_modCorner_of_ne h]

/-! ## enterUnloaded -/

@[simp] theorem enterUnloaded_corner_stuck (d : Corner) (p : Part) :
    ((enterUnloaded p).corner d).stuck = (p.corner d).stuck := by
  simp [enterUnloaded, forCorners]
@[simp] theorem enterUnloaded_corner_lastDemand (d : Corner) (p : Part) :
    ((enterUnloaded p).corner d).lastDemand = (p.corner d).lastDemand := by
  simp [enterUnloaded, forCorners]
@[simp] theorem enterUnloaded_corner_lastTarget (d : Corner) (p : Part) :
    ((enterUnloaded p).corner d).lastTarget = (p.corner d).lastTarget := by
  simp [enterUnloaded, forCorners]
@[simp] theorem enterUnloaded_corner_banks (d : Corner) (p : Part) :
    ((enterUnloaded p).corner d).banks = (p.corner d).banks := by
  simp [enterUnloaded, forCorners]
@[simp] theorem enterUnloaded_corner_reg (d : Corner) (p : Part) :
    ((enterUnloaded p).corner d).reg = (p.corner d).reg := by
  simp [enterUnloaded, forCorners]
@[simp] theorem enterUnloaded_corner_diag (d : Corner) (p : Part) :
    ((enterUnloaded p).corner d).diag = (p.corner d).diag := by
  simp [enterUnloaded, forCorners]
@[simp] theorem enterUnloaded_corner_state (d : Corner) (p : Part) :
    ((enterUnloaded p).corner d).state = (p.corner d).state := by
  simp [enterUnloaded, forCorners]
@[simp] theorem enterUnloaded_corner_reasons (d : Corner) (p : Part) :
    ((enterUnloaded p).corner d).reasons = (p.corner d).reasons := by
  simp [enterUnloaded, forCorners]
@[simp] theorem enterUnloaded_corner_counters (d : Corner) (p : Part) :
    ((enterUnloaded p).corner d).counters = (p.corner d).counters := by
  simp [enterUnloaded, forCorners]

/-! ## judgeLoaded -/

@[simp] theorem judgeLoaded_corner_stuck (d : Corner) (p : Part) :
    ((judgeLoaded p).corner d).stuck = (p.corner d).stuck := by unfold judgeLoaded; split <;> first | rfl | (split <;> simp)
@[simp] theorem judgeLoaded_corner_lastDemand (d : Corner) (p : Part) :
    ((judgeLoaded p).corner d).lastDemand = (p.corner d).lastDemand := by unfold judgeLoaded; split <;> first | rfl | (split <;> simp)
@[simp] theorem judgeLoaded_corner_lastTarget (d : Corner) (p : Part) :
    ((judgeLoaded p).corner d).lastTarget = (p.corner d).lastTarget := by unfold judgeLoaded; split <;> first | rfl | (split <;> simp)
@[simp] theorem judgeLoaded_corner_banks (d : Corner) (p : Part) :
    ((judgeLoaded p).corner d).banks = (p.corner d).banks := by unfold judgeLoaded; split <;> first | rfl | (split <;> simp)
@[simp] theorem judgeLoaded_corner_reg (d : Corner) (p : Part) :
    ((judgeLoaded p).corner d).reg = (p.corner d).reg := by unfold judgeLoaded; split <;> first | rfl | (split <;> simp)
@[simp] theorem judgeLoaded_corner_diag (d : Corner) (p : Part) :
    ((judgeLoaded p).corner d).diag = (p.corner d).diag := by unfold judgeLoaded; split <;> first | rfl | (split <;> simp)
@[simp] theorem judgeLoaded_corner_state (d : Corner) (p : Part) :
    ((judgeLoaded p).corner d).state = (p.corner d).state := by unfold judgeLoaded; split <;> first | rfl | (split <;> simp)
@[simp] theorem judgeLoaded_corner_reasons (d : Corner) (p : Part) :
    ((judgeLoaded p).corner d).reasons = (p.corner d).reasons := by unfold judgeLoaded; split <;> first | rfl | (split <;> simp)
@[simp] theorem judgeLoaded_corner_counters (d : Corner) (p : Part) :
    ((judgeLoaded p).corner d).counters = (p.corner d).counters := by unfold judgeLoaded; split <;> first | rfl | (split <;> simp)

/-! ## settleUnengaged -/

@[simp] theorem settleUnengaged_corner_stuck (d : Corner) (p : Part) :
    ((settleUnengaged p).corner d).stuck = (p.corner d).stuck := by unfold settleUnengaged; split <;> simp
@[simp] theorem settleUnengaged_corner_lastDemand (d : Corner) (p : Part) :
    ((settleUnengaged p).corner d).lastDemand = (p.corner d).lastDemand := by unfold settleUnengaged; split <;> simp
@[simp] theorem settleUnengaged_corner_lastTarget (d : Corner) (p : Part) :
    ((settleUnengaged p).corner d).lastTarget = (p.corner d).lastTarget := by unfold settleUnengaged; split <;> simp
@[simp] theorem settleUnengaged_corner_banks (d : Corner) (p : Part) :
    ((settleUnengaged p).corner d).banks = (p.corner d).banks := by unfold settleUnengaged; split <;> simp
@[simp] theorem settleUnengaged_corner_reg (d : Corner) (p : Part) :
    ((settleUnengaged p).corner d).reg = (p.corner d).reg := by unfold settleUnengaged; split <;> simp
@[simp] theorem settleUnengaged_corner_diag (d : Corner) (p : Part) :
    ((settleUnengaged p).corner d).diag = (p.corner d).diag := by unfold settleUnengaged; split <;> simp
@[simp] theorem settleUnengaged_corner_state (d : Corner) (p : Part) :
    ((settleUnengaged p).corner d).state = (p.corner d).state := by unfold settleUnengaged; split <;> simp
@[simp] theorem settleUnengaged_corner_reasons (d : Corner) (p : Part) :
    ((settleUnengaged p).corner d).reasons = (p.corner d).reasons := by unfold settleUnengaged; split <;> simp
@[simp] theorem settleUnengaged_corner_counters (d : Corner) (p : Part) :
    ((settleUnengaged p).corner d).counters = (p.corner d).counters := by unfold settleUnengaged; split <;> simp

/-! ## judgeReleased -/

@[simp] theorem judgeReleased_corner_stuck (d : Corner) (p : Part) :
    ((judgeReleased p).corner d).stuck = (p.corner d).stuck := by unfold judgeReleased; split <;> simp
@[simp] theorem judgeReleased_corner_lastDemand (d : Corner) (p : Part) :
    ((judgeReleased p).corner d).lastDemand = (p.corner d).lastDemand := by unfold judgeReleased; split <;> simp
@[simp] theorem judgeReleased_corner_lastTarget (d : Corner) (p : Part) :
    ((judgeReleased p).corner d).lastTarget = (p.corner d).lastTarget := by unfold judgeReleased; split <;> simp
@[simp] theorem judgeReleased_corner_banks (d : Corner) (p : Part) :
    ((judgeReleased p).corner d).banks = (p.corner d).banks := by unfold judgeReleased; split <;> simp
@[simp] theorem judgeReleased_corner_reg (d : Corner) (p : Part) :
    ((judgeReleased p).corner d).reg = (p.corner d).reg := by unfold judgeReleased; split <;> simp
@[simp] theorem judgeReleased_corner_diag (d : Corner) (p : Part) :
    ((judgeReleased p).corner d).diag = (p.corner d).diag := by unfold judgeReleased; split <;> simp
@[simp] theorem judgeReleased_corner_state (d : Corner) (p : Part) :
    ((judgeReleased p).corner d).state = (p.corner d).state := by unfold judgeReleased; split <;> simp
@[simp] theorem judgeReleased_corner_reasons (d : Corner) (p : Part) :
    ((judgeReleased p).corner d).reasons = (p.corner d).reasons := by unfold judgeReleased; split <;> simp
@[simp] theorem judgeReleased_corner_counters (d : Corner) (p : Part) :
    ((judgeReleased p).corner d).counters = (p.corner d).counters := by unfold judgeReleased; split <;> simp

/-! ## corruptActive -/

@[simp] theorem corruptActive_corner_stuck (c : Corner) (id : BankId) (d : Corner) (p : Part) :
    ((corruptActive c id p).corner d).stuck = (p.corner d).stuck := by
  by_cases h : d = c
  · subst h; simp [corruptActive, CornerPart.modBanks]
  · simp [corruptActive, Part.corner_modCorner_of_ne h]
@[simp] theorem corruptActive_corner_lastDemand (c : Corner) (id : BankId) (d : Corner) (p : Part) :
    ((corruptActive c id p).corner d).lastDemand = (p.corner d).lastDemand := by
  by_cases h : d = c
  · subst h; simp [corruptActive, CornerPart.modBanks]
  · simp [corruptActive, Part.corner_modCorner_of_ne h]
@[simp] theorem corruptActive_corner_lastTarget (c : Corner) (id : BankId) (d : Corner) (p : Part) :
    ((corruptActive c id p).corner d).lastTarget = (p.corner d).lastTarget := by
  by_cases h : d = c
  · subst h; simp [corruptActive, CornerPart.modBanks]
  · simp [corruptActive, Part.corner_modCorner_of_ne h]

/-! ## swapEffect -/

@[simp] theorem swapEffect_corner_stuck (c : Corner) (d : Corner) (p : Part) :
    ((swapEffect c p).corner d).stuck = (p.corner d).stuck := by
  by_cases h : d = c
  · subst h; simp [swapEffect, CornerPart.modBanks]
  · simp [swapEffect, Part.corner_modCorner_of_ne h]
@[simp] theorem swapEffect_corner_lastDemand (c : Corner) (d : Corner) (p : Part) :
    ((swapEffect c p).corner d).lastDemand = (p.corner d).lastDemand := by
  by_cases h : d = c
  · subst h; simp [swapEffect, CornerPart.modBanks]
  · simp [swapEffect, Part.corner_modCorner_of_ne h]
@[simp] theorem swapEffect_corner_lastTarget (c : Corner) (d : Corner) (p : Part) :
    ((swapEffect c p).corner d).lastTarget = (p.corner d).lastTarget := by
  by_cases h : d = c
  · subst h; simp [swapEffect, CornerPart.modBanks]
  · simp [swapEffect, Part.corner_modCorner_of_ne h]

/-! ## endTest -/

@[simp] theorem endTest_corner_motion (c : Corner) (x : TestOutcome) (r : TestRecord) (d : Corner) (p : Part) :
    ((endTest c x r p).corner d).motion = (p.corner d).motion := by
  by_cases h : d = c
  · subst h; simp [endTest, CornerPart.turnOff]
  · simp [endTest, Part.corner_modCorner_of_ne h]
@[simp] theorem endTest_corner_stuck (c : Corner) (x : TestOutcome) (r : TestRecord) (d : Corner) (p : Part) :
    ((endTest c x r p).corner d).stuck = (p.corner d).stuck := by
  by_cases h : d = c
  · subst h; simp [endTest, CornerPart.turnOff]
  · simp [endTest, Part.corner_modCorner_of_ne h]
@[simp] theorem endTest_corner_lastDemand (c : Corner) (x : TestOutcome) (r : TestRecord) (d : Corner) (p : Part) :
    ((endTest c x r p).corner d).lastDemand = (p.corner d).lastDemand := by
  by_cases h : d = c
  · subst h; simp [endTest, CornerPart.turnOff]
  · simp [endTest, Part.corner_modCorner_of_ne h]
@[simp] theorem endTest_corner_lastTarget (c : Corner) (x : TestOutcome) (r : TestRecord) (d : Corner) (p : Part) :
    ((endTest c x r p).corner d).lastTarget = (p.corner d).lastTarget := by
  by_cases h : d = c
  · subst h; simp [endTest, CornerPart.turnOff]
  · simp [endTest, Part.corner_modCorner_of_ne h]
@[simp] theorem endTest_corner_banks (c : Corner) (x : TestOutcome) (r : TestRecord) (d : Corner) (p : Part) :
    ((endTest c x r p).corner d).banks = (p.corner d).banks := by
  by_cases h : d = c
  · subst h; simp [endTest, CornerPart.turnOff]
  · simp [endTest, Part.corner_modCorner_of_ne h]
@[simp] theorem endTest_corner_reasons (c : Corner) (x : TestOutcome) (r : TestRecord) (d : Corner) (p : Part) :
    ((endTest c x r p).corner d).reasons = (p.corner d).reasons := by
  by_cases h : d = c
  · subst h; simp [endTest, CornerPart.turnOff]
  · simp [endTest, Part.corner_modCorner_of_ne h]
@[simp] theorem endTest_corner_counters (c : Corner) (x : TestOutcome) (r : TestRecord) (d : Corner) (p : Part) :
    ((endTest c x r p).corner d).counters = (p.corner d).counters := by
  by_cases h : d = c
  · subst h; simp [endTest, CornerPart.turnOff]
  · simp [endTest, Part.corner_modCorner_of_ne h]

/-! ## enterFault -/

@[simp] theorem enterFault_corner_stuck (c : Corner) (kind : FaultKind) (d : Corner) (p : Part) :
    ((enterFault c kind p).corner d).stuck = (p.corner d).stuck := by
  by_cases h : d = c
  · subst h; simp [enterFault]
  · simp [enterFault, Part.corner_modCorner_of_ne h]
@[simp] theorem enterFault_corner_lastDemand (c : Corner) (kind : FaultKind) (d : Corner) (p : Part) :
    ((enterFault c kind p).corner d).lastDemand = (p.corner d).lastDemand := by
  by_cases h : d = c
  · subst h; simp [enterFault]
  · simp [enterFault, Part.corner_modCorner_of_ne h]
@[simp] theorem enterFault_corner_lastTarget (c : Corner) (kind : FaultKind) (d : Corner) (p : Part) :
    ((enterFault c kind p).corner d).lastTarget = (p.corner d).lastTarget := by
  by_cases h : d = c
  · subst h; simp [enterFault]
  · simp [enterFault, Part.corner_modCorner_of_ne h]
@[simp] theorem enterFault_corner_banks (c : Corner) (kind : FaultKind) (d : Corner) (p : Part) :
    ((enterFault c kind p).corner d).banks = (p.corner d).banks := by
  by_cases h : d = c
  · subst h; simp [enterFault]
  · simp [enterFault, Part.corner_modCorner_of_ne h]
@[simp] theorem enterFault_corner_reasons (c : Corner) (kind : FaultKind) (d : Corner) (p : Part) :
    ((enterFault c kind p).corner d).reasons = (p.corner d).reasons := by
  by_cases h : d = c
  · subst h; simp [enterFault]
  · simp [enterFault, Part.corner_modCorner_of_ne h]
@[simp] theorem enterFault_corner_counters (c : Corner) (kind : FaultKind) (d : Corner) (p : Part) :
    ((enterFault c kind p).corner d).counters = (p.corner d).counters := by
  by_cases h : d = c
  · subst h; simp [enterFault]
  · simp [enterFault, Part.corner_modCorner_of_ne h]

/-! ## suspicion -/

@[simp] theorem suspicion_corner_stuck (c : Corner) (kind : FaultKind) (d : Corner) (p : Part) :
    ((suspicion c kind p).corner d).stuck = (p.corner d).stuck := by
  unfold suspicion
  dsimp only
  by_cases h : d = c
  · subst h; split
    · simp [CornerPart.suspend]
    · split <;> simp
  · split
    · simp [Part.corner_modCorner_of_ne h]
    · split <;> simp [Part.corner_modCorner_of_ne h]
@[simp] theorem suspicion_corner_lastDemand (c : Corner) (kind : FaultKind) (d : Corner) (p : Part) :
    ((suspicion c kind p).corner d).lastDemand = (p.corner d).lastDemand := by
  unfold suspicion
  dsimp only
  by_cases h : d = c
  · subst h; split
    · simp [CornerPart.suspend]
    · split <;> simp
  · split
    · simp [Part.corner_modCorner_of_ne h]
    · split <;> simp [Part.corner_modCorner_of_ne h]
@[simp] theorem suspicion_corner_lastTarget (c : Corner) (kind : FaultKind) (d : Corner) (p : Part) :
    ((suspicion c kind p).corner d).lastTarget = (p.corner d).lastTarget := by
  unfold suspicion
  dsimp only
  by_cases h : d = c
  · subst h; split
    · simp [CornerPart.suspend]
    · split <;> simp
  · split
    · simp [Part.corner_modCorner_of_ne h]
    · split <;> simp [Part.corner_modCorner_of_ne h]
@[simp] theorem suspicion_corner_banks (c : Corner) (kind : FaultKind) (d : Corner) (p : Part) :
    ((suspicion c kind p).corner d).banks = (p.corner d).banks := by
  unfold suspicion
  dsimp only
  by_cases h : d = c
  · subst h; split
    · simp [CornerPart.suspend]
    · split <;> simp
  · split
    · simp [Part.corner_modCorner_of_ne h]
    · split <;> simp [Part.corner_modCorner_of_ne h]
@[simp] theorem suspicion_corner_reasons (c : Corner) (kind : FaultKind) (d : Corner) (p : Part) :
    ((suspicion c kind p).corner d).reasons = (p.corner d).reasons := by
  unfold suspicion
  dsimp only
  by_cases h : d = c
  · subst h; split
    · simp [CornerPart.suspend]
    · split <;> simp
  · split
    · simp [Part.corner_modCorner_of_ne h]
    · split <;> simp [Part.corner_modCorner_of_ne h]

/-! ## The other corners -/

theorem countCorner_corner_of_ne (c : Corner) (f : CornerCounters → CornerCounters) {d : Corner} (h : d ≠ c) (p : Part) :
    (countCorner c f p).corner d = p.corner d := by simp [countCorner, Part.corner_modCorner_of_ne h]
theorem unprime_corner_of_ne (c : Corner) {d : Corner} (h : d ≠ c) (p : Part) :
    (unprime c p).corner d = p.corner d := by simp [unprime, Part.corner_modCorner_of_ne h]
theorem enterPassive_corner_of_ne (c : Corner) {d : Corner} (h : d ≠ c) (p : Part) :
    (enterPassive c p).corner d = p.corner d := by simp [enterPassive, Part.corner_modCorner_of_ne h]
theorem returnToControl_corner_of_ne (c : Corner) {d : Corner} (h : d ≠ c) (p : Part) :
    (returnToControl c p).corner d = p.corner d := by simp [returnToControl, Part.corner_modCorner_of_ne h]
theorem supervise_corner_of_ne (c : Corner) {d : Corner} (h : d ≠ c) (p : Part) :
    (supervise c p).corner d = p.corner d := by
  unfold supervise
  split <;> first | rfl | (split <;> simp [enterPassive_corner_of_ne c h, returnToControl_corner_of_ne c h])
theorem putReason_corner_of_ne (which : Reason) (present : Bool) (c : Corner) {d : Corner} (h : d ≠ c) (p : Part) :
    (putReason which present c p).corner d = p.corner d := by simp [putReason, Part.corner_modCorner_of_ne h, supervise_corner_of_ne c h]
theorem endTest_corner_of_ne (c : Corner) (x : TestOutcome) (r : TestRecord) {d : Corner} (h : d ≠ c) (p : Part) :
    (endTest c x r p).corner d = p.corner d := by simp [endTest, Part.corner_modCorner_of_ne h]

end Sys2Proof.Machine
end

