-- ==== Sys2Proof/Laws/BlockFrames.lean ====
section
/-! SUPPORT. Laws/BlockFrames.lean: what the operations of each block (estimator, tracker, diagnosis, supervision, supervisor)
leave as it is, field by field; built on Laws/Frames.lean. -/

namespace Sys2Proof.Machine

open Sys2Proof

/-! ## scrubCorner -/

@[simp] theorem scrubCorner_now (c : Corner) (p : Part) : (scrubCorner c p).now = p.now := by unfold scrubCorner; split <;> first | rfl | (split <;> simp)
@[simp] theorem scrubCorner_straps (c : Corner) (p : Part) : (scrubCorner c p).straps = p.straps := by unfold scrubCorner; split <;> first | rfl | (split <;> simp)
@[simp] theorem scrubCorner_tracker (c : Corner) (p : Part) : (scrubCorner c p).tracker = p.tracker := by unfold scrubCorner; split <;> first | rfl | (split <;> simp)
@[simp] theorem scrubCorner_context (c : Corner) (p : Part) : (scrubCorner c p).context = p.context := by unfold scrubCorner; split <;> first | rfl | (split <;> simp)
@[simp] theorem scrubCorner_schedule (c : Corner) (p : Part) : (scrubCorner c p).schedule = p.schedule := by unfold scrubCorner; split <;> first | rfl | (split <;> simp)
@[simp] theorem scrubCorner_selection (c : Corner) (p : Part) : (scrubCorner c p).selection = p.selection := by unfold scrubCorner; split <;> first | rfl | (split <;> simp)
@[simp] theorem scrubCorner_store (c : Corner) (p : Part) : (scrubCorner c p).store = p.store := by unfold scrubCorner; split <;> first | rfl | (split <;> simp)
@[simp] theorem scrubCorner_pwm (c : Corner) (p : Part) : (scrubCorner c p).pwm = p.pwm := by unfold scrubCorner; split <;> first | rfl | (split <;> simp)
@[simp] theorem scrubCorner_supply (c : Corner) (p : Part) : (scrubCorner c p).supply = p.supply := by unfold scrubCorner; split <;> first | rfl | (split <;> simp)
@[simp] theorem scrubCorner_portS (c : Corner) (p : Part) : (scrubCorner c p).portS = p.portS := by unfold scrubCorner; split <;> first | rfl | (split <;> simp)
@[simp] theorem scrubCorner_portW (c : Corner) (p : Part) : (scrubCorner c p).portW = p.portW := by unfold scrubCorner; split <;> first | rfl | (split <;> simp)
@[simp] theorem scrubCorner_intervalAt (c : Corner) (p : Part) : (scrubCorner c p).intervalAt = p.intervalAt := by unfold scrubCorner; split <;> first | rfl | (split <;> simp)
@[simp] theorem scrubCorner_link (c : Corner) (p : Part) : (scrubCorner c p).link = p.link := by unfold scrubCorner; split <;> first | rfl | (split <;> simp)
@[simp] theorem scrubCorner_slot (c : Corner) (p : Part) : (scrubCorner c p).slot = p.slot := by unfold scrubCorner; split <;> first | rfl | (split <;> simp)
@[simp] theorem scrubCorner_params (c : Corner) (p : Part) : (scrubCorner c p).params = p.params := by unfold scrubCorner; split <;> first | rfl | (split <;> simp)
@[simp] theorem scrubCorner_globals (c : Corner) (p : Part) : (scrubCorner c p).globals = p.globals := by unfold scrubCorner; split <;> first | rfl | (split <;> simp)
@[simp] theorem scrubCorner_pins (c : Corner) (p : Part) : (scrubCorner c p).pins = p.pins := by unfold scrubCorner; split <;> first | rfl | (split <;> simp)
@[simp] theorem scrubCorner_port (c : Corner) (r : Port) (p : Part) : (scrubCorner c p).port r = p.port r := by unfold scrubCorner; split <;> first | rfl | (split <;> simp)

/-! ## scrub -/

@[simp] theorem scrub_now (p : Part) : (scrub p).now = p.now := by simp [scrub, forCorners]
@[simp] theorem scrub_straps (p : Part) : (scrub p).straps = p.straps := by simp [scrub, forCorners]
@[simp] theorem scrub_tracker (p : Part) : (scrub p).tracker = p.tracker := by simp [scrub, forCorners]
@[simp] theorem scrub_context (p : Part) : (scrub p).context = p.context := by simp [scrub, forCorners]
@[simp] theorem scrub_schedule (p : Part) : (scrub p).schedule = p.schedule := by simp [scrub, forCorners]
@[simp] theorem scrub_selection (p : Part) : (scrub p).selection = p.selection := by simp [scrub, forCorners]
@[simp] theorem scrub_pwm (p : Part) : (scrub p).pwm = p.pwm := by simp [scrub, forCorners]
@[simp] theorem scrub_supply (p : Part) : (scrub p).supply = p.supply := by simp [scrub, forCorners]
@[simp] theorem scrub_portS (p : Part) : (scrub p).portS = p.portS := by simp [scrub, forCorners]
@[simp] theorem scrub_portW (p : Part) : (scrub p).portW = p.portW := by simp [scrub, forCorners]
@[simp] theorem scrub_intervalAt (p : Part) : (scrub p).intervalAt = p.intervalAt := by simp [scrub, forCorners]
@[simp] theorem scrub_link (p : Part) : (scrub p).link = p.link := by simp [scrub, forCorners]
@[simp] theorem scrub_slot (p : Part) : (scrub p).slot = p.slot := by simp [scrub, forCorners]
@[simp] theorem scrub_params (p : Part) : (scrub p).params = p.params := by simp [scrub, forCorners]
@[simp] theorem scrub_globals (p : Part) : (scrub p).globals = p.globals := by simp [scrub, forCorners]
@[simp] theorem scrub_pins (p : Part) : (scrub p).pins = p.pins := by simp [scrub, forCorners]
@[simp] theorem scrub_port (r : Port) (p : Part) : (scrub p).port r = p.port r := by simp [scrub, forCorners]

/-! ## swapIfPending -/

@[simp] theorem swapIfPending_now (c : Corner) (p : Part) : (swapIfPending c p).now = p.now := by unfold swapIfPending; split <;> simp
@[simp] theorem swapIfPending_straps (c : Corner) (p : Part) : (swapIfPending c p).straps = p.straps := by unfold swapIfPending; split <;> simp
@[simp] theorem swapIfPending_tracker (c : Corner) (p : Part) : (swapIfPending c p).tracker = p.tracker := by unfold swapIfPending; split <;> simp
@[simp] theorem swapIfPending_context (c : Corner) (p : Part) : (swapIfPending c p).context = p.context := by unfold swapIfPending; split <;> simp
@[simp] theorem swapIfPending_schedule (c : Corner) (p : Part) : (swapIfPending c p).schedule = p.schedule := by unfold swapIfPending; split <;> simp
@[simp] theorem swapIfPending_selection (c : Corner) (p : Part) : (swapIfPending c p).selection = p.selection := by unfold swapIfPending; split <;> simp
@[simp] theorem swapIfPending_store (c : Corner) (p : Part) : (swapIfPending c p).store = p.store := by unfold swapIfPending; split <;> simp
@[simp] theorem swapIfPending_pwm (c : Corner) (p : Part) : (swapIfPending c p).pwm = p.pwm := by unfold swapIfPending; split <;> simp
@[simp] theorem swapIfPending_supply (c : Corner) (p : Part) : (swapIfPending c p).supply = p.supply := by unfold swapIfPending; split <;> simp
@[simp] theorem swapIfPending_portS (c : Corner) (p : Part) : (swapIfPending c p).portS = p.portS := by unfold swapIfPending; split <;> simp
@[simp] theorem swapIfPending_portW (c : Corner) (p : Part) : (swapIfPending c p).portW = p.portW := by unfold swapIfPending; split <;> simp
@[simp] theorem swapIfPending_intervalAt (c : Corner) (p : Part) : (swapIfPending c p).intervalAt = p.intervalAt := by unfold swapIfPending; split <;> simp
@[simp] theorem swapIfPending_link (c : Corner) (p : Part) : (swapIfPending c p).link = p.link := by unfold swapIfPending; split <;> simp
@[simp] theorem swapIfPending_slot (c : Corner) (p : Part) : (swapIfPending c p).slot = p.slot := by unfold swapIfPending; split <;> simp
@[simp] theorem swapIfPending_params (c : Corner) (p : Part) : (swapIfPending c p).params = p.params := by unfold swapIfPending; split <;> simp
@[simp] theorem swapIfPending_globals (c : Corner) (p : Part) : (swapIfPending c p).globals = p.globals := by unfold swapIfPending; split <;> simp
@[simp] theorem swapIfPending_pins (c : Corner) (p : Part) : (swapIfPending c p).pins = p.pins := by unfold swapIfPending; split <;> simp
@[simp] theorem swapIfPending_port (c : Corner) (r : Port) (p : Part) : (swapIfPending c p).port r = p.port r := by unfold swapIfPending; split <;> simp

/-! ## feedChannel -/

@[simp] theorem feedChannel_now (c : Corner) (ch : Channel) (v : Option Int) (p : Part) : (feedChannel c ch v p).now = p.now := by unfold feedChannel; dsimp only; split <;> simp
@[simp] theorem feedChannel_straps (c : Corner) (ch : Channel) (v : Option Int) (p : Part) : (feedChannel c ch v p).straps = p.straps := by unfold feedChannel; dsimp only; split <;> simp
@[simp] theorem feedChannel_tracker (c : Corner) (ch : Channel) (v : Option Int) (p : Part) : (feedChannel c ch v p).tracker = p.tracker := by unfold feedChannel; dsimp only; split <;> simp
@[simp] theorem feedChannel_context (c : Corner) (ch : Channel) (v : Option Int) (p : Part) : (feedChannel c ch v p).context = p.context := by unfold feedChannel; dsimp only; split <;> simp
@[simp] theorem feedChannel_control (c : Corner) (ch : Channel) (v : Option Int) (p : Part) : (feedChannel c ch v p).control = p.control := by unfold feedChannel; dsimp only; split <;> simp
@[simp] theorem feedChannel_schedule (c : Corner) (ch : Channel) (v : Option Int) (p : Part) : (feedChannel c ch v p).schedule = p.schedule := by unfold feedChannel; dsimp only; split <;> simp
@[simp] theorem feedChannel_selection (c : Corner) (ch : Channel) (v : Option Int) (p : Part) : (feedChannel c ch v p).selection = p.selection := by unfold feedChannel; dsimp only; split <;> simp
@[simp] theorem feedChannel_store (c : Corner) (ch : Channel) (v : Option Int) (p : Part) : (feedChannel c ch v p).store = p.store := by unfold feedChannel; dsimp only; split <;> simp
@[simp] theorem feedChannel_pwm (c : Corner) (ch : Channel) (v : Option Int) (p : Part) : (feedChannel c ch v p).pwm = p.pwm := by unfold feedChannel; dsimp only; split <;> simp
@[simp] theorem feedChannel_supply (c : Corner) (ch : Channel) (v : Option Int) (p : Part) : (feedChannel c ch v p).supply = p.supply := by unfold feedChannel; dsimp only; split <;> simp
@[simp] theorem feedChannel_portS (c : Corner) (ch : Channel) (v : Option Int) (p : Part) : (feedChannel c ch v p).portS = p.portS := by unfold feedChannel; dsimp only; split <;> simp
@[simp] theorem feedChannel_portW (c : Corner) (ch : Channel) (v : Option Int) (p : Part) : (feedChannel c ch v p).portW = p.portW := by unfold feedChannel; dsimp only; split <;> simp
@[simp] theorem feedChannel_intervalAt (c : Corner) (ch : Channel) (v : Option Int) (p : Part) : (feedChannel c ch v p).intervalAt = p.intervalAt := by unfold feedChannel; dsimp only; split <;> simp
@[simp] theorem feedChannel_link (c : Corner) (ch : Channel) (v : Option Int) (p : Part) : (feedChannel c ch v p).link = p.link := by unfold feedChannel; dsimp only; split <;> simp
@[simp] theorem feedChannel_slot (c : Corner) (ch : Channel) (v : Option Int) (p : Part) : (feedChannel c ch v p).slot = p.slot := by unfold feedChannel; dsimp only; split <;> simp
@[simp] theorem feedChannel_params (c : Corner) (ch : Channel) (v : Option Int) (p : Part) : (feedChannel c ch v p).params = p.params := by unfold feedChannel; dsimp only; split <;> simp
@[simp] theorem feedChannel_globals (c : Corner) (ch : Channel) (v : Option Int) (p : Part) : (feedChannel c ch v p).globals = p.globals := by unfold feedChannel; dsimp only; split <;> simp
@[simp] theorem feedChannel_pins (c : Corner) (ch : Channel) (v : Option Int) (p : Part) : (feedChannel c ch v p).pins = p.pins := by unfold feedChannel; dsimp only; split <;> simp
@[simp] theorem feedChannel_port (c : Corner) (ch : Channel) (v : Option Int) (r : Port) (p : Part) : (feedChannel c ch v p).port r = p.port r := by unfold feedChannel; dsimp only; split <;> simp

/-! ## formTarget -/

@[simp] theorem formTarget_now (c : Corner) (demand : Nat) (apply : Bool) (p : Part) : (formTarget c demand apply p).now = p.now := by
  unfold formTarget
  dsimp only
  split
  · simp
  · split <;> simp
@[simp] theorem formTarget_straps (c : Corner) (demand : Nat) (apply : Bool) (p : Part) : (formTarget c demand apply p).straps = p.straps := by
  unfold formTarget
  dsimp only
  split
  · simp
  · split <;> simp
@[simp] theorem formTarget_tracker (c : Corner) (demand : Nat) (apply : Bool) (p : Part) : (formTarget c demand apply p).tracker = p.tracker := by
  unfold formTarget
  dsimp only
  split
  · simp
  · split <;> simp
@[simp] theorem formTarget_context (c : Corner) (demand : Nat) (apply : Bool) (p : Part) : (formTarget c demand apply p).context = p.context := by
  unfold formTarget
  dsimp only
  split
  · simp
  · split <;> simp
@[simp] theorem formTarget_schedule (c : Corner) (demand : Nat) (apply : Bool) (p : Part) : (formTarget c demand apply p).schedule = p.schedule := by
  unfold formTarget
  dsimp only
  split
  · simp
  · split <;> simp
@[simp] theorem formTarget_selection (c : Corner) (demand : Nat) (apply : Bool) (p : Part) : (formTarget c demand apply p).selection = p.selection := by
  unfold formTarget
  dsimp only
  split
  · simp
  · split <;> simp
@[simp] theorem formTarget_store (c : Corner) (demand : Nat) (apply : Bool) (p : Part) : (formTarget c demand apply p).store = p.store := by
  unfold formTarget
  dsimp only
  split
  · simp
  · split <;> simp
@[simp] theorem formTarget_pwm (c : Corner) (demand : Nat) (apply : Bool) (p : Part) : (formTarget c demand apply p).pwm = p.pwm := by
  unfold formTarget
  dsimp only
  split
  · simp
  · split <;> simp
@[simp] theorem formTarget_supply (c : Corner) (demand : Nat) (apply : Bool) (p : Part) : (formTarget c demand apply p).supply = p.supply := by
  unfold formTarget
  dsimp only
  split
  · simp
  · split <;> simp
@[simp] theorem formTarget_portS (c : Corner) (demand : Nat) (apply : Bool) (p : Part) : (formTarget c demand apply p).portS = p.portS := by
  unfold formTarget
  dsimp only
  split
  · simp
  · split <;> simp
@[simp] theorem formTarget_portW (c : Corner) (demand : Nat) (apply : Bool) (p : Part) : (formTarget c demand apply p).portW = p.portW := by
  unfold formTarget
  dsimp only
  split
  · simp
  · split <;> simp
@[simp] theorem formTarget_intervalAt (c : Corner) (demand : Nat) (apply : Bool) (p : Part) : (formTarget c demand apply p).intervalAt = p.intervalAt := by
  unfold formTarget
  dsimp only
  split
  · simp
  · split <;> simp
@[simp] theorem formTarget_link (c : Corner) (demand : Nat) (apply : Bool) (p : Part) : (formTarget c demand apply p).link = p.link := by
  unfold formTarget
  dsimp only
  split
  · simp
  · split <;> simp
@[simp] theorem formTarget_slot (c : Corner) (demand : Nat) (apply : Bool) (p : Part) : (formTarget c demand apply p).slot = p.slot := by
  unfold formTarget
  dsimp only
  split
  · simp
  · split <;> simp
@[simp] theorem formTarget_params (c : Corner) (demand : Nat) (apply : Bool) (p : Part) : (formTarget c demand apply p).params = p.params := by
  unfold formTarget
  dsimp only
  split
  · simp
  · split <;> simp
@[simp] theorem formTarget_globals (c : Corner) (demand : Nat) (apply : Bool) (p : Part) : (formTarget c demand apply p).globals = p.globals := by
  unfold formTarget
  dsimp only
  split
  · simp
  · split <;> simp
@[simp] theorem formTarget_pins (c : Corner) (demand : Nat) (apply : Bool) (p : Part) : (formTarget c demand apply p).pins = p.pins := by
  unfold formTarget
  dsimp only
  split
  · simp
  · split <;> simp
@[simp] theorem formTarget_port (c : Corner) (demand : Nat) (apply : Bool) (r : Port) (p : Part) : (formTarget c demand apply p).port r = p.port r := by
  unfold formTarget
  dsimp only
  split
  · simp
  · split <;> simp

/-! ## formDemand -/

@[simp] theorem formDemand_now (c : Corner) (skyUsable groundUsable apply : Bool) (p : Part) : (formDemand c skyUsable groundUsable apply p).now = p.now := by simp [formDemand]
@[simp] theorem formDemand_straps (c : Corner) (skyUsable groundUsable apply : Bool) (p : Part) : (formDemand c skyUsable groundUsable apply p).straps = p.straps := by simp [formDemand]
@[simp] theorem formDemand_tracker (c : Corner) (skyUsable groundUsable apply : Bool) (p : Part) : (formDemand c skyUsable groundUsable apply p).tracker = p.tracker := by simp [formDemand]
@[simp] theorem formDemand_context (c : Corner) (skyUsable groundUsable apply : Bool) (p : Part) : (formDemand c skyUsable groundUsable apply p).context = p.context := by simp [formDemand]
@[simp] theorem formDemand_schedule (c : Corner) (skyUsable groundUsable apply : Bool) (p : Part) : (formDemand c skyUsable groundUsable apply p).schedule = p.schedule := by simp [formDemand]
@[simp] theorem formDemand_store (c : Corner) (skyUsable groundUsable apply : Bool) (p : Part) : (formDemand c skyUsable groundUsable apply p).store = p.store := by simp [formDemand]
@[simp] theorem formDemand_pwm (c : Corner) (skyUsable groundUsable apply : Bool) (p : Part) : (formDemand c skyUsable groundUsable apply p).pwm = p.pwm := by simp [formDemand]
@[simp] theorem formDemand_supply (c : Corner) (skyUsable groundUsable apply : Bool) (p : Part) : (formDemand c skyUsable groundUsable apply p).supply = p.supply := by simp [formDemand]
@[simp] theorem formDemand_portS (c : Corner) (skyUsable groundUsable apply : Bool) (p : Part) : (formDemand c skyUsable groundUsable apply p).portS = p.portS := by simp [formDemand]
@[simp] theorem formDemand_portW (c : Corner) (skyUsable groundUsable apply : Bool) (p : Part) : (formDemand c skyUsable groundUsable apply p).portW = p.portW := by simp [formDemand]
@[simp] theorem formDemand_intervalAt (c : Corner) (skyUsable groundUsable apply : Bool) (p : Part) : (formDemand c skyUsable groundUsable apply p).intervalAt = p.intervalAt := by simp [formDemand]
@[simp] theorem formDemand_link (c : Corner) (skyUsable groundUsable apply : Bool) (p : Part) : (formDemand c skyUsable groundUsable apply p).link = p.link := by simp [formDemand]
@[simp] theorem formDemand_slot (c : Corner) (skyUsable groundUsable apply : Bool) (p : Part) : (formDemand c skyUsable groundUsable apply p).slot = p.slot := by simp [formDemand]
@[simp] theorem formDemand_params (c : Corner) (skyUsable groundUsable apply : Bool) (p : Part) : (formDemand c skyUsable groundUsable apply p).params = p.params := by simp [formDemand]
@[simp] theorem formDemand_globals (c : Corner) (skyUsable groundUsable apply : Bool) (p : Part) : (formDemand c skyUsable groundUsable apply p).globals = p.globals := by simp [formDemand]
@[simp] theorem formDemand_pins (c : Corner) (skyUsable groundUsable apply : Bool) (p : Part) : (formDemand c skyUsable groundUsable apply p).pins = p.pins := by simp [formDemand]
@[simp] theorem formDemand_port (c : Corner) (skyUsable groundUsable apply : Bool) (r : Port) (p : Part) : (formDemand c skyUsable groundUsable apply p).port r = p.port r := by simp [formDemand]

/-! ## demandStep -/

@[simp] theorem demandStep_now (c : Corner) (skyUsable groundUsable : Bool) (p : Part) : (demandStep c skyUsable groundUsable p).now = p.now := by unfold demandStep; split <;> simp
@[simp] theorem demandStep_straps (c : Corner) (skyUsable groundUsable : Bool) (p : Part) : (demandStep c skyUsable groundUsable p).straps = p.straps := by unfold demandStep; split <;> simp
@[simp] theorem demandStep_tracker (c : Corner) (skyUsable groundUsable : Bool) (p : Part) : (demandStep c skyUsable groundUsable p).tracker = p.tracker := by unfold demandStep; split <;> simp
@[simp] theorem demandStep_context (c : Corner) (skyUsable groundUsable : Bool) (p : Part) : (demandStep c skyUsable groundUsable p).context = p.context := by unfold demandStep; split <;> simp
@[simp] theorem demandStep_schedule (c : Corner) (skyUsable groundUsable : Bool) (p : Part) : (demandStep c skyUsable groundUsable p).schedule = p.schedule := by unfold demandStep; split <;> simp
@[simp] theorem demandStep_store (c : Corner) (skyUsable groundUsable : Bool) (p : Part) : (demandStep c skyUsable groundUsable p).store = p.store := by unfold demandStep; split <;> simp
@[simp] theorem demandStep_pwm (c : Corner) (skyUsable groundUsable : Bool) (p : Part) : (demandStep c skyUsable groundUsable p).pwm = p.pwm := by unfold demandStep; split <;> simp
@[simp] theorem demandStep_supply (c : Corner) (skyUsable groundUsable : Bool) (p : Part) : (demandStep c skyUsable groundUsable p).supply = p.supply := by unfold demandStep; split <;> simp
@[simp] theorem demandStep_portS (c : Corner) (skyUsable groundUsable : Bool) (p : Part) : (demandStep c skyUsable groundUsable p).portS = p.portS := by unfold demandStep; split <;> simp
@[simp] theorem demandStep_portW (c : Corner) (skyUsable groundUsable : Bool) (p : Part) : (demandStep c skyUsable groundUsable p).portW = p.portW := by unfold demandStep; split <;> simp
@[simp] theorem demandStep_intervalAt (c : Corner) (skyUsable groundUsable : Bool) (p : Part) : (demandStep c skyUsable groundUsable p).intervalAt = p.intervalAt := by unfold demandStep; split <;> simp
@[simp] theorem demandStep_link (c : Corner) (skyUsable groundUsable : Bool) (p : Part) : (demandStep c skyUsable groundUsable p).link = p.link := by unfold demandStep; split <;> simp
@[simp] theorem demandStep_slot (c : Corner) (skyUsable groundUsable : Bool) (p : Part) : (demandStep c skyUsable groundUsable p).slot = p.slot := by unfold demandStep; split <;> simp
@[simp] theorem demandStep_params (c : Corner) (skyUsable groundUsable : Bool) (p : Part) : (demandStep c skyUsable groundUsable p).params = p.params := by unfold demandStep; split <;> simp
@[simp] theorem demandStep_globals (c : Corner) (skyUsable groundUsable : Bool) (p : Part) : (demandStep c skyUsable groundUsable p).globals = p.globals := by unfold demandStep; split <;> simp
@[simp] theorem demandStep_pins (c : Corner) (skyUsable groundUsable : Bool) (p : Part) : (demandStep c skyUsable groundUsable p).pins = p.pins := by unfold demandStep; split <;> simp
@[simp] theorem demandStep_port (c : Corner) (skyUsable groundUsable : Bool) (r : Port) (p : Part) : (demandStep c skyUsable groundUsable p).port r = p.port r := by unfold demandStep; split <;> simp

/-! ## addComputed -/

@[simp] theorem addComputed_now (c : Corner) (fresh : Bool) (p : Part) : (addComputed c fresh p).now = p.now := by simp [addComputed]
@[simp] theorem addComputed_straps (c : Corner) (fresh : Bool) (p : Part) : (addComputed c fresh p).straps = p.straps := by simp [addComputed]
@[simp] theorem addComputed_context (c : Corner) (fresh : Bool) (p : Part) : (addComputed c fresh p).context = p.context := by simp [addComputed]
@[simp] theorem addComputed_corners (c : Corner) (fresh : Bool) (p : Part) : (addComputed c fresh p).corners = p.corners := by simp [addComputed]
@[simp] theorem addComputed_control (c : Corner) (fresh : Bool) (p : Part) : (addComputed c fresh p).control = p.control := by simp [addComputed]
@[simp] theorem addComputed_schedule (c : Corner) (fresh : Bool) (p : Part) : (addComputed c fresh p).schedule = p.schedule := by simp [addComputed]
@[simp] theorem addComputed_selection (c : Corner) (fresh : Bool) (p : Part) : (addComputed c fresh p).selection = p.selection := by simp [addComputed]
@[simp] theorem addComputed_store (c : Corner) (fresh : Bool) (p : Part) : (addComputed c fresh p).store = p.store := by simp [addComputed]
@[simp] theorem addComputed_pwm (c : Corner) (fresh : Bool) (p : Part) : (addComputed c fresh p).pwm = p.pwm := by simp [addComputed]
@[simp] theorem addComputed_supply (c : Corner) (fresh : Bool) (p : Part) : (addComputed c fresh p).supply = p.supply := by simp [addComputed]
@[simp] theorem addComputed_portS (c : Corner) (fresh : Bool) (p : Part) : (addComputed c fresh p).portS = p.portS := by simp [addComputed]
@[simp] theorem addComputed_portW (c : Corner) (fresh : Bool) (p : Part) : (addComputed c fresh p).portW = p.portW := by simp [addComputed]
@[simp] theorem addComputed_intervalAt (c : Corner) (fresh : Bool) (p : Part) : (addComputed c fresh p).intervalAt = p.intervalAt := by simp [addComputed]
@[simp] theorem addComputed_link (c : Corner) (fresh : Bool) (p : Part) : (addComputed c fresh p).link = p.link := by simp [addComputed]
@[simp] theorem addComputed_slot (c : Corner) (fresh : Bool) (p : Part) : (addComputed c fresh p).slot = p.slot := by simp [addComputed]
@[simp] theorem addComputed_params (c : Corner) (fresh : Bool) (p : Part) : (addComputed c fresh p).params = p.params := by simp [addComputed]
@[simp] theorem addComputed_events (c : Corner) (fresh : Bool) (p : Part) : (addComputed c fresh p).events = p.events := by simp [addComputed]
@[simp] theorem addComputed_globals (c : Corner) (fresh : Bool) (p : Part) : (addComputed c fresh p).globals = p.globals := by simp [addComputed]
@[simp] theorem addComputed_pins (c : Corner) (fresh : Bool) (p : Part) : (addComputed c fresh p).pins = p.pins := by simp [addComputed]
@[simp] theorem addComputed_corner (c : Corner) (fresh : Bool) (d : Corner) (p : Part) : (addComputed c fresh p).corner d = p.corner d := by simp [addComputed]
@[simp] theorem addComputed_port (c : Corner) (fresh : Bool) (r : Port) (p : Part) : (addComputed c fresh p).port r = p.port r := by simp [addComputed]

/-! ## heldComputation -/

@[simp] theorem heldComputation_now (c : Corner) (p : Part) : (heldComputation c p).now = p.now := by simp [heldComputation]
@[simp] theorem heldComputation_straps (c : Corner) (p : Part) : (heldComputation c p).straps = p.straps := by simp [heldComputation]
@[simp] theorem heldComputation_context (c : Corner) (p : Part) : (heldComputation c p).context = p.context := by simp [heldComputation]
@[simp] theorem heldComputation_schedule (c : Corner) (p : Part) : (heldComputation c p).schedule = p.schedule := by simp [heldComputation]
@[simp] theorem heldComputation_store (c : Corner) (p : Part) : (heldComputation c p).store = p.store := by simp [heldComputation]
@[simp] theorem heldComputation_pwm (c : Corner) (p : Part) : (heldComputation c p).pwm = p.pwm := by simp [heldComputation]
@[simp] theorem heldComputation_supply (c : Corner) (p : Part) : (heldComputation c p).supply = p.supply := by simp [heldComputation]
@[simp] theorem heldComputation_portS (c : Corner) (p : Part) : (heldComputation c p).portS = p.portS := by simp [heldComputation]
@[simp] theorem heldComputation_portW (c : Corner) (p : Part) : (heldComputation c p).portW = p.portW := by simp [heldComputation]
@[simp] theorem heldComputation_intervalAt (c : Corner) (p : Part) : (heldComputation c p).intervalAt = p.intervalAt := by simp [heldComputation]
@[simp] theorem heldComputation_link (c : Corner) (p : Part) : (heldComputation c p).link = p.link := by simp [heldComputation]
@[simp] theorem heldComputation_slot (c : Corner) (p : Part) : (heldComputation c p).slot = p.slot := by simp [heldComputation]
@[simp] theorem heldComputation_params (c : Corner) (p : Part) : (heldComputation c p).params = p.params := by simp [heldComputation]
@[simp] theorem heldComputation_globals (c : Corner) (p : Part) : (heldComputation c p).globals = p.globals := by simp [heldComputation]
@[simp] theorem heldComputation_pins (c : Corner) (p : Part) : (heldComputation c p).pins = p.pins := by simp [heldComputation]
@[simp] theorem heldComputation_port (c : Corner) (r : Port) (p : Part) : (heldComputation c p).port r = p.port r := by simp [heldComputation]

/-! ## freshComputation -/

@[simp] theorem freshComputation_now (c : Corner) (x : Sample) (p : Part) : (freshComputation c x p).now = p.now := by simp [freshComputation]
@[simp] theorem freshComputation_straps (c : Corner) (x : Sample) (p : Part) : (freshComputation c x p).straps = p.straps := by simp [freshComputation]
@[simp] theorem freshComputation_context (c : Corner) (x : Sample) (p : Part) : (freshComputation c x p).context = p.context := by simp [freshComputation]
@[simp] theorem freshComputation_schedule (c : Corner) (x : Sample) (p : Part) : (freshComputation c x p).schedule = p.schedule := by simp [freshComputation]
@[simp] theorem freshComputation_store (c : Corner) (x : Sample) (p : Part) : (freshComputation c x p).store = p.store := by simp [freshComputation]
@[simp] theorem freshComputation_pwm (c : Corner) (x : Sample) (p : Part) : (freshComputation c x p).pwm = p.pwm := by simp [freshComputation]
@[simp] theorem freshComputation_supply (c : Corner) (x : Sample) (p : Part) : (freshComputation c x p).supply = p.supply := by simp [freshComputation]
@[simp] theorem freshComputation_portS (c : Corner) (x : Sample) (p : Part) : (freshComputation c x p).portS = p.portS := by simp [freshComputation]
@[simp] theorem freshComputation_portW (c : Corner) (x : Sample) (p : Part) : (freshComputation c x p).portW = p.portW := by simp [freshComputation]
@[simp] theorem freshComputation_intervalAt (c : Corner) (x : Sample) (p : Part) : (freshComputation c x p).intervalAt = p.intervalAt := by simp [freshComputation]
@[simp] theorem freshComputation_link (c : Corner) (x : Sample) (p : Part) : (freshComputation c x p).link = p.link := by simp [freshComputation]
@[simp] theorem freshComputation_slot (c : Corner) (x : Sample) (p : Part) : (freshComputation c x p).slot = p.slot := by simp [freshComputation]
@[simp] theorem freshComputation_params (c : Corner) (x : Sample) (p : Part) : (freshComputation c x p).params = p.params := by simp [freshComputation]
@[simp] theorem freshComputation_globals (c : Corner) (x : Sample) (p : Part) : (freshComputation c x p).globals = p.globals := by simp [freshComputation]
@[simp] theorem freshComputation_pins (c : Corner) (x : Sample) (p : Part) : (freshComputation c x p).pins = p.pins := by simp [freshComputation]
@[simp] theorem freshComputation_port (c : Corner) (x : Sample) (r : Port) (p : Part) : (freshComputation c x p).port r = p.port r := by simp [freshComputation]

/-! ## takeSample -/

@[simp] theorem takeSample_now (c : Corner) (x : Sample) (p : Part) : (takeSample c x p).now = p.now := by unfold takeSample; split <;> simp
@[simp] theorem takeSample_straps (c : Corner) (x : Sample) (p : Part) : (takeSample c x p).straps = p.straps := by unfold takeSample; split <;> simp
@[simp] theorem takeSample_context (c : Corner) (x : Sample) (p : Part) : (takeSample c x p).context = p.context := by unfold takeSample; split <;> simp
@[simp] theorem takeSample_schedule (c : Corner) (x : Sample) (p : Part) : (takeSample c x p).schedule = p.schedule := by unfold takeSample; split <;> simp
@[simp] theorem takeSample_store (c : Corner) (x : Sample) (p : Part) : (takeSample c x p).store = p.store := by unfold takeSample; split <;> simp
@[simp] theorem takeSample_pwm (c : Corner) (x : Sample) (p : Part) : (takeSample c x p).pwm = p.pwm := by unfold takeSample; split <;> simp
@[simp] theorem takeSample_supply (c : Corner) (x : Sample) (p : Part) : (takeSample c x p).supply = p.supply := by unfold takeSample; split <;> simp
@[simp] theorem takeSample_portS (c : Corner) (x : Sample) (p : Part) : (takeSample c x p).portS = p.portS := by unfold takeSample; split <;> simp
@[simp] theorem takeSample_portW (c : Corner) (x : Sample) (p : Part) : (takeSample c x p).portW = p.portW := by unfold takeSample; split <;> simp
@[simp] theorem takeSample_intervalAt (c : Corner) (x : Sample) (p : Part) : (takeSample c x p).intervalAt = p.intervalAt := by unfold takeSample; split <;> simp
@[simp] theorem takeSample_link (c : Corner) (x : Sample) (p : Part) : (takeSample c x p).link = p.link := by unfold takeSample; split <;> simp
@[simp] theorem takeSample_slot (c : Corner) (x : Sample) (p : Part) : (takeSample c x p).slot = p.slot := by unfold takeSample; split <;> simp
@[simp] theorem takeSample_params (c : Corner) (x : Sample) (p : Part) : (takeSample c x p).params = p.params := by unfold takeSample; split <;> simp
@[simp] theorem takeSample_pins (c : Corner) (x : Sample) (p : Part) : (takeSample c x p).pins = p.pins := by unfold takeSample; split <;> simp
@[simp] theorem takeSample_port (c : Corner) (x : Sample) (r : Port) (p : Part) : (takeSample c x p).port r = p.port r := by unfold takeSample; split <;> simp

/-! ## offerSample -/

@[simp] theorem offerSample_now (c : Corner) (payload : List Byte) (p : Part) : (offerSample c payload p).now = p.now := by
  unfold offerSample
  dsimp only
  split
  · simp
  · split
    · simp
    · split <;> simp
@[simp] theorem offerSample_straps (c : Corner) (payload : List Byte) (p : Part) : (offerSample c payload p).straps = p.straps := by
  unfold offerSample
  dsimp only
  split
  · simp
  · split
    · simp
    · split <;> simp
@[simp] theorem offerSample_context (c : Corner) (payload : List Byte) (p : Part) : (offerSample c payload p).context = p.context := by
  unfold offerSample
  dsimp only
  split
  · simp
  · split
    · simp
    · split <;> simp
@[simp] theorem offerSample_schedule (c : Corner) (payload : List Byte) (p : Part) : (offerSample c payload p).schedule = p.schedule := by
  unfold offerSample
  dsimp only
  split
  · simp
  · split
    · simp
    · split <;> simp
@[simp] theorem offerSample_store (c : Corner) (payload : List Byte) (p : Part) : (offerSample c payload p).store = p.store := by
  unfold offerSample
  dsimp only
  split
  · simp
  · split
    · simp
    · split <;> simp
@[simp] theorem offerSample_pwm (c : Corner) (payload : List Byte) (p : Part) : (offerSample c payload p).pwm = p.pwm := by
  unfold offerSample
  dsimp only
  split
  · simp
  · split
    · simp
    · split <;> simp
@[simp] theorem offerSample_supply (c : Corner) (payload : List Byte) (p : Part) : (offerSample c payload p).supply = p.supply := by
  unfold offerSample
  dsimp only
  split
  · simp
  · split
    · simp
    · split <;> simp
@[simp] theorem offerSample_portS (c : Corner) (payload : List Byte) (p : Part) : (offerSample c payload p).portS = p.portS := by
  unfold offerSample
  dsimp only
  split
  · simp
  · split
    · simp
    · split <;> simp
@[simp] theorem offerSample_portW (c : Corner) (payload : List Byte) (p : Part) : (offerSample c payload p).portW = p.portW := by
  unfold offerSample
  dsimp only
  split
  · simp
  · split
    · simp
    · split <;> simp
@[simp] theorem offerSample_intervalAt (c : Corner) (payload : List Byte) (p : Part) : (offerSample c payload p).intervalAt = p.intervalAt := by
  unfold offerSample
  dsimp only
  split
  · simp
  · split
    · simp
    · split <;> simp
@[simp] theorem offerSample_link (c : Corner) (payload : List Byte) (p : Part) : (offerSample c payload p).link = p.link := by
  unfold offerSample
  dsimp only
  split
  · simp
  · split
    · simp
    · split <;> simp
@[simp] theorem offerSample_slot (c : Corner) (payload : List Byte) (p : Part) : (offerSample c payload p).slot = p.slot := by
  unfold offerSample
  dsimp only
  split
  · simp
  · split
    · simp
    · split <;> simp
@[simp] theorem offerSample_params (c : Corner) (payload : List Byte) (p : Part) : (offerSample c payload p).params = p.params := by
  unfold offerSample
  dsimp only
  split
  · simp
  · split
    · simp
    · split <;> simp
@[simp] theorem offerSample_pins (c : Corner) (payload : List Byte) (p : Part) : (offerSample c payload p).pins = p.pins := by
  unfold offerSample
  dsimp only
  split
  · simp
  · split
    · simp
    · split <;> simp
@[simp] theorem offerSample_port (c : Corner) (payload : List Byte) (r : Port) (p : Part) : (offerSample c payload p).port r = p.port r := by
  unfold offerSample
  dsimp only
  split
  · simp
  · split
    · simp
    · split <;> simp

/-! ## countWindow -/

@[simp] theorem countWindow_now (c : Corner) (e : Episode) (w : Nat) (p : Part) : (countWindow c e w p).now = p.now := by unfold countWindow; split <;> simp
@[simp] theorem countWindow_straps (c : Corner) (e : Episode) (w : Nat) (p : Part) : (countWindow c e w p).straps = p.straps := by unfold countWindow; split <;> simp
@[simp] theorem countWindow_tracker (c : Corner) (e : Episode) (w : Nat) (p : Part) : (countWindow c e w p).tracker = p.tracker := by unfold countWindow; split <;> simp
@[simp] theorem countWindow_context (c : Corner) (e : Episode) (w : Nat) (p : Part) : (countWindow c e w p).context = p.context := by unfold countWindow; split <;> simp
@[simp] theorem countWindow_control (c : Corner) (e : Episode) (w : Nat) (p : Part) : (countWindow c e w p).control = p.control := by unfold countWindow; split <;> simp
@[simp] theorem countWindow_schedule (c : Corner) (e : Episode) (w : Nat) (p : Part) : (countWindow c e w p).schedule = p.schedule := by unfold countWindow; split <;> simp
@[simp] theorem countWindow_selection (c : Corner) (e : Episode) (w : Nat) (p : Part) : (countWindow c e w p).selection = p.selection := by unfold countWindow; split <;> simp
@[simp] theorem countWindow_store (c : Corner) (e : Episode) (w : Nat) (p : Part) : (countWindow c e w p).store = p.store := by unfold countWindow; split <;> simp
@[simp] theorem countWindow_pwm (c : Corner) (e : Episode) (w : Nat) (p : Part) : (countWindow c e w p).pwm = p.pwm := by unfold countWindow; split <;> simp
@[simp] theorem countWindow_supply (c : Corner) (e : Episode) (w : Nat) (p : Part) : (countWindow c e w p).supply = p.supply := by unfold countWindow; split <;> simp
@[simp] theorem countWindow_portS (c : Corner) (e : Episode) (w : Nat) (p : Part) : (countWindow c e w p).portS = p.portS := by unfold countWindow; split <;> simp
@[simp] theorem countWindow_portW (c : Corner) (e : Episode) (w : Nat) (p : Part) : (countWindow c e w p).portW = p.portW := by unfold countWindow; split <;> simp
@[simp] theorem countWindow_intervalAt (c : Corner) (e : Episode) (w : Nat) (p : Part) : (countWindow c e w p).intervalAt = p.intervalAt := by unfold countWindow; split <;> simp
@[simp] theorem countWindow_link (c : Corner) (e : Episode) (w : Nat) (p : Part) : (countWindow c e w p).link = p.link := by unfold countWindow; split <;> simp
@[simp] theorem countWindow_slot (c : Corner) (e : Episode) (w : Nat) (p : Part) : (countWindow c e w p).slot = p.slot := by unfold countWindow; split <;> simp
@[simp] theorem countWindow_params (c : Corner) (e : Episode) (w : Nat) (p : Part) : (countWindow c e w p).params = p.params := by unfold countWindow; split <;> simp
@[simp] theorem countWindow_globals (c : Corner) (e : Episode) (w : Nat) (p : Part) : (countWindow c e w p).globals = p.globals := by unfold countWindow; split <;> simp
@[simp] theorem countWindow_pins (c : Corner) (e : Episode) (w : Nat) (p : Part) : (countWindow c e w p).pins = p.pins := by unfold countWindow; split <;> simp
@[simp] theorem countWindow_port (c : Corner) (e : Episode) (w : Nat) (r : Port) (p : Part) : (countWindow c e w p).port r = p.port r := by unfold countWindow; split <;> simp

/-! ## episodeAtCycleStart -/

@[simp] theorem episodeAtCycleStart_now (c : Corner) (p : Part) : (episodeAtCycleStart c p).now = p.now := by unfold episodeAtCycleStart; split <;> simp
@[simp] theorem episodeAtCycleStart_straps (c : Corner) (p : Part) : (episodeAtCycleStart c p).straps = p.straps := by unfold episodeAtCycleStart; split <;> simp
@[simp] theorem episodeAtCycleStart_tracker (c : Corner) (p : Part) : (episodeAtCycleStart c p).tracker = p.tracker := by unfold episodeAtCycleStart; split <;> simp
@[simp] theorem episodeAtCycleStart_context (c : Corner) (p : Part) : (episodeAtCycleStart c p).context = p.context := by unfold episodeAtCycleStart; split <;> simp
@[simp] theorem episodeAtCycleStart_control (c : Corner) (p : Part) : (episodeAtCycleStart c p).control = p.control := by unfold episodeAtCycleStart; split <;> simp
@[simp] theorem episodeAtCycleStart_schedule (c : Corner) (p : Part) : (episodeAtCycleStart c p).schedule = p.schedule := by unfold episodeAtCycleStart; split <;> simp
@[simp] theorem episodeAtCycleStart_selection (c : Corner) (p : Part) : (episodeAtCycleStart c p).selection = p.selection := by unfold episodeAtCycleStart; split <;> simp
@[simp] theorem episodeAtCycleStart_store (c : Corner) (p : Part) : (episodeAtCycleStart c p).store = p.store := by unfold episodeAtCycleStart; split <;> simp
@[simp] theorem episodeAtCycleStart_pwm (c : Corner) (p : Part) : (episodeAtCycleStart c p).pwm = p.pwm := by unfold episodeAtCycleStart; split <;> simp
@[simp] theorem episodeAtCycleStart_supply (c : Corner) (p : Part) : (episodeAtCycleStart c p).supply = p.supply := by unfold episodeAtCycleStart; split <;> simp
@[simp] theorem episodeAtCycleStart_portS (c : Corner) (p : Part) : (episodeAtCycleStart c p).portS = p.portS := by unfold episodeAtCycleStart; split <;> simp
@[simp] theorem episodeAtCycleStart_portW (c : Corner) (p : Part) : (episodeAtCycleStart c p).portW = p.portW := by unfold episodeAtCycleStart; split <;> simp
@[simp] theorem episodeAtCycleStart_intervalAt (c : Corner) (p : Part) : (episodeAtCycleStart c p).intervalAt = p.intervalAt := by unfold episodeAtCycleStart; split <;> simp
@[simp] theorem episodeAtCycleStart_link (c : Corner) (p : Part) : (episodeAtCycleStart c p).link = p.link := by unfold episodeAtCycleStart; split <;> simp
@[simp] theorem episodeAtCycleStart_slot (c : Corner) (p : Part) : (episodeAtCycleStart c p).slot = p.slot := by unfold episodeAtCycleStart; split <;> simp
@[simp] theorem episodeAtCycleStart_params (c : Corner) (p : Part) : (episodeAtCycleStart c p).params = p.params := by unfold episodeAtCycleStart; split <;> simp
@[simp] theorem episodeAtCycleStart_globals (c : Corner) (p : Part) : (episodeAtCycleStart c p).globals = p.globals := by unfold episodeAtCycleStart; split <;> simp
@[simp] theorem episodeAtCycleStart_pins (c : Corner) (p : Part) : (episodeAtCycleStart c p).pins = p.pins := by unfold episodeAtCycleStart; split <;> simp
@[simp] theorem episodeAtCycleStart_port (c : Corner) (r : Port) (p : Part) : (episodeAtCycleStart c p).port r = p.port r := by unfold episodeAtCycleStart; split <;> simp

/-! ## cornerAtCycleStart -/

@[simp] theorem cornerAtCycleStart_now (c : Corner) (p : Part) : (cornerAtCycleStart c p).now = p.now := by simp [cornerAtCycleStart]
@[simp] theorem cornerAtCycleStart_straps (c : Corner) (p : Part) : (cornerAtCycleStart c p).straps = p.straps := by simp [cornerAtCycleStart]
@[simp] theorem cornerAtCycleStart_tracker (c : Corner) (p : Part) : (cornerAtCycleStart c p).tracker = p.tracker := by simp [cornerAtCycleStart]
@[simp] theorem cornerAtCycleStart_context (c : Corner) (p : Part) : (cornerAtCycleStart c p).context = p.context := by simp [cornerAtCycleStart]
@[simp] theorem cornerAtCycleStart_schedule (c : Corner) (p : Part) : (cornerAtCycleStart c p).schedule = p.schedule := by simp [cornerAtCycleStart]
@[simp] theorem cornerAtCycleStart_selection (c : Corner) (p : Part) : (cornerAtCycleStart c p).selection = p.selection := by simp [cornerAtCycleStart]
@[simp] theorem cornerAtCycleStart_store (c : Corner) (p : Part) : (cornerAtCycleStart c p).store = p.store := by simp [cornerAtCycleStart]
@[simp] theorem cornerAtCycleStart_pwm (c : Corner) (p : Part) : (cornerAtCycleStart c p).pwm = p.pwm := by simp [cornerAtCycleStart]
@[simp] theorem cornerAtCycleStart_supply (c : Corner) (p : Part) : (cornerAtCycleStart c p).supply = p.supply := by simp [cornerAtCycleStart]
@[simp] theorem cornerAtCycleStart_portS (c : Corner) (p : Part) : (cornerAtCycleStart c p).portS = p.portS := by simp [cornerAtCycleStart]
@[simp] theorem cornerAtCycleStart_portW (c : Corner) (p : Part) : (cornerAtCycleStart c p).portW = p.portW := by simp [cornerAtCycleStart]
@[simp] theorem cornerAtCycleStart_intervalAt (c : Corner) (p : Part) : (cornerAtCycleStart c p).intervalAt = p.intervalAt := by simp [cornerAtCycleStart]
@[simp] theorem cornerAtCycleStart_link (c : Corner) (p : Part) : (cornerAtCycleStart c p).link = p.link := by simp [cornerAtCycleStart]
@[simp] theorem cornerAtCycleStart_slot (c : Corner) (p : Part) : (cornerAtCycleStart c p).slot = p.slot := by simp [cornerAtCycleStart]
@[simp] theorem cornerAtCycleStart_params (c : Corner) (p : Part) : (cornerAtCycleStart c p).params = p.params := by simp [cornerAtCycleStart]
@[simp] theorem cornerAtCycleStart_globals (c : Corner) (p : Part) : (cornerAtCycleStart c p).globals = p.globals := by simp [cornerAtCycleStart]
@[simp] theorem cornerAtCycleStart_pins (c : Corner) (p : Part) : (cornerAtCycleStart c p).pins = p.pins := by simp [cornerAtCycleStart]
@[simp] theorem cornerAtCycleStart_port (c : Corner) (r : Port) (p : Part) : (cornerAtCycleStart c p).port r = p.port r := by simp [cornerAtCycleStart]

/-! ## computeHeld -/

@[simp] theorem computeHeld_now (c : Corner) (p : Part) : (computeHeld c p).now = p.now := by unfold computeHeld; split <;> simp
@[simp] theorem computeHeld_straps (c : Corner) (p : Part) : (computeHeld c p).straps = p.straps := by unfold computeHeld; split <;> simp
@[simp] theorem computeHeld_context (c : Corner) (p : Part) : (computeHeld c p).context = p.context := by unfold computeHeld; split <;> simp
@[simp] theorem computeHeld_schedule (c : Corner) (p : Part) : (computeHeld c p).schedule = p.schedule := by unfold computeHeld; split <;> simp
@[simp] theorem computeHeld_store (c : Corner) (p : Part) : (computeHeld c p).store = p.store := by unfold computeHeld; split <;> simp
@[simp] theorem computeHeld_pwm (c : Corner) (p : Part) : (computeHeld c p).pwm = p.pwm := by unfold computeHeld; split <;> simp
@[simp] theorem computeHeld_supply (c : Corner) (p : Part) : (computeHeld c p).supply = p.supply := by unfold computeHeld; split <;> simp
@[simp] theorem computeHeld_portS (c : Corner) (p : Part) : (computeHeld c p).portS = p.portS := by unfold computeHeld; split <;> simp
@[simp] theorem computeHeld_portW (c : Corner) (p : Part) : (computeHeld c p).portW = p.portW := by unfold computeHeld; split <;> simp
@[simp] theorem computeHeld_intervalAt (c : Corner) (p : Part) : (computeHeld c p).intervalAt = p.intervalAt := by unfold computeHeld; split <;> simp
@[simp] theorem computeHeld_link (c : Corner) (p : Part) : (computeHeld c p).link = p.link := by unfold computeHeld; split <;> simp
@[simp] theorem computeHeld_slot (c : Corner) (p : Part) : (computeHeld c p).slot = p.slot := by unfold computeHeld; split <;> simp
@[simp] theorem computeHeld_params (c : Corner) (p : Part) : (computeHeld c p).params = p.params := by unfold computeHeld; split <;> simp
@[simp] theorem computeHeld_globals (c : Corner) (p : Part) : (computeHeld c p).globals = p.globals := by unfold computeHeld; split <;> simp
@[simp] theorem computeHeld_pins (c : Corner) (p : Part) : (computeHeld c p).pins = p.pins := by unfold computeHeld; split <;> simp
@[simp] theorem computeHeld_port (c : Corner) (r : Port) (p : Part) : (computeHeld c p).port r = p.port r := by unfold computeHeld; split <;> simp

/-! ## closeCycle -/

@[simp] theorem closeCycle_now (p : Part) : (closeCycle p).now = p.now := by simp [closeCycle, forCorners]
@[simp] theorem closeCycle_straps (p : Part) : (closeCycle p).straps = p.straps := by simp [closeCycle, forCorners]
@[simp] theorem closeCycle_context (p : Part) : (closeCycle p).context = p.context := by simp [closeCycle, forCorners]
@[simp] theorem closeCycle_schedule (p : Part) : (closeCycle p).schedule = p.schedule := by simp [closeCycle, forCorners]
@[simp] theorem closeCycle_store (p : Part) : (closeCycle p).store = p.store := by simp [closeCycle, forCorners]
@[simp] theorem closeCycle_pwm (p : Part) : (closeCycle p).pwm = p.pwm := by simp [closeCycle, forCorners]
@[simp] theorem closeCycle_supply (p : Part) : (closeCycle p).supply = p.supply := by simp [closeCycle, forCorners]
@[simp] theorem closeCycle_portW (p : Part) : (closeCycle p).portW = p.portW := by simp [closeCycle, forCorners]
@[simp] theorem closeCycle_intervalAt (p : Part) : (closeCycle p).intervalAt = p.intervalAt := by simp [closeCycle, forCorners]
@[simp] theorem closeCycle_slot (p : Part) : (closeCycle p).slot = p.slot := by simp [closeCycle, forCorners]
@[simp] theorem closeCycle_params (p : Part) : (closeCycle p).params = p.params := by simp [closeCycle, forCorners]
@[simp] theorem closeCycle_pins (p : Part) : (closeCycle p).pins = p.pins := by simp [closeCycle, forCorners]

/-! ## closeOpen -/

@[simp] theorem closeOpen_now (p : Part) : (closeOpen p).now = p.now := by unfold closeOpen; split <;> simp
@[simp] theorem closeOpen_straps (p : Part) : (closeOpen p).straps = p.straps := by unfold closeOpen; split <;> simp
@[simp] theorem closeOpen_context (p : Part) : (closeOpen p).context = p.context := by unfold closeOpen; split <;> simp
@[simp] theorem closeOpen_schedule (p : Part) : (closeOpen p).schedule = p.schedule := by unfold closeOpen; split <;> simp
@[simp] theorem closeOpen_store (p : Part) : (closeOpen p).store = p.store := by unfold closeOpen; split <;> simp
@[simp] theorem closeOpen_pwm (p : Part) : (closeOpen p).pwm = p.pwm := by unfold closeOpen; split <;> simp
@[simp] theorem closeOpen_supply (p : Part) : (closeOpen p).supply = p.supply := by unfold closeOpen; split <;> simp
@[simp] theorem closeOpen_portW (p : Part) : (closeOpen p).portW = p.portW := by unfold closeOpen; split <;> simp
@[simp] theorem closeOpen_intervalAt (p : Part) : (closeOpen p).intervalAt = p.intervalAt := by unfold closeOpen; split <;> simp
@[simp] theorem closeOpen_slot (p : Part) : (closeOpen p).slot = p.slot := by unfold closeOpen; split <;> simp
@[simp] theorem closeOpen_params (p : Part) : (closeOpen p).params = p.params := by unfold closeOpen; split <;> simp
@[simp] theorem closeOpen_pins (p : Part) : (closeOpen p).pins = p.pins := by unfold closeOpen; split <;> simp

/-! ## cycleStart -/

@[simp] theorem cycleStart_now (kind : StartKind) (number : Word) (p : Part) : (cycleStart kind number p).now = p.now := by simp [cycleStart, forCorners]
@[simp] theorem cycleStart_straps (kind : StartKind) (number : Word) (p : Part) : (cycleStart kind number p).straps = p.straps := by simp [cycleStart, forCorners]
@[simp] theorem cycleStart_context (kind : StartKind) (number : Word) (p : Part) : (cycleStart kind number p).context = p.context := by simp [cycleStart, forCorners]
@[simp] theorem cycleStart_schedule (kind : StartKind) (number : Word) (p : Part) : (cycleStart kind number p).schedule = p.schedule := by simp [cycleStart, forCorners]
@[simp] theorem cycleStart_selection (kind : StartKind) (number : Word) (p : Part) : (cycleStart kind number p).selection = p.selection := by simp [cycleStart, forCorners]
@[simp] theorem cycleStart_store (kind : StartKind) (number : Word) (p : Part) : (cycleStart kind number p).store = p.store := by simp [cycleStart, forCorners]
@[simp] theorem cycleStart_pwm (kind : StartKind) (number : Word) (p : Part) : (cycleStart kind number p).pwm = p.pwm := by simp [cycleStart, forCorners]
@[simp] theorem cycleStart_supply (kind : StartKind) (number : Word) (p : Part) : (cycleStart kind number p).supply = p.supply := by simp [cycleStart, forCorners]
@[simp] theorem cycleStart_portS (kind : StartKind) (number : Word) (p : Part) : (cycleStart kind number p).portS = p.portS := by simp [cycleStart, forCorners]
@[simp] theorem cycleStart_portW (kind : StartKind) (number : Word) (p : Part) : (cycleStart kind number p).portW = p.portW := by simp [cycleStart, forCorners]
@[simp] theorem cycleStart_intervalAt (kind : StartKind) (number : Word) (p : Part) : (cycleStart kind number p).intervalAt = p.intervalAt := by simp [cycleStart, forCorners]
@[simp] theorem cycleStart_link (kind : StartKind) (number : Word) (p : Part) : (cycleStart kind number p).link = p.link := by simp [cycleStart, forCorners]
@[simp] theorem cycleStart_slot (kind : StartKind) (number : Word) (p : Part) : (cycleStart kind number p).slot = p.slot := by simp [cycleStart, forCorners]
@[simp] theorem cycleStart_params (kind : StartKind) (number : Word) (p : Part) : (cycleStart kind number p).params = p.params := by simp [cycleStart, forCorners]
@[simp] theorem cycleStart_globals (kind : StartKind) (number : Word) (p : Part) : (cycleStart kind number p).globals = p.globals := by simp [cycleStart, forCorners]
@[simp] theorem cycleStart_pins (kind : StartKind) (number : Word) (p : Part) : (cycleStart kind number p).pins = p.pins := by simp [cycleStart, forCorners]
@[simp] theorem cycleStart_port (kind : StartKind) (number : Word) (r : Port) (p : Part) : (cycleStart kind number p).port r = p.port r := by simp [cycleStart, forCorners]

/-! ## adopt -/

@[simp] theorem adopt_now (x : CycPayload) (p : Part) : (adopt x p).now = p.now := by simp [adopt]
@[simp] theorem adopt_straps (x : CycPayload) (p : Part) : (adopt x p).straps = p.straps := by simp [adopt]
@[simp] theorem adopt_tracker (x : CycPayload) (p : Part) : (adopt x p).tracker = p.tracker := by simp [adopt]
@[simp] theorem adopt_corners (x : CycPayload) (p : Part) : (adopt x p).corners = p.corners := by simp [adopt]
@[simp] theorem adopt_control (x : CycPayload) (p : Part) : (adopt x p).control = p.control := by simp [adopt]
@[simp] theorem adopt_schedule (x : CycPayload) (p : Part) : (adopt x p).schedule = p.schedule := by simp [adopt]
@[simp] theorem adopt_selection (x : CycPayload) (p : Part) : (adopt x p).selection = p.selection := by simp [adopt]
@[simp] theorem adopt_store (x : CycPayload) (p : Part) : (adopt x p).store = p.store := by simp [adopt]
@[simp] theorem adopt_pwm (x : CycPayload) (p : Part) : (adopt x p).pwm = p.pwm := by simp [adopt]
@[simp] theorem adopt_supply (x : CycPayload) (p : Part) : (adopt x p).supply = p.supply := by simp [adopt]
@[simp] theorem adopt_portS (x : CycPayload) (p : Part) : (adopt x p).portS = p.portS := by simp [adopt]
@[simp] theorem adopt_portW (x : CycPayload) (p : Part) : (adopt x p).portW = p.portW := by simp [adopt]
@[simp] theorem adopt_intervalAt (x : CycPayload) (p : Part) : (adopt x p).intervalAt = p.intervalAt := by simp [adopt]
@[simp] theorem adopt_link (x : CycPayload) (p : Part) : (adopt x p).link = p.link := by simp [adopt]
@[simp] theorem adopt_slot (x : CycPayload) (p : Part) : (adopt x p).slot = p.slot := by simp [adopt]
@[simp] theorem adopt_params (x : CycPayload) (p : Part) : (adopt x p).params = p.params := by simp [adopt]
@[simp] theorem adopt_events (x : CycPayload) (p : Part) : (adopt x p).events = p.events := by simp [adopt]
@[simp] theorem adopt_pins (x : CycPayload) (p : Part) : (adopt x p).pins = p.pins := by simp [adopt]
@[simp] theorem adopt_corner (x : CycPayload) (d : Corner) (p : Part) : (adopt x p).corner d = p.corner d := by simp [adopt]
@[simp] theorem adopt_port (x : CycPayload) (r : Port) (p : Part) : (adopt x p).port r = p.port r := by simp [adopt]

/-! ## enterUnlocked -/

@[simp] theorem enterUnlocked_now (p : Part) : (enterUnlocked p).now = p.now := by simp [enterUnlocked, forCorners]
@[simp] theorem enterUnlocked_straps (p : Part) : (enterUnlocked p).straps = p.straps := by simp [enterUnlocked, forCorners]
@[simp] theorem enterUnlocked_context (p : Part) : (enterUnlocked p).context = p.context := by simp [enterUnlocked, forCorners]
@[simp] theorem enterUnlocked_control (p : Part) : (enterUnlocked p).control = p.control := by simp [enterUnlocked, forCorners]
@[simp] theorem enterUnlocked_schedule (p : Part) : (enterUnlocked p).schedule = p.schedule := by simp [enterUnlocked, forCorners]
@[simp] theorem enterUnlocked_selection (p : Part) : (enterUnlocked p).selection = p.selection := by simp [enterUnlocked, forCorners]
@[simp] theorem enterUnlocked_store (p : Part) : (enterUnlocked p).store = p.store := by simp [enterUnlocked, forCorners]
@[simp] theorem enterUnlocked_pwm (p : Part) : (enterUnlocked p).pwm = p.pwm := by simp [enterUnlocked, forCorners]
@[simp] theorem enterUnlocked_supply (p : Part) : (enterUnlocked p).supply = p.supply := by simp [enterUnlocked, forCorners]
@[simp] theorem enterUnlocked_portS (p : Part) : (enterUnlocked p).portS = p.portS := by simp [enterUnlocked, forCorners]
@[simp] theorem enterUnlocked_portW (p : Part) : (enterUnlocked p).portW = p.portW := by simp [enterUnlocked, forCorners]
@[simp] theorem enterUnlocked_intervalAt (p : Part) : (enterUnlocked p).intervalAt = p.intervalAt := by simp [enterUnlocked, forCorners]
@[simp] theorem enterUnlocked_link (p : Part) : (enterUnlocked p).link = p.link := by simp [enterUnlocked, forCorners]
@[simp] theorem enterUnlocked_slot (p : Part) : (enterUnlocked p).slot = p.slot := by simp [enterUnlocked, forCorners]
@[simp] theorem enterUnlocked_params (p : Part) : (enterUnlocked p).params = p.params := by simp [enterUnlocked, forCorners]
@[simp] theorem enterUnlocked_globals (p : Part) : (enterUnlocked p).globals = p.globals := by simp [enterUnlocked, forCorners]
@[simp] theorem enterUnlocked_pins (p : Part) : (enterUnlocked p).pins = p.pins := by simp [enterUnlocked, forCorners]
@[simp] theorem enterUnlocked_port (r : Port) (p : Part) : (enterUnlocked p).port r = p.port r := by simp [enterUnlocked, forCorners]

/-! ## enterLocal -/

@[simp] theorem enterLocal_now (cause : Byte) (p : Part) : (enterLocal cause p).now = p.now := by simp [enterLocal]
@[simp] theorem enterLocal_straps (cause : Byte) (p : Part) : (enterLocal cause p).straps = p.straps := by simp [enterLocal]
@[simp] theorem enterLocal_corners (cause : Byte) (p : Part) : (enterLocal cause p).corners = p.corners := by simp [enterLocal]
@[simp] theorem enterLocal_control (cause : Byte) (p : Part) : (enterLocal cause p).control = p.control := by simp [enterLocal]
@[simp] theorem enterLocal_schedule (cause : Byte) (p : Part) : (enterLocal cause p).schedule = p.schedule := by simp [enterLocal]
@[simp] theorem enterLocal_selection (cause : Byte) (p : Part) : (enterLocal cause p).selection = p.selection := by simp [enterLocal]
@[simp] theorem enterLocal_store (cause : Byte) (p : Part) : (enterLocal cause p).store = p.store := by simp [enterLocal]
@[simp] theorem enterLocal_pwm (cause : Byte) (p : Part) : (enterLocal cause p).pwm = p.pwm := by simp [enterLocal]
@[simp] theorem enterLocal_supply (cause : Byte) (p : Part) : (enterLocal cause p).supply = p.supply := by simp [enterLocal]
@[simp] theorem enterLocal_portS (cause : Byte) (p : Part) : (enterLocal cause p).portS = p.portS := by simp [enterLocal]
@[simp] theorem enterLocal_portW (cause : Byte) (p : Part) : (enterLocal cause p).portW = p.portW := by simp [enterLocal]
@[simp] theorem enterLocal_intervalAt (cause : Byte) (p : Part) : (enterLocal cause p).intervalAt = p.intervalAt := by simp [enterLocal]
@[simp] theorem enterLocal_link (cause : Byte) (p : Part) : (enterLocal cause p).link = p.link := by simp [enterLocal]
@[simp] theorem enterLocal_slot (cause : Byte) (p : Part) : (enterLocal cause p).slot = p.slot := by simp [enterLocal]
@[simp] theorem enterLocal_params (cause : Byte) (p : Part) : (enterLocal cause p).params = p.params := by simp [enterLocal]
@[simp] theorem enterLocal_globals (cause : Byte) (p : Part) : (enterLocal cause p).globals = p.globals := by simp [enterLocal]
@[simp] theorem enterLocal_pins (cause : Byte) (p : Part) : (enterLocal cause p).pins = p.pins := by simp [enterLocal]
@[simp] theorem enterLocal_corner (cause : Byte) (d : Corner) (p : Part) : (enterLocal cause p).corner d = p.corner d := by simp [enterLocal]
@[simp] theorem enterLocal_port (cause : Byte) (r : Port) (p : Part) : (enterLocal cause p).port r = p.port r := by simp [enterLocal]

/-! ## enterHoldover -/

@[simp] theorem enterHoldover_now (p : Part) : (enterHoldover p).now = p.now := by simp [enterHoldover]
@[simp] theorem enterHoldover_straps (p : Part) : (enterHoldover p).straps = p.straps := by simp [enterHoldover]
@[simp] theorem enterHoldover_corners (p : Part) : (enterHoldover p).corners = p.corners := by simp [enterHoldover]
@[simp] theorem enterHoldover_control (p : Part) : (enterHoldover p).control = p.control := by simp [enterHoldover]
@[simp] theorem enterHoldover_schedule (p : Part) : (enterHoldover p).schedule = p.schedule := by simp [enterHoldover]
@[simp] theorem enterHoldover_selection (p : Part) : (enterHoldover p).selection = p.selection := by simp [enterHoldover]
@[simp] theorem enterHoldover_store (p : Part) : (enterHoldover p).store = p.store := by simp [enterHoldover]
@[simp] theorem enterHoldover_pwm (p : Part) : (enterHoldover p).pwm = p.pwm := by simp [enterHoldover]
@[simp] theorem enterHoldover_supply (p : Part) : (enterHoldover p).supply = p.supply := by simp [enterHoldover]
@[simp] theorem enterHoldover_portS (p : Part) : (enterHoldover p).portS = p.portS := by simp [enterHoldover]
@[simp] theorem enterHoldover_portW (p : Part) : (enterHoldover p).portW = p.portW := by simp [enterHoldover]
@[simp] theorem enterHoldover_intervalAt (p : Part) : (enterHoldover p).intervalAt = p.intervalAt := by simp [enterHoldover]
@[simp] theorem enterHoldover_link (p : Part) : (enterHoldover p).link = p.link := by simp [enterHoldover]
@[simp] theorem enterHoldover_slot (p : Part) : (enterHoldover p).slot = p.slot := by simp [enterHoldover]
@[simp] theorem enterHoldover_params (p : Part) : (enterHoldover p).params = p.params := by simp [enterHoldover]
@[simp] theorem enterHoldover_globals (p : Part) : (enterHoldover p).globals = p.globals := by simp [enterHoldover]
@[simp] theorem enterHoldover_pins (p : Part) : (enterHoldover p).pins = p.pins := by simp [enterHoldover]
@[simp] theorem enterHoldover_corner (d : Corner) (p : Part) : (enterHoldover p).corner d = p.corner d := by simp [enterHoldover]
@[simp] theorem enterHoldover_port (r : Port) (p : Part) : (enterHoldover p).port r = p.port r := by simp [enterHoldover]

/-! ## countRun -/

@[simp] theorem countRun_now (p : Part) : (countRun p).now = p.now := by simp [countRun]
@[simp] theorem countRun_straps (p : Part) : (countRun p).straps = p.straps := by simp [countRun]
@[simp] theorem countRun_context (p : Part) : (countRun p).context = p.context := by simp [countRun]
@[simp] theorem countRun_corners (p : Part) : (countRun p).corners = p.corners := by simp [countRun]
@[simp] theorem countRun_control (p : Part) : (countRun p).control = p.control := by simp [countRun]
@[simp] theorem countRun_schedule (p : Part) : (countRun p).schedule = p.schedule := by simp [countRun]
@[simp] theorem countRun_selection (p : Part) : (countRun p).selection = p.selection := by simp [countRun]
@[simp] theorem countRun_store (p : Part) : (countRun p).store = p.store := by simp [countRun]
@[simp] theorem countRun_pwm (p : Part) : (countRun p).pwm = p.pwm := by simp [countRun]
@[simp] theorem countRun_supply (p : Part) : (countRun p).supply = p.supply := by simp [countRun]
@[simp] theorem countRun_portS (p : Part) : (countRun p).portS = p.portS := by simp [countRun]
@[simp] theorem countRun_portW (p : Part) : (countRun p).portW = p.portW := by simp [countRun]
@[simp] theorem countRun_intervalAt (p : Part) : (countRun p).intervalAt = p.intervalAt := by simp [countRun]
@[simp] theorem countRun_link (p : Part) : (countRun p).link = p.link := by simp [countRun]
@[simp] theorem countRun_slot (p : Part) : (countRun p).slot = p.slot := by simp [countRun]
@[simp] theorem countRun_params (p : Part) : (countRun p).params = p.params := by simp [countRun]
@[simp] theorem countRun_events (p : Part) : (countRun p).events = p.events := by simp [countRun]
@[simp] theorem countRun_globals (p : Part) : (countRun p).globals = p.globals := by simp [countRun]
@[simp] theorem countRun_pins (p : Part) : (countRun p).pins = p.pins := by simp [countRun]
@[simp] theorem countRun_corner (d : Corner) (p : Part) : (countRun p).corner d = p.corner d := by simp [countRun]
@[simp] theorem countRun_port (r : Port) (p : Part) : (countRun p).port r = p.port r := by simp [countRun]

/-! ## originate -/

@[simp] theorem originate_now (p : Part) : (originate p).now = p.now := by simp [originate]
@[simp] theorem originate_straps (p : Part) : (originate p).straps = p.straps := by simp [originate]
@[simp] theorem originate_context (p : Part) : (originate p).context = p.context := by simp [originate]
@[simp] theorem originate_schedule (p : Part) : (originate p).schedule = p.schedule := by simp [originate]
@[simp] theorem originate_store (p : Part) : (originate p).store = p.store := by simp [originate]
@[simp] theorem originate_pwm (p : Part) : (originate p).pwm = p.pwm := by simp [originate]
@[simp] theorem originate_supply (p : Part) : (originate p).supply = p.supply := by simp [originate]
@[simp] theorem originate_intervalAt (p : Part) : (originate p).intervalAt = p.intervalAt := by simp [originate]
@[simp] theorem originate_slot (p : Part) : (originate p).slot = p.slot := by simp [originate]
@[simp] theorem originate_params (p : Part) : (originate p).params = p.params := by simp [originate]
@[simp] theorem originate_pins (p : Part) : (originate p).pins = p.pins := by simp [originate]

/-! ## stopSubstitution -/

@[simp] theorem stopSubstitution_now (p : Part) : (stopSubstitution p).now = p.now := by unfold stopSubstitution; split <;> simp
@[simp] theorem stopSubstitution_straps (p : Part) : (stopSubstitution p).straps = p.straps := by unfold stopSubstitution; split <;> simp
@[simp] theorem stopSubstitution_context (p : Part) : (stopSubstitution p).context = p.context := by unfold stopSubstitution; split <;> simp
@[simp] theorem stopSubstitution_schedule (p : Part) : (stopSubstitution p).schedule = p.schedule := by unfold stopSubstitution; split <;> simp
@[simp] theorem stopSubstitution_store (p : Part) : (stopSubstitution p).store = p.store := by unfold stopSubstitution; split <;> simp
@[simp] theorem stopSubstitution_pwm (p : Part) : (stopSubstitution p).pwm = p.pwm := by unfold stopSubstitution; split <;> simp
@[simp] theorem stopSubstitution_supply (p : Part) : (stopSubstitution p).supply = p.supply := by unfold stopSubstitution; split <;> simp
@[simp] theorem stopSubstitution_portW (p : Part) : (stopSubstitution p).portW = p.portW := by unfold stopSubstitution; split <;> simp
@[simp] theorem stopSubstitution_intervalAt (p : Part) : (stopSubstitution p).intervalAt = p.intervalAt := by unfold stopSubstitution; split <;> simp
@[simp] theorem stopSubstitution_slot (p : Part) : (stopSubstitution p).slot = p.slot := by unfold stopSubstitution; split <;> simp
@[simp] theorem stopSubstitution_params (p : Part) : (stopSubstitution p).params = p.params := by unfold stopSubstitution; split <;> simp
@[simp] theorem stopSubstitution_pins (p : Part) : (stopSubstitution p).pins = p.pins := by unfold stopSubstitution; split <;> simp

/-! ## takeCyc -/

@[simp] theorem takeCyc_now (dst src : Byte) (x : CycPayload) (p : Part) : (takeCyc dst src x p).now = p.now := by unfold takeCyc; split <;> simp
@[simp] theorem takeCyc_straps (dst src : Byte) (x : CycPayload) (p : Part) : (takeCyc dst src x p).straps = p.straps := by unfold takeCyc; split <;> simp
@[simp] theorem takeCyc_schedule (dst src : Byte) (x : CycPayload) (p : Part) : (takeCyc dst src x p).schedule = p.schedule := by unfold takeCyc; split <;> simp
@[simp] theorem takeCyc_store (dst src : Byte) (x : CycPayload) (p : Part) : (takeCyc dst src x p).store = p.store := by unfold takeCyc; split <;> simp
@[simp] theorem takeCyc_pwm (dst src : Byte) (x : CycPayload) (p : Part) : (takeCyc dst src x p).pwm = p.pwm := by unfold takeCyc; split <;> simp
@[simp] theorem takeCyc_supply (dst src : Byte) (x : CycPayload) (p : Part) : (takeCyc dst src x p).supply = p.supply := by unfold takeCyc; split <;> simp
@[simp] theorem takeCyc_intervalAt (dst src : Byte) (x : CycPayload) (p : Part) : (takeCyc dst src x p).intervalAt = p.intervalAt := by unfold takeCyc; split <;> simp
@[simp] theorem takeCyc_slot (dst src : Byte) (x : CycPayload) (p : Part) : (takeCyc dst src x p).slot = p.slot := by unfold takeCyc; split <;> simp
@[simp] theorem takeCyc_params (dst src : Byte) (x : CycPayload) (p : Part) : (takeCyc dst src x p).params = p.params := by unfold takeCyc; split <;> simp
@[simp] theorem takeCyc_pins (dst src : Byte) (x : CycPayload) (p : Part) : (takeCyc dst src x p).pins = p.pins := by unfold takeCyc; split <;> simp

/-! ## missExpiry -/

@[simp] theorem missExpiry_now (p : Part) : (missExpiry p).now = p.now := by
  unfold missExpiry
  split
  · rfl
  · split <;> simp
  · split <;> simp
  · simp
@[simp] theorem missExpiry_straps (p : Part) : (missExpiry p).straps = p.straps := by
  unfold missExpiry
  split
  · rfl
  · split <;> simp
  · split <;> simp
  · simp
@[simp] theorem missExpiry_schedule (p : Part) : (missExpiry p).schedule = p.schedule := by
  unfold missExpiry
  split
  · rfl
  · split <;> simp
  · split <;> simp
  · simp
@[simp] theorem missExpiry_store (p : Part) : (missExpiry p).store = p.store := by
  unfold missExpiry
  split
  · rfl
  · split <;> simp
  · split <;> simp
  · simp
@[simp] theorem missExpiry_pwm (p : Part) : (missExpiry p).pwm = p.pwm := by
  unfold missExpiry
  split
  · rfl
  · split <;> simp
  · split <;> simp
  · simp
@[simp] theorem missExpiry_supply (p : Part) : (missExpiry p).supply = p.supply := by
  unfold missExpiry
  split
  · rfl
  · split <;> simp
  · split <;> simp
  · simp
@[simp] theorem missExpiry_intervalAt (p : Part) : (missExpiry p).intervalAt = p.intervalAt := by
  unfold missExpiry
  split
  · rfl
  · split <;> simp
  · split <;> simp
  · simp
@[simp] theorem missExpiry_slot (p : Part) : (missExpiry p).slot = p.slot := by
  unfold missExpiry
  split
  · rfl
  · split <;> simp
  · split <;> simp
  · simp
@[simp] theorem missExpiry_params (p : Part) : (missExpiry p).params = p.params := by
  unfold missExpiry
  split
  · rfl
  · split <;> simp
  · split <;> simp
  · simp
@[simp] theorem missExpiry_pins (p : Part) : (missExpiry p).pins = p.pins := by
  unfold missExpiry
  split
  · rfl
  · split <;> simp
  · split <;> simp
  · simp

/-! ## handoffRegulating -/

@[simp] theorem handoffRegulating_now (c : Corner) (im : Int) (p : Part) : (handoffRegulating c im p).now = p.now := by
  unfold handoffRegulating
  dsimp only
  split
  · simp
  · split <;> simp
@[simp] theorem handoffRegulating_straps (c : Corner) (im : Int) (p : Part) : (handoffRegulating c im p).straps = p.straps := by
  unfold handoffRegulating
  dsimp only
  split
  · simp
  · split <;> simp
@[simp] theorem handoffRegulating_tracker (c : Corner) (im : Int) (p : Part) : (handoffRegulating c im p).tracker = p.tracker := by
  unfold handoffRegulating
  dsimp only
  split
  · simp
  · split <;> simp
@[simp] theorem handoffRegulating_context (c : Corner) (im : Int) (p : Part) : (handoffRegulating c im p).context = p.context := by
  unfold handoffRegulating
  dsimp only
  split
  · simp
  · split <;> simp
@[simp] theorem handoffRegulating_schedule (c : Corner) (im : Int) (p : Part) : (handoffRegulating c im p).schedule = p.schedule := by
  unfold handoffRegulating
  dsimp only
  split
  · simp
  · split <;> simp
@[simp] theorem handoffRegulating_selection (c : Corner) (im : Int) (p : Part) : (handoffRegulating c im p).selection = p.selection := by
  unfold handoffRegulating
  dsimp only
  split
  · simp
  · split <;> simp
@[simp] theorem handoffRegulating_store (c : Corner) (im : Int) (p : Part) : (handoffRegulating c im p).store = p.store := by
  unfold handoffRegulating
  dsimp only
  split
  · simp
  · split <;> simp
@[simp] theorem handoffRegulating_pwm (c : Corner) (im : Int) (p : Part) : (handoffRegulating c im p).pwm = p.pwm := by
  unfold handoffRegulating
  dsimp only
  split
  · simp
  · split <;> simp
@[simp] theorem handoffRegulating_supply (c : Corner) (im : Int) (p : Part) : (handoffRegulating c im p).supply = p.supply := by
  unfold handoffRegulating
  dsimp only
  split
  · simp
  · split <;> simp
@[simp] theorem handoffRegulating_portS (c : Corner) (im : Int) (p : Part) : (handoffRegulating c im p).portS = p.portS := by
  unfold handoffRegulating
  dsimp only
  split
  · simp
  · split <;> simp
@[simp] theorem handoffRegulating_portW (c : Corner) (im : Int) (p : Part) : (handoffRegulating c im p).portW = p.portW := by
  unfold handoffRegulating
  dsimp only
  split
  · simp
  · split <;> simp
@[simp] theorem handoffRegulating_intervalAt (c : Corner) (im : Int) (p : Part) : (handoffRegulating c im p).intervalAt = p.intervalAt := by
  unfold handoffRegulating
  dsimp only
  split
  · simp
  · split <;> simp
@[simp] theorem handoffRegulating_link (c : Corner) (im : Int) (p : Part) : (handoffRegulating c im p).link = p.link := by
  unfold handoffRegulating
  dsimp only
  split
  · simp
  · split <;> simp
@[simp] theorem handoffRegulating_slot (c : Corner) (im : Int) (p : Part) : (handoffRegulating c im p).slot = p.slot := by
  unfold handoffRegulating
  dsimp only
  split
  · simp
  · split <;> simp
@[simp] theorem handoffRegulating_params (c : Corner) (im : Int) (p : Part) : (handoffRegulating c im p).params = p.params := by
  unfold handoffRegulating
  dsimp only
  split
  · simp
  · split <;> simp
@[simp] theorem handoffRegulating_globals (c : Corner) (im : Int) (p : Part) : (handoffRegulating c im p).globals = p.globals := by
  unfold handoffRegulating
  dsimp only
  split
  · simp
  · split <;> simp
@[simp] theorem handoffRegulating_pins (c : Corner) (im : Int) (p : Part) : (handoffRegulating c im p).pins = p.pins := by
  unfold handoffRegulating
  dsimp only
  split
  · simp
  · split <;> simp
@[simp] theorem handoffRegulating_port (c : Corner) (im : Int) (r : Port) (p : Part) : (handoffRegulating c im p).port r = p.port r := by
  unfold handoffRegulating
  dsimp only
  split
  · simp
  · split <;> simp

/-! ## handoffTesting -/

@[simp] theorem handoffTesting_now (c : Corner) (im : Int) (r : TestRecord) (p : Part) : (handoffTesting c im r p).now = p.now := by
  unfold handoffTesting
  dsimp only
  split
  · simp
  · split <;> simp
@[simp] theorem handoffTesting_straps (c : Corner) (im : Int) (r : TestRecord) (p : Part) : (handoffTesting c im r p).straps = p.straps := by
  unfold handoffTesting
  dsimp only
  split
  · simp
  · split <;> simp
@[simp] theorem handoffTesting_tracker (c : Corner) (im : Int) (r : TestRecord) (p : Part) : (handoffTesting c im r p).tracker = p.tracker := by
  unfold handoffTesting
  dsimp only
  split
  · simp
  · split <;> simp
@[simp] theorem handoffTesting_context (c : Corner) (im : Int) (r : TestRecord) (p : Part) : (handoffTesting c im r p).context = p.context := by
  unfold handoffTesting
  dsimp only
  split
  · simp
  · split <;> simp
@[simp] theorem handoffTesting_control (c : Corner) (im : Int) (r : TestRecord) (p : Part) : (handoffTesting c im r p).control = p.control := by
  unfold handoffTesting
  dsimp only
  split
  · simp
  · split <;> simp
@[simp] theorem handoffTesting_schedule (c : Corner) (im : Int) (r : TestRecord) (p : Part) : (handoffTesting c im r p).schedule = p.schedule := by
  unfold handoffTesting
  dsimp only
  split
  · simp
  · split <;> simp
@[simp] theorem handoffTesting_selection (c : Corner) (im : Int) (r : TestRecord) (p : Part) : (handoffTesting c im r p).selection = p.selection := by
  unfold handoffTesting
  dsimp only
  split
  · simp
  · split <;> simp
@[simp] theorem handoffTesting_store (c : Corner) (im : Int) (r : TestRecord) (p : Part) : (handoffTesting c im r p).store = p.store := by
  unfold handoffTesting
  dsimp only
  split
  · simp
  · split <;> simp
@[simp] theorem handoffTesting_pwm (c : Corner) (im : Int) (r : TestRecord) (p : Part) : (handoffTesting c im r p).pwm = p.pwm := by
  unfold handoffTesting
  dsimp only
  split
  · simp
  · split <;> simp
@[simp] theorem handoffTesting_supply (c : Corner) (im : Int) (r : TestRecord) (p : Part) : (handoffTesting c im r p).supply = p.supply := by
  unfold handoffTesting
  dsimp only
  split
  · simp
  · split <;> simp
@[simp] theorem handoffTesting_portW (c : Corner) (im : Int) (r : TestRecord) (p : Part) : (handoffTesting c im r p).portW = p.portW := by
  unfold handoffTesting
  dsimp only
  split
  · simp
  · split <;> simp
@[simp] theorem handoffTesting_intervalAt (c : Corner) (im : Int) (r : TestRecord) (p : Part) : (handoffTesting c im r p).intervalAt = p.intervalAt := by
  unfold handoffTesting
  dsimp only
  split
  · simp
  · split <;> simp
@[simp] theorem handoffTesting_params (c : Corner) (im : Int) (r : TestRecord) (p : Part) : (handoffTesting c im r p).params = p.params := by
  unfold handoffTesting
  dsimp only
  split
  · simp
  · split <;> simp
@[simp] theorem handoffTesting_events (c : Corner) (im : Int) (r : TestRecord) (p : Part) : (handoffTesting c im r p).events = p.events := by
  unfold handoffTesting
  dsimp only
  split
  · simp
  · split <;> simp
@[simp] theorem handoffTesting_globals (c : Corner) (im : Int) (r : TestRecord) (p : Part) : (handoffTesting c im r p).globals = p.globals := by
  unfold handoffTesting
  dsimp only
  split
  · simp
  · split <;> simp
@[simp] theorem handoffTesting_pins (c : Corner) (im : Int) (r : TestRecord) (p : Part) : (handoffTesting c im r p).pins = p.pins := by
  unfold handoffTesting
  dsimp only
  split
  · simp
  · split <;> simp

/-! ## handoffLeak -/

@[simp] theorem handoffLeak_now (c : Corner) (im : Int) (p : Part) : (handoffLeak c im p).now = p.now := by unfold handoffLeak; split <;> simp
@[simp] theorem handoffLeak_straps (c : Corner) (im : Int) (p : Part) : (handoffLeak c im p).straps = p.straps := by unfold handoffLeak; split <;> simp
@[simp] theorem handoffLeak_tracker (c : Corner) (im : Int) (p : Part) : (handoffLeak c im p).tracker = p.tracker := by unfold handoffLeak; split <;> simp
@[simp] theorem handoffLeak_context (c : Corner) (im : Int) (p : Part) : (handoffLeak c im p).context = p.context := by unfold handoffLeak; split <;> simp
@[simp] theorem handoffLeak_schedule (c : Corner) (im : Int) (p : Part) : (handoffLeak c im p).schedule = p.schedule := by unfold handoffLeak; split <;> simp
@[simp] theorem handoffLeak_selection (c : Corner) (im : Int) (p : Part) : (handoffLeak c im p).selection = p.selection := by unfold handoffLeak; split <;> simp
@[simp] theorem handoffLeak_store (c : Corner) (im : Int) (p : Part) : (handoffLeak c im p).store = p.store := by unfold handoffLeak; split <;> simp
@[simp] theorem handoffLeak_pwm (c : Corner) (im : Int) (p : Part) : (handoffLeak c im p).pwm = p.pwm := by unfold handoffLeak; split <;> simp
@[simp] theorem handoffLeak_supply (c : Corner) (im : Int) (p : Part) : (handoffLeak c im p).supply = p.supply := by unfold handoffLeak; split <;> simp
@[simp] theorem handoffLeak_portS (c : Corner) (im : Int) (p : Part) : (handoffLeak c im p).portS = p.portS := by unfold handoffLeak; split <;> simp
@[simp] theorem handoffLeak_portW (c : Corner) (im : Int) (p : Part) : (handoffLeak c im p).portW = p.portW := by unfold handoffLeak; split <;> simp
@[simp] theorem handoffLeak_intervalAt (c : Corner) (im : Int) (p : Part) : (handoffLeak c im p).intervalAt = p.intervalAt := by unfold handoffLeak; split <;> simp
@[simp] theorem handoffLeak_link (c : Corner) (im : Int) (p : Part) : (handoffLeak c im p).link = p.link := by unfold handoffLeak; split <;> simp
@[simp] theorem handoffLeak_slot (c : Corner) (im : Int) (p : Part) : (handoffLeak c im p).slot = p.slot := by unfold handoffLeak; split <;> simp
@[simp] theorem handoffLeak_params (c : Corner) (im : Int) (p : Part) : (handoffLeak c im p).params = p.params := by unfold handoffLeak; split <;> simp
@[simp] theorem handoffLeak_globals (c : Corner) (im : Int) (p : Part) : (handoffLeak c im p).globals = p.globals := by unfold handoffLeak; split <;> simp
@[simp] theorem handoffLeak_pins (c : Corner) (im : Int) (p : Part) : (handoffLeak c im p).pins = p.pins := by unfold handoffLeak; split <;> simp
@[simp] theorem handoffLeak_port (c : Corner) (im : Int) (r : Port) (p : Part) : (handoffLeak c im p).port r = p.port r := by unfold handoffLeak; split <;> simp

/-! ## handoff -/

@[simp] theorem handoff_now (c : Corner) (im : Int) (p : Part) : (handoff c im p).now = p.now := by unfold handoff; split <;> simp
@[simp] theorem handoff_straps (c : Corner) (im : Int) (p : Part) : (handoff c im p).straps = p.straps := by unfold handoff; split <;> simp
@[simp] theorem handoff_tracker (c : Corner) (im : Int) (p : Part) : (handoff c im p).tracker = p.tracker := by unfold handoff; split <;> simp
@[simp] theorem handoff_context (c : Corner) (im : Int) (p : Part) : (handoff c im p).context = p.context := by unfold handoff; split <;> simp
@[simp] theorem handoff_schedule (c : Corner) (im : Int) (p : Part) : (handoff c im p).schedule = p.schedule := by unfold handoff; split <;> simp
@[simp] theorem handoff_selection (c : Corner) (im : Int) (p : Part) : (handoff c im p).selection = p.selection := by unfold handoff; split <;> simp
@[simp] theorem handoff_store (c : Corner) (im : Int) (p : Part) : (handoff c im p).store = p.store := by unfold handoff; split <;> simp
@[simp] theorem handoff_pwm (c : Corner) (im : Int) (p : Part) : (handoff c im p).pwm = p.pwm := by unfold handoff; split <;> simp
@[simp] theorem handoff_supply (c : Corner) (im : Int) (p : Part) : (handoff c im p).supply = p.supply := by unfold handoff; split <;> simp
@[simp] theorem handoff_portW (c : Corner) (im : Int) (p : Part) : (handoff c im p).portW = p.portW := by unfold handoff; split <;> simp
@[simp] theorem handoff_intervalAt (c : Corner) (im : Int) (p : Part) : (handoff c im p).intervalAt = p.intervalAt := by unfold handoff; split <;> simp
@[simp] theorem handoff_params (c : Corner) (im : Int) (p : Part) : (handoff c im p).params = p.params := by unfold handoff; split <;> simp
@[simp] theorem handoff_globals (c : Corner) (im : Int) (p : Part) : (handoff c im p).globals = p.globals := by unfold handoff; split <;> simp
@[simp] theorem handoff_pins (c : Corner) (im : Int) (p : Part) : (handoff c im p).pins = p.pins := by unfold handoff; split <;> simp

/-! ## assertSupply -/

@[simp] theorem assertSupply_now (detector : Byte) (p : Part) : (assertSupply detector p).now = p.now := by simp [assertSupply, forCorners]
@[simp] theorem assertSupply_straps (detector : Byte) (p : Part) : (assertSupply detector p).straps = p.straps := by simp [assertSupply, forCorners]
@[simp] theorem assertSupply_tracker (detector : Byte) (p : Part) : (assertSupply detector p).tracker = p.tracker := by simp [assertSupply, forCorners]
@[simp] theorem assertSupply_context (detector : Byte) (p : Part) : (assertSupply detector p).context = p.context := by simp [assertSupply, forCorners]
@[simp] theorem assertSupply_control (detector : Byte) (p : Part) : (assertSupply detector p).control = p.control := by simp [assertSupply, forCorners]
@[simp] theorem assertSupply_schedule (detector : Byte) (p : Part) : (assertSupply detector p).schedule = p.schedule := by simp [assertSupply, forCorners]
@[simp] theorem assertSupply_selection (detector : Byte) (p : Part) : (assertSupply detector p).selection = p.selection := by simp [assertSupply, forCorners]
@[simp] theorem assertSupply_store (detector : Byte) (p : Part) : (assertSupply detector p).store = p.store := by simp [assertSupply, forCorners]
@[simp] theorem assertSupply_pwm (detector : Byte) (p : Part) : (assertSupply detector p).pwm = p.pwm := by simp [assertSupply, forCorners]
@[simp] theorem assertSupply_supply (detector : Byte) (p : Part) : (assertSupply detector p).supply = p.supply := by simp [assertSupply, forCorners]
@[simp] theorem assertSupply_portS (detector : Byte) (p : Part) : (assertSupply detector p).portS = p.portS := by simp [assertSupply, forCorners]
@[simp] theorem assertSupply_portW (detector : Byte) (p : Part) : (assertSupply detector p).portW = p.portW := by simp [assertSupply, forCorners]
@[simp] theorem assertSupply_intervalAt (detector : Byte) (p : Part) : (assertSupply detector p).intervalAt = p.intervalAt := by simp [assertSupply, forCorners]
@[simp] theorem assertSupply_link (detector : Byte) (p : Part) : (assertSupply detector p).link = p.link := by simp [assertSupply, forCorners]
@[simp] theorem assertSupply_slot (detector : Byte) (p : Part) : (assertSupply detector p).slot = p.slot := by simp [assertSupply, forCorners]
@[simp] theorem assertSupply_params (detector : Byte) (p : Part) : (assertSupply detector p).params = p.params := by simp [assertSupply, forCorners]
@[simp] theorem assertSupply_globals (detector : Byte) (p : Part) : (assertSupply detector p).globals = p.globals := by simp [assertSupply, forCorners]
@[simp] theorem assertSupply_pins (detector : Byte) (p : Part) : (assertSupply detector p).pins = p.pins := by simp [assertSupply, forCorners]
@[simp] theorem assertSupply_port (detector : Byte) (r : Port) (p : Part) : (assertSupply detector p).port r = p.port r := by simp [assertSupply, forCorners]

/-! ## losAsserted -/

@[simp] theorem losAsserted_now (q : Port) (p : Part) : (losAsserted q p).now = p.now := by
  unfold losAsserted
  split
  · split <;> simp
  · simp [forCorners]
@[simp] theorem losAsserted_straps (q : Port) (p : Part) : (losAsserted q p).straps = p.straps := by
  unfold losAsserted
  split
  · split <;> simp
  · simp [forCorners]
@[simp] theorem losAsserted_control (q : Port) (p : Part) : (losAsserted q p).control = p.control := by
  unfold losAsserted
  split
  · split <;> simp
  · simp [forCorners]
@[simp] theorem losAsserted_schedule (q : Port) (p : Part) : (losAsserted q p).schedule = p.schedule := by
  unfold losAsserted
  split
  · split <;> simp
  · simp [forCorners]
@[simp] theorem losAsserted_selection (q : Port) (p : Part) : (losAsserted q p).selection = p.selection := by
  unfold losAsserted
  split
  · split <;> simp
  · simp [forCorners]
@[simp] theorem losAsserted_store (q : Port) (p : Part) : (losAsserted q p).store = p.store := by
  unfold losAsserted
  split
  · split <;> simp
  · simp [forCorners]
@[simp] theorem losAsserted_pwm (q : Port) (p : Part) : (losAsserted q p).pwm = p.pwm := by
  unfold losAsserted
  split
  · split <;> simp
  · simp [forCorners]
@[simp] theorem losAsserted_supply (q : Port) (p : Part) : (losAsserted q p).supply = p.supply := by
  unfold losAsserted
  split
  · split <;> simp
  · simp [forCorners]
@[simp] theorem losAsserted_portS (q : Port) (p : Part) : (losAsserted q p).portS = p.portS := by
  unfold losAsserted
  split
  · split <;> simp
  · simp [forCorners]
@[simp] theorem losAsserted_portW (q : Port) (p : Part) : (losAsserted q p).portW = p.portW := by
  unfold losAsserted
  split
  · split <;> simp
  · simp [forCorners]
@[simp] theorem losAsserted_intervalAt (q : Port) (p : Part) : (losAsserted q p).intervalAt = p.intervalAt := by
  unfold losAsserted
  split
  · split <;> simp
  · simp [forCorners]
@[simp] theorem losAsserted_link (q : Port) (p : Part) : (losAsserted q p).link = p.link := by
  unfold losAsserted
  split
  · split <;> simp
  · simp [forCorners]
@[simp] theorem losAsserted_slot (q : Port) (p : Part) : (losAsserted q p).slot = p.slot := by
  unfold losAsserted
  split
  · split <;> simp
  · simp [forCorners]
@[simp] theorem losAsserted_params (q : Port) (p : Part) : (losAsserted q p).params = p.params := by
  unfold losAsserted
  split
  · split <;> simp
  · simp [forCorners]
@[simp] theorem losAsserted_globals (q : Port) (p : Part) : (losAsserted q p).globals = p.globals := by
  unfold losAsserted
  split
  · split <;> simp
  · simp [forCorners]
@[simp] theorem losAsserted_pins (q : Port) (p : Part) : (losAsserted q p).pins = p.pins := by
  unfold losAsserted
  split
  · split <;> simp
  · simp [forCorners]
@[simp] theorem losAsserted_port (q : Port) (r : Port) (p : Part) : (losAsserted q p).port r = p.port r := by
  unfold losAsserted
  split
  · split <;> simp
  · simp [forCorners]

/-! ## losCleared -/

@[simp] theorem losCleared_now (q : Port) (p : Part) : (losCleared q p).now = p.now := by
  unfold losCleared
  split
  · rfl
  · simp [forCorners]
@[simp] theorem losCleared_straps (q : Port) (p : Part) : (losCleared q p).straps = p.straps := by
  unfold losCleared
  split
  · rfl
  · simp [forCorners]
@[simp] theorem losCleared_tracker (q : Port) (p : Part) : (losCleared q p).tracker = p.tracker := by
  unfold losCleared
  split
  · rfl
  · simp [forCorners]
@[simp] theorem losCleared_context (q : Port) (p : Part) : (losCleared q p).context = p.context := by
  unfold losCleared
  split
  · rfl
  · simp [forCorners]
@[simp] theorem losCleared_control (q : Port) (p : Part) : (losCleared q p).control = p.control := by
  unfold losCleared
  split
  · rfl
  · simp [forCorners]
@[simp] theorem losCleared_schedule (q : Port) (p : Part) : (losCleared q p).schedule = p.schedule := by
  unfold losCleared
  split
  · rfl
  · simp [forCorners]
@[simp] theorem losCleared_selection (q : Port) (p : Part) : (losCleared q p).selection = p.selection := by
  unfold losCleared
  split
  · rfl
  · simp [forCorners]
@[simp] theorem losCleared_store (q : Port) (p : Part) : (losCleared q p).store = p.store := by
  unfold losCleared
  split
  · rfl
  · simp [forCorners]
@[simp] theorem losCleared_pwm (q : Port) (p : Part) : (losCleared q p).pwm = p.pwm := by
  unfold losCleared
  split
  · rfl
  · simp [forCorners]
@[simp] theorem losCleared_supply (q : Port) (p : Part) : (losCleared q p).supply = p.supply := by
  unfold losCleared
  split
  · rfl
  · simp [forCorners]
@[simp] theorem losCleared_portS (q : Port) (p : Part) : (losCleared q p).portS = p.portS := by
  unfold losCleared
  split
  · rfl
  · simp [forCorners]
@[simp] theorem losCleared_portW (q : Port) (p : Part) : (losCleared q p).portW = p.portW := by
  unfold losCleared
  split
  · rfl
  · simp [forCorners]
@[simp] theorem losCleared_intervalAt (q : Port) (p : Part) : (losCleared q p).intervalAt = p.intervalAt := by
  unfold losCleared
  split
  · rfl
  · simp [forCorners]
@[simp] theorem losCleared_link (q : Port) (p : Part) : (losCleared q p).link = p.link := by
  unfold losCleared
  split
  · rfl
  · simp [forCorners]
@[simp] theorem losCleared_slot (q : Port) (p : Part) : (losCleared q p).slot = p.slot := by
  unfold losCleared
  split
  · rfl
  · simp [forCorners]
@[simp] theorem losCleared_params (q : Port) (p : Part) : (losCleared q p).params = p.params := by
  unfold losCleared
  split
  · rfl
  · simp [forCorners]
@[simp] theorem losCleared_globals (q : Port) (p : Part) : (losCleared q p).globals = p.globals := by
  unfold losCleared
  split
  · rfl
  · simp [forCorners]
@[simp] theorem losCleared_pins (q : Port) (p : Part) : (losCleared q p).pins = p.pins := by
  unfold losCleared
  split
  · rfl
  · simp [forCorners]
@[simp] theorem losCleared_port (q : Port) (r : Port) (p : Part) : (losCleared q p).port r = p.port r := by
  unfold losCleared
  split
  · rfl
  · simp [forCorners]

/-! ## judgeLos -/

@[simp] theorem judgeLos_now (q : Port) (p : Part) : (judgeLos q p).now = p.now := by
  unfold judgeLos
  dsimp only
  split
  · simp
  · split <;> simp
@[simp] theorem judgeLos_straps (q : Port) (p : Part) : (judgeLos q p).straps = p.straps := by
  unfold judgeLos
  dsimp only
  split
  · simp
  · split <;> simp
@[simp] theorem judgeLos_control (q : Port) (p : Part) : (judgeLos q p).control = p.control := by
  unfold judgeLos
  dsimp only
  split
  · simp
  · split <;> simp
@[simp] theorem judgeLos_schedule (q : Port) (p : Part) : (judgeLos q p).schedule = p.schedule := by
  unfold judgeLos
  dsimp only
  split
  · simp
  · split <;> simp
@[simp] theorem judgeLos_selection (q : Port) (p : Part) : (judgeLos q p).selection = p.selection := by
  unfold judgeLos
  dsimp only
  split
  · simp
  · split <;> simp
@[simp] theorem judgeLos_store (q : Port) (p : Part) : (judgeLos q p).store = p.store := by
  unfold judgeLos
  dsimp only
  split
  · simp
  · split <;> simp
@[simp] theorem judgeLos_pwm (q : Port) (p : Part) : (judgeLos q p).pwm = p.pwm := by
  unfold judgeLos
  dsimp only
  split
  · simp
  · split <;> simp
@[simp] theorem judgeLos_supply (q : Port) (p : Part) : (judgeLos q p).supply = p.supply := by
  unfold judgeLos
  dsimp only
  split
  · simp
  · split <;> simp
@[simp] theorem judgeLos_intervalAt (q : Port) (p : Part) : (judgeLos q p).intervalAt = p.intervalAt := by
  unfold judgeLos
  dsimp only
  split
  · simp
  · split <;> simp
@[simp] theorem judgeLos_link (q : Port) (p : Part) : (judgeLos q p).link = p.link := by
  unfold judgeLos
  dsimp only
  split
  · simp
  · split <;> simp
@[simp] theorem judgeLos_slot (q : Port) (p : Part) : (judgeLos q p).slot = p.slot := by
  unfold judgeLos
  dsimp only
  split
  · simp
  · split <;> simp
@[simp] theorem judgeLos_params (q : Port) (p : Part) : (judgeLos q p).params = p.params := by
  unfold judgeLos
  dsimp only
  split
  · simp
  · split <;> simp
@[simp] theorem judgeLos_globals (q : Port) (p : Part) : (judgeLos q p).globals = p.globals := by
  unfold judgeLos
  dsimp only
  split
  · simp
  · split <;> simp
@[simp] theorem judgeLos_pins (q : Port) (p : Part) : (judgeLos q p).pins = p.pins := by
  unfold judgeLos
  dsimp only
  split
  · simp
  · split <;> simp

/-! ## windowEnd -/

@[simp] theorem windowEnd_now (q : Port) (p : Part) : (windowEnd q p).now = p.now := by unfold windowEnd; dsimp only; split <;> simp
@[simp] theorem windowEnd_straps (q : Port) (p : Part) : (windowEnd q p).straps = p.straps := by unfold windowEnd; dsimp only; split <;> simp
@[simp] theorem windowEnd_tracker (q : Port) (p : Part) : (windowEnd q p).tracker = p.tracker := by unfold windowEnd; dsimp only; split <;> simp
@[simp] theorem windowEnd_context (q : Port) (p : Part) : (windowEnd q p).context = p.context := by unfold windowEnd; dsimp only; split <;> simp
@[simp] theorem windowEnd_corners (q : Port) (p : Part) : (windowEnd q p).corners = p.corners := by unfold windowEnd; dsimp only; split <;> simp
@[simp] theorem windowEnd_control (q : Port) (p : Part) : (windowEnd q p).control = p.control := by unfold windowEnd; dsimp only; split <;> simp
@[simp] theorem windowEnd_schedule (q : Port) (p : Part) : (windowEnd q p).schedule = p.schedule := by unfold windowEnd; dsimp only; split <;> simp
@[simp] theorem windowEnd_selection (q : Port) (p : Part) : (windowEnd q p).selection = p.selection := by unfold windowEnd; dsimp only; split <;> simp
@[simp] theorem windowEnd_store (q : Port) (p : Part) : (windowEnd q p).store = p.store := by unfold windowEnd; dsimp only; split <;> simp
@[simp] theorem windowEnd_pwm (q : Port) (p : Part) : (windowEnd q p).pwm = p.pwm := by unfold windowEnd; dsimp only; split <;> simp
@[simp] theorem windowEnd_supply (q : Port) (p : Part) : (windowEnd q p).supply = p.supply := by unfold windowEnd; dsimp only; split <;> simp
@[simp] theorem windowEnd_intervalAt (q : Port) (p : Part) : (windowEnd q p).intervalAt = p.intervalAt := by unfold windowEnd; dsimp only; split <;> simp
@[simp] theorem windowEnd_link (q : Port) (p : Part) : (windowEnd q p).link = p.link := by unfold windowEnd; dsimp only; split <;> simp
@[simp] theorem windowEnd_slot (q : Port) (p : Part) : (windowEnd q p).slot = p.slot := by unfold windowEnd; dsimp only; split <;> simp
@[simp] theorem windowEnd_params (q : Port) (p : Part) : (windowEnd q p).params = p.params := by unfold windowEnd; dsimp only; split <;> simp
@[simp] theorem windowEnd_globals (q : Port) (p : Part) : (windowEnd q p).globals = p.globals := by unfold windowEnd; dsimp only; split <;> simp
@[simp] theorem windowEnd_pins (q : Port) (p : Part) : (windowEnd q p).pins = p.pins := by unfold windowEnd; dsimp only; split <;> simp
@[simp] theorem windowEnd_corner (q : Port) (d : Corner) (p : Part) : (windowEnd q p).corner d = p.corner d := by unfold windowEnd; dsimp only; split <;> simp

/-! ## windowStep -/

@[simp] theorem windowStep_now (q : Port) (p : Part) : (windowStep q p).now = p.now := by unfold windowStep; split <;> simp
@[simp] theorem windowStep_straps (q : Port) (p : Part) : (windowStep q p).straps = p.straps := by unfold windowStep; split <;> simp
@[simp] theorem windowStep_tracker (q : Port) (p : Part) : (windowStep q p).tracker = p.tracker := by unfold windowStep; split <;> simp
@[simp] theorem windowStep_context (q : Port) (p : Part) : (windowStep q p).context = p.context := by unfold windowStep; split <;> simp
@[simp] theorem windowStep_corners (q : Port) (p : Part) : (windowStep q p).corners = p.corners := by unfold windowStep; split <;> simp
@[simp] theorem windowStep_control (q : Port) (p : Part) : (windowStep q p).control = p.control := by unfold windowStep; split <;> simp
@[simp] theorem windowStep_schedule (q : Port) (p : Part) : (windowStep q p).schedule = p.schedule := by unfold windowStep; split <;> simp
@[simp] theorem windowStep_selection (q : Port) (p : Part) : (windowStep q p).selection = p.selection := by unfold windowStep; split <;> simp
@[simp] theorem windowStep_store (q : Port) (p : Part) : (windowStep q p).store = p.store := by unfold windowStep; split <;> simp
@[simp] theorem windowStep_pwm (q : Port) (p : Part) : (windowStep q p).pwm = p.pwm := by unfold windowStep; split <;> simp
@[simp] theorem windowStep_supply (q : Port) (p : Part) : (windowStep q p).supply = p.supply := by unfold windowStep; split <;> simp
@[simp] theorem windowStep_intervalAt (q : Port) (p : Part) : (windowStep q p).intervalAt = p.intervalAt := by unfold windowStep; split <;> simp
@[simp] theorem windowStep_link (q : Port) (p : Part) : (windowStep q p).link = p.link := by unfold windowStep; split <;> simp
@[simp] theorem windowStep_slot (q : Port) (p : Part) : (windowStep q p).slot = p.slot := by unfold windowStep; split <;> simp
@[simp] theorem windowStep_params (q : Port) (p : Part) : (windowStep q p).params = p.params := by unfold windowStep; split <;> simp
@[simp] theorem windowStep_globals (q : Port) (p : Part) : (windowStep q p).globals = p.globals := by unfold windowStep; split <;> simp
@[simp] theorem windowStep_pins (q : Port) (p : Part) : (windowStep q p).pins = p.pins := by unfold windowStep; split <;> simp
@[simp] theorem windowStep_corner (q : Port) (d : Corner) (p : Part) : (windowStep q p).corner d = p.corner d := by unfold windowStep; split <;> simp

/-! ## intervalEnd -/

@[simp] theorem intervalEnd_now (q : Port) (p : Part) : (intervalEnd q p).now = p.now := by simp [intervalEnd]
@[simp] theorem intervalEnd_straps (q : Port) (p : Part) : (intervalEnd q p).straps = p.straps := by simp [intervalEnd]
@[simp] theorem intervalEnd_control (q : Port) (p : Part) : (intervalEnd q p).control = p.control := by simp [intervalEnd]
@[simp] theorem intervalEnd_schedule (q : Port) (p : Part) : (intervalEnd q p).schedule = p.schedule := by simp [intervalEnd]
@[simp] theorem intervalEnd_selection (q : Port) (p : Part) : (intervalEnd q p).selection = p.selection := by simp [intervalEnd]
@[simp] theorem intervalEnd_store (q : Port) (p : Part) : (intervalEnd q p).store = p.store := by simp [intervalEnd]
@[simp] theorem intervalEnd_pwm (q : Port) (p : Part) : (intervalEnd q p).pwm = p.pwm := by simp [intervalEnd]
@[simp] theorem intervalEnd_supply (q : Port) (p : Part) : (intervalEnd q p).supply = p.supply := by simp [intervalEnd]
@[simp] theorem intervalEnd_intervalAt (q : Port) (p : Part) : (intervalEnd q p).intervalAt = p.intervalAt := by simp [intervalEnd]
@[simp] theorem intervalEnd_link (q : Port) (p : Part) : (intervalEnd q p).link = p.link := by simp [intervalEnd]
@[simp] theorem intervalEnd_slot (q : Port) (p : Part) : (intervalEnd q p).slot = p.slot := by simp [intervalEnd]
@[simp] theorem intervalEnd_params (q : Port) (p : Part) : (intervalEnd q p).params = p.params := by simp [intervalEnd]
@[simp] theorem intervalEnd_globals (q : Port) (p : Part) : (intervalEnd q p).globals = p.globals := by simp [intervalEnd]
@[simp] theorem intervalEnd_pins (q : Port) (p : Part) : (intervalEnd q p).pins = p.pins := by simp [intervalEnd]

/-! ## cornerAtEngaged -/

@[simp] theorem cornerAtEngaged_now (c : Corner) (p : Part) : (cornerAtEngaged c p).now = p.now := by unfold cornerAtEngaged; split <;> first | rfl | (split <;> simp)
@[simp] theorem cornerAtEngaged_straps (c : Corner) (p : Part) : (cornerAtEngaged c p).straps = p.straps := by unfold cornerAtEngaged; split <;> first | rfl | (split <;> simp)
@[simp] theorem cornerAtEngaged_tracker (c : Corner) (p : Part) : (cornerAtEngaged c p).tracker = p.tracker := by unfold cornerAtEngaged; split <;> first | rfl | (split <;> simp)
@[simp] theorem cornerAtEngaged_context (c : Corner) (p : Part) : (cornerAtEngaged c p).context = p.context := by unfold cornerAtEngaged; split <;> first | rfl | (split <;> simp)
@[simp] theorem cornerAtEngaged_control (c : Corner) (p : Part) : (cornerAtEngaged c p).control = p.control := by unfold cornerAtEngaged; split <;> first | rfl | (split <;> simp)
@[simp] theorem cornerAtEngaged_schedule (c : Corner) (p : Part) : (cornerAtEngaged c p).schedule = p.schedule := by unfold cornerAtEngaged; split <;> first | rfl | (split <;> simp)
@[simp] theorem cornerAtEngaged_selection (c : Corner) (p : Part) : (cornerAtEngaged c p).selection = p.selection := by unfold cornerAtEngaged; split <;> first | rfl | (split <;> simp)
@[simp] theorem cornerAtEngaged_store (c : Corner) (p : Part) : (cornerAtEngaged c p).store = p.store := by unfold cornerAtEngaged; split <;> first | rfl | (split <;> simp)
@[simp] theorem cornerAtEngaged_pwm (c : Corner) (p : Part) : (cornerAtEngaged c p).pwm = p.pwm := by unfold cornerAtEngaged; split <;> first | rfl | (split <;> simp)
@[simp] theorem cornerAtEngaged_supply (c : Corner) (p : Part) : (cornerAtEngaged c p).supply = p.supply := by unfold cornerAtEngaged; split <;> first | rfl | (split <;> simp)
@[simp] theorem cornerAtEngaged_portS (c : Corner) (p : Part) : (cornerAtEngaged c p).portS = p.portS := by unfold cornerAtEngaged; split <;> first | rfl | (split <;> simp)
@[simp] theorem cornerAtEngaged_portW (c : Corner) (p : Part) : (cornerAtEngaged c p).portW = p.portW := by unfold cornerAtEngaged; split <;> first | rfl | (split <;> simp)
@[simp] theorem cornerAtEngaged_intervalAt (c : Corner) (p : Part) : (cornerAtEngaged c p).intervalAt = p.intervalAt := by unfold cornerAtEngaged; split <;> first | rfl | (split <;> simp)
@[simp] theorem cornerAtEngaged_link (c : Corner) (p : Part) : (cornerAtEngaged c p).link = p.link := by unfold cornerAtEngaged; split <;> first | rfl | (split <;> simp)
@[simp] theorem cornerAtEngaged_slot (c : Corner) (p : Part) : (cornerAtEngaged c p).slot = p.slot := by unfold cornerAtEngaged; split <;> first | rfl | (split <;> simp)
@[simp] theorem cornerAtEngaged_params (c : Corner) (p : Part) : (cornerAtEngaged c p).params = p.params := by unfold cornerAtEngaged; split <;> first | rfl | (split <;> simp)
@[simp] theorem cornerAtEngaged_globals (c : Corner) (p : Part) : (cornerAtEngaged c p).globals = p.globals := by unfold cornerAtEngaged; split <;> first | rfl | (split <;> simp)
@[simp] theorem cornerAtEngaged_pins (c : Corner) (p : Part) : (cornerAtEngaged c p).pins = p.pins := by unfold cornerAtEngaged; split <;> first | rfl | (split <;> simp)
@[simp] theorem cornerAtEngaged_port (c : Corner) (r : Port) (p : Part) : (cornerAtEngaged c p).port r = p.port r := by unfold cornerAtEngaged; split <;> first | rfl | (split <;> simp)

/-! ## enterEngaged -/

@[simp] theorem enterEngaged_now (p : Part) : (enterEngaged p).now = p.now := by simp [enterEngaged, forCorners]
@[simp] theorem enterEngaged_straps (p : Part) : (enterEngaged p).straps = p.straps := by simp [enterEngaged, forCorners]
@[simp] theorem enterEngaged_tracker (p : Part) : (enterEngaged p).tracker = p.tracker := by simp [enterEngaged, forCorners]
@[simp] theorem enterEngaged_context (p : Part) : (enterEngaged p).context = p.context := by simp [enterEngaged, forCorners]
@[simp] theorem enterEngaged_schedule (p : Part) : (enterEngaged p).schedule = p.schedule := by simp [enterEngaged, forCorners]
@[simp] theorem enterEngaged_selection (p : Part) : (enterEngaged p).selection = p.selection := by simp [enterEngaged, forCorners]
@[simp] theorem enterEngaged_store (p : Part) : (enterEngaged p).store = p.store := by simp [enterEngaged, forCorners]
@[simp] theorem enterEngaged_pwm (p : Part) : (enterEngaged p).pwm = p.pwm := by simp [enterEngaged, forCorners]
@[simp] theorem enterEngaged_supply (p : Part) : (enterEngaged p).supply = p.supply := by simp [enterEngaged, forCorners]
@[simp] theorem enterEngaged_portS (p : Part) : (enterEngaged p).portS = p.portS := by simp [enterEngaged, forCorners]
@[simp] theorem enterEngaged_portW (p : Part) : (enterEngaged p).portW = p.portW := by simp [enterEngaged, forCorners]
@[simp] theorem enterEngaged_intervalAt (p : Part) : (enterEngaged p).intervalAt = p.intervalAt := by simp [enterEngaged, forCorners]
@[simp] theorem enterEngaged_link (p : Part) : (enterEngaged p).link = p.link := by simp [enterEngaged, forCorners]
@[simp] theorem enterEngaged_slot (p : Part) : (enterEngaged p).slot = p.slot := by simp [enterEngaged, forCorners]
@[simp] theorem enterEngaged_params (p : Part) : (enterEngaged p).params = p.params := by simp [enterEngaged, forCorners]
@[simp] theorem enterEngaged_globals (p : Part) : (enterEngaged p).globals = p.globals := by simp [enterEngaged, forCorners]
@[simp] theorem enterEngaged_pins (p : Part) : (enterEngaged p).pins = p.pins := by simp [enterEngaged, forCorners]
@[simp] theorem enterEngaged_port (r : Port) (p : Part) : (enterEngaged p).port r = p.port r := by simp [enterEngaged, forCorners]

/-! ## judgeEngaged -/

@[simp] theorem judgeEngaged_now (p : Part) : (judgeEngaged p).now = p.now := by unfold judgeEngaged; split <;> simp
@[simp] theorem judgeEngaged_straps (p : Part) : (judgeEngaged p).straps = p.straps := by unfold judgeEngaged; split <;> simp
@[simp] theorem judgeEngaged_tracker (p : Part) : (judgeEngaged p).tracker = p.tracker := by unfold judgeEngaged; split <;> simp
@[simp] theorem judgeEngaged_context (p : Part) : (judgeEngaged p).context = p.context := by unfold judgeEngaged; split <;> simp
@[simp] theorem judgeEngaged_schedule (p : Part) : (judgeEngaged p).schedule = p.schedule := by unfold judgeEngaged; split <;> simp
@[simp] theorem judgeEngaged_selection (p : Part) : (judgeEngaged p).selection = p.selection := by unfold judgeEngaged; split <;> simp
@[simp] theorem judgeEngaged_store (p : Part) : (judgeEngaged p).store = p.store := by unfold judgeEngaged; split <;> simp
@[simp] theorem judgeEngaged_pwm (p : Part) : (judgeEngaged p).pwm = p.pwm := by unfold judgeEngaged; split <;> simp
@[simp] theorem judgeEngaged_supply (p : Part) : (judgeEngaged p).supply = p.supply := by unfold judgeEngaged; split <;> simp
@[simp] theorem judgeEngaged_portS (p : Part) : (judgeEngaged p).portS = p.portS := by unfold judgeEngaged; split <;> simp
@[simp] theorem judgeEngaged_portW (p : Part) : (judgeEngaged p).portW = p.portW := by unfold judgeEngaged; split <;> simp
@[simp] theorem judgeEngaged_intervalAt (p : Part) : (judgeEngaged p).intervalAt = p.intervalAt := by unfold judgeEngaged; split <;> simp
@[simp] theorem judgeEngaged_link (p : Part) : (judgeEngaged p).link = p.link := by unfold judgeEngaged; split <;> simp
@[simp] theorem judgeEngaged_slot (p : Part) : (judgeEngaged p).slot = p.slot := by unfold judgeEngaged; split <;> simp
@[simp] theorem judgeEngaged_params (p : Part) : (judgeEngaged p).params = p.params := by unfold judgeEngaged; split <;> simp
@[simp] theorem judgeEngaged_globals (p : Part) : (judgeEngaged p).globals = p.globals := by unfold judgeEngaged; split <;> simp
@[simp] theorem judgeEngaged_pins (p : Part) : (judgeEngaged p).pins = p.pins := by unfold judgeEngaged; split <;> simp
@[simp] theorem judgeEngaged_port (r : Port) (p : Part) : (judgeEngaged p).port r = p.port r := by unfold judgeEngaged; split <;> simp

/-! ## calibrationOutcome -/

@[simp] theorem calibrationOutcome_now (c : Corner) (sum : Nat) (p : Part) : (calibrationOutcome c sum p).now = p.now := by
  unfold calibrationOutcome
  dsimp only
  split
  · simp; split <;> simp
  · split <;> simp
  · split <;> simp
  · simp
@[simp] theorem calibrationOutcome_straps (c : Corner) (sum : Nat) (p : Part) : (calibrationOutcome c sum p).straps = p.straps := by
  unfold calibrationOutcome
  dsimp only
  split
  · simp; split <;> simp
  · split <;> simp
  · split <;> simp
  · simp
@[simp] theorem calibrationOutcome_tracker (c : Corner) (sum : Nat) (p : Part) : (calibrationOutcome c sum p).tracker = p.tracker := by
  unfold calibrationOutcome
  dsimp only
  split
  · simp; split <;> simp
  · split <;> simp
  · split <;> simp
  · simp
@[simp] theorem calibrationOutcome_context (c : Corner) (sum : Nat) (p : Part) : (calibrationOutcome c sum p).context = p.context := by
  unfold calibrationOutcome
  dsimp only
  split
  · simp; split <;> simp
  · split <;> simp
  · split <;> simp
  · simp
@[simp] theorem calibrationOutcome_schedule (c : Corner) (sum : Nat) (p : Part) : (calibrationOutcome c sum p).schedule = p.schedule := by
  unfold calibrationOutcome
  dsimp only
  split
  · simp; split <;> simp
  · split <;> simp
  · split <;> simp
  · simp
@[simp] theorem calibrationOutcome_selection (c : Corner) (sum : Nat) (p : Part) : (calibrationOutcome c sum p).selection = p.selection := by
  unfold calibrationOutcome
  dsimp only
  split
  · simp; split <;> simp
  · split <;> simp
  · split <;> simp
  · simp
@[simp] theorem calibrationOutcome_store (c : Corner) (sum : Nat) (p : Part) : (calibrationOutcome c sum p).store = p.store := by
  unfold calibrationOutcome
  dsimp only
  split
  · simp; split <;> simp
  · split <;> simp
  · split <;> simp
  · simp
@[simp] theorem calibrationOutcome_pwm (c : Corner) (sum : Nat) (p : Part) : (calibrationOutcome c sum p).pwm = p.pwm := by
  unfold calibrationOutcome
  dsimp only
  split
  · simp; split <;> simp
  · split <;> simp
  · split <;> simp
  · simp
@[simp] theorem calibrationOutcome_supply (c : Corner) (sum : Nat) (p : Part) : (calibrationOutcome c sum p).supply = p.supply := by
  unfold calibrationOutcome
  dsimp only
  split
  · simp; split <;> simp
  · split <;> simp
  · split <;> simp
  · simp
@[simp] theorem calibrationOutcome_portW (c : Corner) (sum : Nat) (p : Part) : (calibrationOutcome c sum p).portW = p.portW := by
  unfold calibrationOutcome
  dsimp only
  split
  · simp; split <;> simp
  · split <;> simp
  · split <;> simp
  · simp
@[simp] theorem calibrationOutcome_intervalAt (c : Corner) (sum : Nat) (p : Part) : (calibrationOutcome c sum p).intervalAt = p.intervalAt := by
  unfold calibrationOutcome
  dsimp only
  split
  · simp; split <;> simp
  · split <;> simp
  · split <;> simp
  · simp
@[simp] theorem calibrationOutcome_params (c : Corner) (sum : Nat) (p : Part) : (calibrationOutcome c sum p).params = p.params := by
  unfold calibrationOutcome
  dsimp only
  split
  · simp; split <;> simp
  · split <;> simp
  · split <;> simp
  · simp
@[simp] theorem calibrationOutcome_globals (c : Corner) (sum : Nat) (p : Part) : (calibrationOutcome c sum p).globals = p.globals := by
  unfold calibrationOutcome
  dsimp only
  split
  · simp; split <;> simp
  · split <;> simp
  · split <;> simp
  · simp
@[simp] theorem calibrationOutcome_pins (c : Corner) (sum : Nat) (p : Part) : (calibrationOutcome c sum p).pins = p.pins := by
  unfold calibrationOutcome
  dsimp only
  split
  · simp; split <;> simp
  · split <;> simp
  · split <;> simp
  · simp

/-! ## rampDone -/

@[simp] theorem rampDone_now (c : Corner) (p : Part) : (rampDone c p).now = p.now := by unfold rampDone; split <;> simp
@[simp] theorem rampDone_straps (c : Corner) (p : Part) : (rampDone c p).straps = p.straps := by unfold rampDone; split <;> simp
@[simp] theorem rampDone_tracker (c : Corner) (p : Part) : (rampDone c p).tracker = p.tracker := by unfold rampDone; split <;> simp
@[simp] theorem rampDone_context (c : Corner) (p : Part) : (rampDone c p).context = p.context := by unfold rampDone; split <;> simp
@[simp] theorem rampDone_schedule (c : Corner) (p : Part) : (rampDone c p).schedule = p.schedule := by unfold rampDone; split <;> simp
@[simp] theorem rampDone_selection (c : Corner) (p : Part) : (rampDone c p).selection = p.selection := by unfold rampDone; split <;> simp
@[simp] theorem rampDone_store (c : Corner) (p : Part) : (rampDone c p).store = p.store := by unfold rampDone; split <;> simp
@[simp] theorem rampDone_pwm (c : Corner) (p : Part) : (rampDone c p).pwm = p.pwm := by unfold rampDone; split <;> simp
@[simp] theorem rampDone_supply (c : Corner) (p : Part) : (rampDone c p).supply = p.supply := by unfold rampDone; split <;> simp
@[simp] theorem rampDone_portS (c : Corner) (p : Part) : (rampDone c p).portS = p.portS := by unfold rampDone; split <;> simp
@[simp] theorem rampDone_portW (c : Corner) (p : Part) : (rampDone c p).portW = p.portW := by unfold rampDone; split <;> simp
@[simp] theorem rampDone_intervalAt (c : Corner) (p : Part) : (rampDone c p).intervalAt = p.intervalAt := by unfold rampDone; split <;> simp
@[simp] theorem rampDone_link (c : Corner) (p : Part) : (rampDone c p).link = p.link := by unfold rampDone; split <;> simp
@[simp] theorem rampDone_slot (c : Corner) (p : Part) : (rampDone c p).slot = p.slot := by unfold rampDone; split <;> simp
@[simp] theorem rampDone_params (c : Corner) (p : Part) : (rampDone c p).params = p.params := by unfold rampDone; split <;> simp
@[simp] theorem rampDone_events (c : Corner) (p : Part) : (rampDone c p).events = p.events := by unfold rampDone; split <;> simp
@[simp] theorem rampDone_globals (c : Corner) (p : Part) : (rampDone c p).globals = p.globals := by unfold rampDone; split <;> simp
@[simp] theorem rampDone_pins (c : Corner) (p : Part) : (rampDone c p).pins = p.pins := by unfold rampDone; split <;> simp
@[simp] theorem rampDone_port (c : Corner) (r : Port) (p : Part) : (rampDone c p).port r = p.port r := by unfold rampDone; split <;> simp

/-! ## latchReport -/

@[simp] theorem latchReport_now (c : Corner) (p : Part) : (latchReport c p).now = p.now := by unfold latchReport; split <;> simp
@[simp] theorem latchReport_straps (c : Corner) (p : Part) : (latchReport c p).straps = p.straps := by unfold latchReport; split <;> simp
@[simp] theorem latchReport_tracker (c : Corner) (p : Part) : (latchReport c p).tracker = p.tracker := by unfold latchReport; split <;> simp
@[simp] theorem latchReport_context (c : Corner) (p : Part) : (latchReport c p).context = p.context := by unfold latchReport; split <;> simp
@[simp] theorem latchReport_schedule (c : Corner) (p : Part) : (latchReport c p).schedule = p.schedule := by unfold latchReport; split <;> simp
@[simp] theorem latchReport_selection (c : Corner) (p : Part) : (latchReport c p).selection = p.selection := by unfold latchReport; split <;> simp
@[simp] theorem latchReport_store (c : Corner) (p : Part) : (latchReport c p).store = p.store := by unfold latchReport; split <;> simp
@[simp] theorem latchReport_pwm (c : Corner) (p : Part) : (latchReport c p).pwm = p.pwm := by unfold latchReport; split <;> simp
@[simp] theorem latchReport_supply (c : Corner) (p : Part) : (latchReport c p).supply = p.supply := by unfold latchReport; split <;> simp
@[simp] theorem latchReport_portW (c : Corner) (p : Part) : (latchReport c p).portW = p.portW := by unfold latchReport; split <;> simp
@[simp] theorem latchReport_intervalAt (c : Corner) (p : Part) : (latchReport c p).intervalAt = p.intervalAt := by unfold latchReport; split <;> simp
@[simp] theorem latchReport_params (c : Corner) (p : Part) : (latchReport c p).params = p.params := by unfold latchReport; split <;> simp
@[simp] theorem latchReport_globals (c : Corner) (p : Part) : (latchReport c p).globals = p.globals := by unfold latchReport; split <;> simp
@[simp] theorem latchReport_pins (c : Corner) (p : Part) : (latchReport c p).pins = p.pins := by unfold latchReport; split <;> simp

/-! ## linkResetStore, and the count of R96 -/

@[simp] theorem linkResetStore_now (p : Part) : (linkResetStore p).now = p.now := (rfl)
@[simp] theorem linkResetStore_straps (p : Part) : (linkResetStore p).straps = p.straps := (rfl)
@[simp] theorem linkResetStore_tracker (p : Part) : (linkResetStore p).tracker = p.tracker := (rfl)
@[simp] theorem linkResetStore_context (p : Part) : (linkResetStore p).context = p.context := (rfl)
@[simp] theorem linkResetStore_control (p : Part) : (linkResetStore p).control = p.control := (rfl)
@[simp] theorem linkResetStore_schedule (p : Part) : (linkResetStore p).schedule = p.schedule := (rfl)
@[simp] theorem linkResetStore_selection (p : Part) : (linkResetStore p).selection = p.selection := (rfl)
@[simp] theorem linkResetStore_pwm (p : Part) : (linkResetStore p).pwm = p.pwm := (rfl)
@[simp] theorem linkResetStore_supply (p : Part) : (linkResetStore p).supply = p.supply := (rfl)
@[simp] theorem linkResetStore_portS (p : Part) : (linkResetStore p).portS = p.portS := (rfl)
@[simp] theorem linkResetStore_portW (p : Part) : (linkResetStore p).portW = p.portW := (rfl)
@[simp] theorem linkResetStore_intervalAt (p : Part) : (linkResetStore p).intervalAt = p.intervalAt := (rfl)
@[simp] theorem linkResetStore_link (p : Part) : (linkResetStore p).link = p.link := (rfl)
@[simp] theorem linkResetStore_params (p : Part) : (linkResetStore p).params = p.params := (rfl)
@[simp] theorem linkResetStore_events (p : Part) : (linkResetStore p).events = p.events := (rfl)
@[simp] theorem linkResetStore_globals (p : Part) : (linkResetStore p).globals = p.globals := (rfl)
@[simp] theorem linkResetStore_pins (p : Part) : (linkResetStore p).pins = p.pins := (rfl)

theorem linkResetStore_corner (c : Corner) (p : Part) :
    (linkResetStore p).corner c = { p.corner c with banks := (p.corner c).banks.reset } := by
  cases c <;> rfl

@[simp] theorem linkResetStore_store (p : Part) : (linkResetStore p).store = p.store.reset := (rfl)
@[simp] theorem linkResetStore_slot (p : Part) : (linkResetStore p).slot = abandonedSlot p.slot := (rfl)

/-- A period that counts toward the short run is a tripped one, so it never counts toward the open run (R95, R96). -/
theorem CornerPart.openCounts_of_shortCounts {k : CornerPart} {w : Pwm} (params : Params) (im : Int)
    (h : k.reg.shortCounts w = true) : k.openCounts params im = false := by
  have tripped : k.reg.trippedItem = true := (Bool.and_eq_true_iff.mp h).1
  simp [CornerPart.openCounts, tripped]

end Sys2Proof.Machine
end

