-- ==== Sys2Proof/Laws/Comparator.lean ====
section
/-! SUPPORT. Laws/Comparator.lean: the PWM counter going on with the comparators behind it (`Part.pass`, `Part.tick`), the gate,
and the position of a trip; and what a reading of validation does. -/

namespace Sys2Proof.Machine

open Sys2Proof

/-! ## The gate -/

/-- The gate is on exactly while the driver is enabled, the period not tripped and the counter below C. -/
theorem Part.gate_iff (p : Part) (c : Corner) : p.gate c = true ↔
    (p.corner c).reg.enabled = true ∧ (p.corner c).reg.tripped = false ∧ p.pwm.count < (p.corner c).reg.compare := by
  simp [Part.gate, Regulator.gate, and_assoc]

/-! ## The counter goes on -/

/-- Every corner follows the counter by its own regulator's run, and by nothing else. -/
theorem Part.pass_corner (w : Pwm) (p : Part) (c : Corner) :
    (p.pass w).corner c = { p.corner c with reg := (p.corner c).reg.follow p.pwm w (p.over c (p.pins.sense.get c)) } :=
  Quad.get_ofCorners _ c

@[simp] theorem Part.pass_pwm (w : Pwm) (p : Part) : (p.pass w).pwm = w := (rfl)
@[simp] theorem Part.pass_now (w : Pwm) (p : Part) : (p.pass w).now = p.now := (rfl)
@[simp] theorem Part.pass_straps (w : Pwm) (p : Part) : (p.pass w).straps = p.straps := (rfl)
@[simp] theorem Part.pass_tracker (w : Pwm) (p : Part) : (p.pass w).tracker = p.tracker := (rfl)
@[simp] theorem Part.pass_context (w : Pwm) (p : Part) : (p.pass w).context = p.context := (rfl)
@[simp] theorem Part.pass_control (w : Pwm) (p : Part) : (p.pass w).control = p.control := (rfl)
@[simp] theorem Part.pass_schedule (w : Pwm) (p : Part) : (p.pass w).schedule = p.schedule := (rfl)
@[simp] theorem Part.pass_selection (w : Pwm) (p : Part) : (p.pass w).selection = p.selection := (rfl)
@[simp] theorem Part.pass_store (w : Pwm) (p : Part) : (p.pass w).store = p.store := (rfl)
@[simp] theorem Part.pass_supply (w : Pwm) (p : Part) : (p.pass w).supply = p.supply := (rfl)
@[simp] theorem Part.pass_portS (w : Pwm) (p : Part) : (p.pass w).portS = p.portS := (rfl)
@[simp] theorem Part.pass_portW (w : Pwm) (p : Part) : (p.pass w).portW = p.portW := (rfl)
@[simp] theorem Part.pass_intervalAt (w : Pwm) (p : Part) : (p.pass w).intervalAt = p.intervalAt := (rfl)
@[simp] theorem Part.pass_link (w : Pwm) (p : Part) : (p.pass w).link = p.link := (rfl)
@[simp] theorem Part.pass_slot (w : Pwm) (p : Part) : (p.pass w).slot = p.slot := (rfl)
@[simp] theorem Part.pass_params (w : Pwm) (p : Part) : (p.pass w).params = p.params := (rfl)
@[simp] theorem Part.pass_events (w : Pwm) (p : Part) : (p.pass w).events = p.events := (rfl)
@[simp] theorem Part.pass_globals (w : Pwm) (p : Part) : (p.pass w).globals = p.globals := (rfl)
@[simp] theorem Part.pass_pins (w : Pwm) (p : Part) : (p.pass w).pins = p.pins := (rfl)
@[simp] theorem Part.pass_port (w : Pwm) (p : Part) (q : Port) : (p.pass w).port q = p.port q := by cases q <;> rfl
@[simp] theorem Part.tick_now (p : Part) : p.tick.now = p.now + 1 := rfl
@[simp] theorem Part.tick_pwm (p : Part) : p.tick.pwm = p.pwm.tick := rfl

/-- A tick leaves all but the clock, the counter and the comparators' runs. -/
theorem Part.tick_eq (p : Part) : p.tick = { p with now := p.now + 1, pwm := p.pwm.tick, corners := p.tick.corners } := rfl

/-- A tick at a corner. -/
theorem Part.tick_corner (p : Part) (c : Corner) :
    p.tick.corner c = { p.corner c with reg := (p.corner c).reg.follow p.pwm p.pwm.tick (p.over c (p.pins.sense.get c)) } :=
  Part.pass_corner _ _ c

@[simp] theorem Regulator.follow_wanted (r : Regulator) (w v : Pwm) (b : Bool) : (r.follow w v b).wanted = r.wanted := rfl
@[simp] theorem Regulator.follow_enabled (r : Regulator) (w v : Pwm) (b : Bool) : (r.follow w v b).enabled = r.enabled := rfl
@[simp] theorem Regulator.follow_setpoint (r : Regulator) (w v : Pwm) (b : Bool) : (r.follow w v b).setpoint = r.setpoint := rfl
@[simp] theorem Regulator.follow_target (r : Regulator) (w v : Pwm) (b : Bool) : (r.follow w v b).target = r.target := rfl
@[simp] theorem Regulator.follow_duty (r : Regulator) (w v : Pwm) (b : Bool) : (r.follow w v b).duty = r.duty := rfl
@[simp] theorem Regulator.follow_compare (r : Regulator) (w v : Pwm) (b : Bool) : (r.follow w v b).compare = r.compare := rfl
@[simp] theorem Regulator.follow_e1 (r : Regulator) (w v : Pwm) (b : Bool) : (r.follow w v b).e1 = r.e1 := rfl
@[simp] theorem Regulator.follow_e2 (r : Regulator) (w v : Pwm) (b : Bool) : (r.follow w v b).e2 = r.e2 := rfl
@[simp] theorem Regulator.follow_u (r : Regulator) (w v : Pwm) (b : Bool) : (r.follow w v b).u = r.u := rfl
@[simp] theorem Regulator.follow_offset (r : Regulator) (w v : Pwm) (b : Bool) : (r.follow w v b).offset = r.offset := rfl
@[simp] theorem Regulator.follow_calibration (r : Regulator) (w v : Pwm) (b : Bool) : (r.follow w v b).calibration = r.calibration := rfl
@[simp] theorem Regulator.follow_firstTrip (r : Regulator) (w v : Pwm) (b : Bool) : (r.follow w v b).firstTrip = r.firstTrip := rfl
@[simp] theorem Regulator.follow_point (r : Regulator) (w v : Pwm) (b : Bool) : (r.follow w v b).point = r.point := rfl
@[simp] theorem Regulator.follow_sampled (r : Regulator) (w v : Pwm) (b : Bool) : (r.follow w v b).sampled = r.sampled := rfl
@[simp] theorem Regulator.follow_tripped (r : Regulator) (w v : Pwm) (b : Bool) : (r.follow w v b).tripped = r.tripped := rfl
@[simp] theorem Regulator.follow_trippedBefore (r : Regulator) (w v : Pwm) (b : Bool) : (r.follow w v b).trippedBefore = r.trippedBefore := rfl
@[simp] theorem Regulator.follow_meanSum (r : Regulator) (w v : Pwm) (b : Bool) : (r.follow w v b).meanSum = r.meanSum := rfl
@[simp] theorem Regulator.follow_meanCount (r : Regulator) (w v : Pwm) (b : Bool) : (r.follow w v b).meanCount = r.meanCount := rfl
@[simp] theorem Regulator.follow_meanRunning (r : Regulator) (w v : Pwm) (b : Bool) : (r.follow w v b).meanRunning = r.meanRunning := rfl

/-! ## The position of a trip -/

/-- The counter at a tick of the on-interval has so many of its ticks begun. -/
theorem Pwm.onTicks_atOnTick (w : Pwm) {compare n : Nat} (h : n + 1 ≤ 2 * compare) : (w.atOnTick compare n).onTicks compare = n := by
  unfold Pwm.atOnTick
  split
  · simp only [Pwm.onTicks, Bool.false_eq_true, if_false]; omega
  · simp only [Pwm.onTicks, if_true]; omega

/-- Within the on-interval the counter is below C. -/
theorem Pwm.atOnTick_below (w : Pwm) {compare n : Nat} (h0 : 1 ≤ n) (h : n + 1 ≤ 2 * compare) :
    (w.atOnTick compare n).count < compare := by
  unfold Pwm.atOnTick
  split
  · dsimp only; omega
  · dsimp only; omega

/-! ## A reading of validation (R140) -/

/-- A reading that does not judge adds the sixteen words as they stand, all intact, and leaves fewer than 144 read. -/
theorem readingOf_goesOn {p : Part} {c : Corner} {read image : List Word} (h : readingOf p c read = .goesOn image) :
    image = read ++ ((p.corner c).banks.get (p.corner c).banks.shadow).readRun read.length 16 ∧ image.length < 144 ∧
      ((p.corner c).banks.get (p.corner c).banks.shadow).intactRun read.length 16 = true := by
  unfold readingOf at h
  simp only at h
  split at h
  · exact nomatch h
  · split at h
    · cases h; exact ⟨rfl, by assumption, by simp_all⟩
    · exact nomatch h

/-- A reading that judges finds a word upset, or judges the words as read. -/
theorem readingOf_judges {p : Part} {c : Corner} {read : List Word} {x : MapOutcome} (h : readingOf p c read = .judges x) :
    (((p.corner c).banks.get (p.corner c).banks.shadow).intactRun read.length 16 = false ∧ x = .parity) ∨
      (((p.corner c).banks.get (p.corner c).banks.shadow).intactRun read.length 16 = true ∧
        x = judgeImage (wordRead (read ++ ((p.corner c).banks.get (p.corner c).banks.shadow).readRun read.length 16))
          ((p.corner c).banks.get (p.corner c).banks.shadow).check p.params.currentLimit) := by
  unfold readingOf at h
  simp only at h
  split at h
  · cases h; exact Or.inl ⟨by simp_all, rfl⟩
  · split at h
    · exact nomatch h
    · cases h; exact Or.inr ⟨by simp_all, rfl⟩

end Sys2Proof.Machine
end

