-- ==== Sys2Proof/Laws/Memory.lean ====
section
/-! SUPPORT. Laws/Memory.lean: the stored words of a bank: a read after a write, and the canonical form kept by every operation
that touches a bank. -/

namespace Sys2Proof.Machine

open Sys2Proof

/-! ## The canonical form -/

/-- The form from a greater index on is stronger. -/
theorem memWfFrom_mono {m : WordMem} {a b : Nat} (h : a ≤ b) (hm : memWfFrom b m = true) : memWfFrom a m = true := by
  cases m with
  | nil => rfl
  | cons x rest =>
    obtain ⟨i, w⟩ := x
    simp only [memWfFrom, Bool.and_eq_true, decide_eq_true_eq] at hm ⊢
    exact ⟨⟨⟨le_trans h hm.1.1.1, hm.1.1.2⟩, hm.1.2⟩, hm.2⟩

/-- Below its first index a store reads blank. -/
theorem memRead_below {m : WordMem} : ∀ {a n : Nat}, memWfFrom a m = true → n < a → memRead m n = blankWord := by
  induction m with
  | nil => intros; rfl
  | cons x rest ih =>
    obtain ⟨i, w⟩ := x
    intro a n hm hn
    simp only [memWfFrom, Bool.and_eq_true, decide_eq_true_eq] at hm
    have hi : i ≠ n := by omega
    simp only [memRead, if_neg hi]
    exact ih hm.2 (by omega)

/-- A write keeps the form. -/
theorem memWfFrom_memWrite {n : Nat} (hn : n < Config.imageWords) (w : StoredWord) (m : WordMem) :
    ∀ {a : Nat}, a ≤ n → memWfFrom a m = true → memWfFrom a (memWrite m n w) = true := by
  induction m with
  | nil =>
    intro a ha _
    by_cases hw : w = blankWord
    · simp [memWrite, hw, memWfFrom]
    · simp [memWrite, hw, memWfFrom, ha, hn]
  | cons x rest ih =>
    obtain ⟨i, y⟩ := x
    intro a ha hm
    simp only [memWfFrom, Bool.and_eq_true, decide_eq_true_eq] at hm
    obtain ⟨⟨⟨h1, h2⟩, h3⟩, h4⟩ := hm
    simp only [memWrite]
    by_cases hin : i = n
    · subst hin
      by_cases hw : w = blankWord
      · simp only [if_true, if_pos hw]
        exact memWfFrom_mono (by omega) h4
      · simp [hw, memWfFrom, h1, h2, h4]
    · rw [if_neg hin]
      by_cases hlt : n < i
      · rw [if_pos hlt]
        by_cases hw : w = blankWord
        · simp [hw, memWfFrom, h1, h2, h3, h4]
        · have h5 : n + 1 ≤ i := hlt
          simp [hw, memWfFrom, ha, hn, h2, h3, h4, h5]
      · rw [if_neg hlt]
        have h5 := ih (a := i + 1) (by omega) h4
        simp [memWfFrom, h1, h2, h3, h5]

/-- A read after a write: the word written at its own index, every other index as before. -/
theorem memRead_memWrite (n k : Nat) (w : StoredWord) (m : WordMem) :
    ∀ {a : Nat}, memWfFrom a m = true → memRead (memWrite m n w) k = if k = n then w else memRead m k := by
  induction m with
  | nil =>
    intro a _
    by_cases hk : k = n
    · subst hk
      by_cases hw : w = blankWord
      · simp [memWrite, hw, memRead]
      · simp [memWrite, hw, memRead]
    · by_cases hw : w = blankWord
      · simp [memWrite, hw, memRead, hk]
      · simp [memWrite, hw, memRead, hk, Ne.symm hk]
  | cons x rest ih =>
    obtain ⟨i, y⟩ := x
    intro a hm
    simp only [memWfFrom, Bool.and_eq_true, decide_eq_true_eq] at hm
    have h4 := hm.2
    simp only [memWrite]
    by_cases hin : i = n
    · subst hin
      by_cases hk : k = i
      · subst hk
        by_cases hw : w = blankWord
        · simp only [if_true, if_pos hw]
          rw [memRead_below h4 (by omega), hw]
        · simp [hw, memRead]
      · by_cases hw : w = blankWord
        · simp [hw, memRead, hk, Ne.symm hk]
        · simp [hw, memRead, hk, Ne.symm hk]
    · rw [if_neg hin]
      by_cases hlt : n < i
      · rw [if_pos hlt]
        by_cases hk : k = n
        · subst hk
          by_cases hw : w = blankWord
          · simp only [if_pos hw, if_true]
            rw [memRead, if_neg hin, memRead_below h4 (by omega), hw]
          · simp [hw, memRead]
        · by_cases hw : w = blankWord
          · simp [hw, hk]
          · simp [hw, hk, memRead, Ne.symm hk]
      · rw [if_neg hlt]
        simp only [memRead]
        by_cases hik : i = k
        · have hkn : k ≠ n := by omega
          simp [hik, hkn]
        · simp only [if_neg hik]
          exact ih h4

/-- A write keeps the canonical form. -/
theorem memWf_memWrite {m : WordMem} (hm : memWf m = true) {n : Nat} (hn : n < Config.imageWords) (w : StoredWord) :
    memWf (memWrite m n w) = true := memWfFrom_memWrite hn w m (Nat.zero_le n) hm

/-- A run of words inside the image keeps the canonical form. -/
theorem memWf_memWriteRun {words : List Word} : ∀ {start : Nat} {m : WordMem}, memWf m = true →
    start + words.length ≤ Config.imageWords → memWf (memWriteRun start words m) = true := by
  induction words with
  | nil => intro _ _ hm _; exact hm
  | cons w rest ih =>
    intro start m hm h
    simp only [List.length_cons] at h
    exact ih (memWf_memWrite hm (by omega) _) (by omega)

/-- The words of a MAP_DATA: half as many as the bytes. -/
theorem wordsOf_length : ∀ (n : Nat) (bytes : List Byte), bytes.length = 2 * n → (wordsOf bytes).length = n := by
  intro n
  induction n with
  | zero => intro bytes h; simp at h; subst h; rfl
  | succ n ih =>
    intro bytes h
    match bytes, h with
    | a :: b :: rest, h =>
      simp only [List.length_cons] at h
      simp only [wordsOf, List.length_cons]
      rw [ih rest (by omega)]

/-! ## Every operation on the banks of a corner keeps the canonical form -/

/-- An update of a bank that keeps its words keeps the form. -/
theorem Banks.canonical_modBank {k : Banks} (h : k.canonical) {f : Bank → Bank} (hf : ∀ b, (f b).words = b.words)
    (id : BankId) : (k.modBank id f).canonical := by
  cases id
  · exact ⟨by simpa [Banks.modBank, hf] using h.1, h.2⟩
  · exact ⟨h.1, by simpa [Banks.modBank, hf] using h.2⟩

theorem Banks.canonical_opened {k : Banks} (h : k.canonical) (named : Bool) : (k.opened named).canonical := by
  have words : ∀ b : Bank, (if b.state = .loading then { b with state := .empty } else b : Bank).words = b.words := by
    intro b
    split <;> rfl
  cases named
  · exact ⟨by simpa [Banks.opened, words] using h.1, by simpa [Banks.opened, words] using h.2⟩
  · unfold Banks.opened
    apply Banks.canonical_modBank h
    intro b
    rfl

theorem Banks.canonical_load {k : Banks} (h : k.canonical) {start : Nat} {words : List Word}
    (hw : start + words.length ≤ Config.imageWords) : (k.load start words).canonical := by
  unfold Banks.load
  cases k.shadow
  · exact ⟨memWf_memWriteRun h.1 hw, h.2⟩
  · exact ⟨h.1, memWf_memWriteRun h.2 hw⟩

theorem Banks.canonical_closed {k : Banks} (h : k.canonical) (check : Word) : (k.closed check).canonical := by
  unfold Banks.closed
  apply Banks.canonical_modBank h
  intro b
  rfl

theorem Banks.canonical_judged {k : Banks} (h : k.canonical) (x : MapOutcome) : (k.judged x).canonical := by
  unfold Banks.judged
  apply Banks.canonical_modBank h
  intro b
  rfl

theorem Banks.canonical_swap {k : Banks} (h : k.canonical) : k.swap.canonical := by
  have words : ∀ b : Bank, (if b.state = .active then { b with state := .ready }
      else if b.state = .corrupt then { b with state := .empty } else b : Bank).words = b.words := by
    intro b
    split
    · rfl
    · split <;> rfl
  unfold Banks.swap
  cases k.active with
  | none => exact Banks.canonical_modBank h (fun b => by rfl) _
  | some id => exact Banks.canonical_modBank (Banks.canonical_modBank h words id) (fun b => by rfl) _

theorem Banks.canonical_reset {k : Banks} (h : k.canonical) : k.reset.canonical := by
  have words : ∀ b : Bank, b.reset.words = b.words := by
    intro b
    unfold Bank.reset
    split <;> rfl
  exact ⟨by simpa [Banks.reset, words] using h.1, by simpa [Banks.reset, words] using h.2⟩

/-- An upset at an index of the image keeps the form. -/
theorem Banks.canonical_upset {k : Banks} (h : k.canonical) (id : BankId) (word : Fin 144) (value : Word) :
    (k.modBank id (fun b => b.upset word value)).canonical := by
  cases id
  · exact ⟨memWf_memWrite h.1 word.isLt _, h.2⟩
  · exact ⟨h.1, memWf_memWrite h.2 word.isLt _⟩

end Sys2Proof.Machine
end

