-- ==== Sys2Proof/Laws/Orders.lean ====
section
/-! SUPPORT. Laws/Orders.lean: what the arrival of an order comes to in each of its three cases (R163): dropped, BUSY, or taken
by its handler; and what answering one at once does (R165). -/

namespace Sys2Proof.Machine

open Sys2Proof

/-- No available place: the order is dropped (R163). -/
theorem orderArrival_dropped (o : OrderIn) (code : Byte) (handler : Handler) (p : Part)
    (h : 4 ≤ p.link.replies.length + (if p.slot.isSome then 1 else 0)) :
    orderArrival o code handler p = dropOrder code (goodFrame .s p) := by
  have h0 : availablePlaces (goodFrame .s p) = 0 := by
    unfold availablePlaces Config.replyPlaces
    show 4 - p.link.replies.length - (if p.slot.isSome then 1 else 0) = 0
    omega
  unfold orderArrival takeOrder
  rw [if_pos h0]

/-- A place with the slot HELD: the reply is BUSY (R163). -/
theorem orderArrival_busy (o : OrderIn) (code : Byte) (handler : Handler) (p : Part) (hs : p.slot.isSome = true)
    (hr : p.link.replies.length + 1 < 4) :
    orderArrival o code handler p = settleOrder o code (goodFrame .s p, .busy []) := by
  have h0 : availablePlaces (goodFrame .s p) ≠ 0 := by
    unfold availablePlaces Config.replyPlaces
    show 4 - p.link.replies.length - (if p.slot.isSome then 1 else 0) ≠ 0
    simp only [hs, if_true]; omega
  obtain ⟨x, hx⟩ := Option.isSome_iff_exists.mp hs
  have hx' : (goodFrame .s p).slot = some x := hx
  unfold orderArrival takeOrder
  rw [if_neg h0, hx']

/-- The slot FREE and a place available: the order's handler acts (R163). -/
theorem orderArrival_taken (o : OrderIn) (code : Byte) (handler : Handler) (p : Part) (hs : p.slot = none)
    (hr : p.link.replies.length < 4) :
    orderArrival o code handler p = settleOrder o code (handler o.args (goodFrame .s p)) := by
  have h0 : availablePlaces (goodFrame .s p) ≠ 0 := by
    unfold availablePlaces Config.replyPlaces
    show 4 - p.link.replies.length - (if p.slot.isSome then 1 else 0) ≠ 0
    simp only [hs, Option.isSome_none]; simp; omega
  have hs' : (goodFrame .s p).slot = none := hs
  unfold orderArrival takeOrder
  rw [if_neg h0, hs']

/-- An order answered at once has its reply placed (R165). -/
theorem settleOrder_reply (o : OrderIn) (code : Byte) (p : Part) (result reason : Byte) (data : List Byte) :
    settleOrder o code (p, .reply result reason data) =
      placeReply ⟨o.src, p.address, 0x11, o.tag :: code :: result :: reason :: data⟩ p := rfl

/-- An order that owes its reply holds the slot (R164). -/
theorem settleOrder_held (o : OrderIn) (code : Byte) (p : Part) :
    settleOrder o code (p, .held) = { p with slot := some ⟨o.src, o.tag, code⟩ } := rfl

/-- The corner an index byte names. -/
theorem ofIndex_index (c : Corner) : Corner.ofIndex c.index = some c := by cases c <;> rfl

end Sys2Proof.Machine
end

