-- ==== Sys2Proof/Tests/Slice0.lean ====
section
/-! SUPPORT. Tests/Slice0.lean: the WellFormed smoke tests, worked cases of the spec taken one step or one operation at a time, and
for each statement of Certificates/Slice0/Obligations.lean a state and operands that meet its hypotheses. -/

namespace Sys2Proof.Tests

open Sys2Proof Sys2Proof.Machine Sys2Proof.Claims

/-! ## Helpers -/

/-- A state with the power-on part changed by a function, nothing waiting. -/
def state (f : Part → Part) : State := ⟨f State.reset.part, []⟩

/-- The FL corner changed by a function. -/
def fl (f : CornerPart → CornerPart) (p : Part) : Part := p.modCorner .fl f

/-- An order of the chassis controller with tag 7. -/
def order (args : List Byte) : OrderIn := ⟨0x01, 7, args⟩

/-- A LOCKED tracker with cycle 5 open, started at 0. -/
def openCycle (p : Part) : Part :=
  { p with tracker := ⟨.locked, some 4, ⟨5, .controller, .fill false, .fill false, false⟩, some 0, 0, some 25000, some 14000⟩ }

/-- An ENGAGED part with an open cycle. -/
def engagedPart (p : Part) : Part := { openCycle p with control := .engaged }

/-- FL in CONTROL with this regulator. -/
def regulating (r : Regulator) (p : Part) : Part := fl (fun k => { k with state := .control, reg := r }) p

/-- The part a command leaves from a state, when it answers next. -/
def after (i : Instr) (s : State) : Option Part :=
  match exec i s with
  | .next t => some t.part
  | _ => none

/-! ## WellFormed refuses an ill-formed term of each check -/

theorem test_wf_sample_payload : (Instr.sampleArrival 0x01 0x21 (List.replicate 61 0)).wellFormed = false := by decide
theorem test_wf_sample_source : (Instr.sampleArrival 0x01 0x25 []).wellFormed = false := by decide
theorem test_wf_reset_payload : (Instr.linkReset 0x01 0x01 (List.replicate 61 0)).wellFormed = false := by decide
theorem test_wf_order_arguments : (Instr.mapData (order (List.replicate 59 0))).wellFormed = false := by decide
theorem test_wf_unknown_code : (Instr.unknownOrder (order []) 0x30).wellFormed = false := by decide
theorem test_wf_channel_range : (Instr.channelStuck .fl .ab 32768).wellFormed = false := by decide
theorem test_wf_height_range : (Instr.channelRelease .fl .h (-8388609)).wellFormed = false := by decide
theorem test_wf_run : (Instr.frameReceived 0 .s []).wellFormed = false := by decide
theorem test_wf_good : (Instr.unknownOrder (order []) 0x60).wellFormed = true ∧ (Instr.channelStuck .fl .ab 32767).wellFormed = true := by
  decide

/-! ## Arithmetic and encodings (spec 00, 2.4; 11.4; 12.2) -/

/-- Ties go toward positive infinity (00, 2.4), and the quotient −3936 / 256 of chapter 4 rounds to −15. -/
theorem test_div_round : divRound 5 2 = 3 ∧ divRound (-5) 2 = -2 ∧ divRound (-3936) 256 = -15 := by decide

/-- The compressed counts of 11.4. -/
theorem test_compress : compress 31 = (0, 31) ∧ compress 32 = (1, 8) ∧ compress 127 = (1, 31) ∧ compress 128 = (2, 8) ∧
    compress 1000 = (3, 15) ∧ compress 507904 = (7, 31) ∧ compress 600000 = (7, 31) :=
  ⟨rfl, rfl, rfl, rfl, rfl, rfl, rfl⟩

set_option maxRecDepth 8000 in
/-- The check of the digits 1 to 9 is 0x29B1: the value published for this generator, start and bit order (R187). -/
theorem test_frame_check : frameCheck [0x31, 0x32, 0x33, 0x34, 0x35, 0x36, 0x37, 0x38, 0x39] = 0x29B1 := by decide

set_option maxRecDepth 8000 in
/-- A run whose last two bytes are not its check is dropped as such. -/
theorem test_bad_check : receive [1, 2, 3, 0, 0, 0] = .badCheck := by decide

/-! ## Worked cases of chapters 2 to 5 -/

/-- FL's velocity and body integrator of 3.6: v_f 225 from 200 with v_raw 300, v_b 150,054. -/
theorem test_motion : rawVelocity 12150 12000 0 = 300 ∧ filtered 200 300 2 = 225 ∧ integrate false 150000 10 50 = 150054 := by
  decide

/-- The NORMAL schedule of 3.5, band 2 with the coefficients of 3.6. -/
def bands : Bands :=
  { Bands.absent with
    b0 := ⟨true, 0, 0, 0, 0⟩, b1 := ⟨true, 300, 0, 0, 0⟩, b2 := ⟨true, 600, 1200, 2400, 800⟩, b3 := ⟨true, 900, 0, 0, 0⟩ }

/-- Lines of the selection table of 3.5. -/
theorem test_selection : selectBand bands .normal 905 20 (some ⟨2, .normal⟩) = ⟨3, .normal⟩ ∧
    selectBand bands .normal 895 20 (some ⟨3, .normal⟩) = ⟨3, .normal⟩ ∧
    selectBand bands .normal 875 20 (some ⟨3, .normal⟩) = ⟨2, .normal⟩ ∧
    selectBand bands .normal 390 20 (some ⟨1, .sport⟩) = ⟨1, .normal⟩ := by decide

/-- FL's demand of 3.6: 270 + 360 + 64 + 0 + 150 = 844 N. -/
theorem test_demand : demandOf .defaults ⟨true, 600, 1200, 2400, 800⟩ ⟨true, 12150, 0, 225, 150054, -80000⟩ true true 150 = 844 := by
  decide

/-- FL's bank of 4.6 as far as the case reaches it. -/
def bankFL : Bank where
  state := .active
  check := none
  words := [(1, ⟨50, true⟩), (2, ⟨100, true⟩), (3, ⟨200, true⟩), (4, ⟨400, true⟩), (5, ⟨800, true⟩), (6, ⟨1600, true⟩),
    (7, ⟨3200, true⟩), (9, ⟨200, true⟩), (10, ⟨400, true⟩), (11, ⟨800, true⟩), (12, ⟨1600, true⟩), (13, ⟨3200, true⟩),
    (14, ⟨6400, true⟩), (15, ⟨12800, true⟩), (43, ⟨900, true⟩), (44, ⟨1320, true⟩), (51, ⟨780, true⟩), (52, ⟨1150, true⟩),
    (71, ⟨1690, true⟩), (79, ⟨1780, true⟩)]

/-- The interpolations of 4.6 and 4.8. -/
theorem test_interpolation : bankFL.interpolate 225 844 = 908 ∧ bankFL.interpolate 0 0 = 0 ∧ bankFL.interpolate 5000 16000 = 1780 := by
  decide

/-- The index, the fractions and the three moves of 4.6. -/
theorem test_fractions : indexOn bankFL.value 225 3 ∧ fractionOn bankFL.value 225 3 = 32 ∧
    fractionOn (fun k => bankFL.value (8 + k)) 844 3 = 14 ∧ moved 900 1320 14 = 923 ∧ moved 780 1150 14 = 800 ∧ moved 923 800 32 = 908 := by
  refine ⟨⟨by decide, by decide, fun k low high => ?_⟩, by decide⟩
  have points : ∀ n : Fin 3, 225 < bankFL.value (4 + n) := by decide
  have := points ⟨k - 4, by omega⟩
  rwa [show 4 + (k - 4) = k by omega] at this

/-- FL's regulator of 5.9 in period 1, its setpoint moved to 880. -/
def regFL : Regulator :=
  { Regulator.powerOn with
    wanted := .tracking, enabled := true, setpoint := 880, target := 908, duty := 14000, u := 917504000, e1 := 2, e2 := 4
    offset := 2040 }

/-- Period 1 of 5.9: C = 427, i_m = 864, U = 918,304,000, duty 14,012; period 4's reading 2643 is 905 mA. -/
theorem test_loop : regFL.compareOf 1000 = 427 ∧ measured 2040 1536 2616 = 864 ∧ measured 2040 1536 2643 = 905 ∧
    (regFL.pid .defaults 864).u = 918304000 ∧ (regFL.pid .defaults 864).duty = 14012 ∧ (regFL.pid .defaults 864).e1 = 16 := by decide

/-- The setpoint of 5.9 reaches 908 in three moves, and a ramp of 5.4 ends at 0. -/
theorem test_setpoint : moveToward 860 908 20 = 880 ∧ moveToward 900 908 20 = 908 ∧ moveToward 8 0 10 = 0 := by decide

/-- Calibration accepts 1648 and 2448 and nothing beyond (R79). -/
theorem test_calibration_bounds : accepted 1648 = true ∧ accepted 2448 = true ∧ accepted 1647 = false ∧ accepted 2449 = false := by
  decide

/-! ## Single steps -/

/-- The first CYC after reset locks the tracker on its number, with the miss expiry 625 µs ahead. -/
theorem test_cyc_locks : ((after (.cycArrival 40 0xFF 0x01 ⟨9, 720, 1, .fill 0, 0⟩) State.reset).map fun p =>
    (p.tracker.state, p.tracker.record.number, p.tracker.missAt, p.context.speed)) = some (.locked, 9, some 25040, 720) := by decide

/-- A mode value above 2 keeps the mode and counts one clamp (R2). -/
theorem test_cyc_mode : ((after (.cycArrival 40 0xFF 0x01 ⟨9, 3001, 3, .fill 0, 0⟩) State.reset).map fun p =>
    (p.context.mode, p.context.speed, p.globals.contextClamp)) = some (.normal, 3000, 2) := by decide

/-- A miss expiry in LOCKED outside ENGAGED leaves every corner STALE. -/
theorem test_miss : ((after .missTimerExpiry (state openCycle)).map fun p =>
    (p.tracker.state, p.corners.rr.reasons.stale)) = some (.unlocked, true) := by decide

/-- The deadline computes the absent corners held and places a report. -/
theorem test_deadline : ((after .deadlineExpiry (state engagedPart)).map fun p =>
    (p.tracker.record.closed, p.corners.fl.counters.held, p.portS.sending.isSome)) = some (true, 1, true) := by decide

/-- A sample of the current cycle is FRESH in STANDBY and forwarded. -/
theorem test_sample : ((after (.sampleArrival 0x01 0x21 [0, 5, 0, 50, 0, 0, 0, 0x2F, 0x76, 0])
    (state fun p => { openCycle p with control := .standby })).map fun p =>
      (p.corners.fl.counters.fresh, p.corners.fl.motion.hPrev, p.corners.fl.motion.vb, p.portS.sending.isSome)) =
    some (1, 12150, 200, true) := by decide

/-- A link reset reaches the wheel-bound side and clears supervision. -/
theorem test_link_reset : ((after (.linkReset 0xFF 0x01 []) (state fun p => p)).map fun p =>
    (p.portW.sending.map (·.frame.kind), p.portS.goodMark)) = some (some 0x0E, false) := by decide

/-- READ_PARAM of id 13 answers CURRENT_LIMIT 1800. -/
theorem test_read_param : ((after (.readParam (order [13])) State.reset).bind fun p =>
    p.portS.sending.map (·.frame.payload)) = some [7, 0x02, 0, 0, 13, 0, 0, 0x07, 0x08] := by decide

/-- WRITE_PARAM of DUTY_MIN above DUTY_MAX is clamped to it (R170). -/
theorem test_write_param : ((after (.writeParam (order [21, 0, 0, 0x7F, 0xFF])) State.reset).map fun p =>
    (p.params.dutyMin, p.portS.sending.map (·.frame.payload.take 3))) = some (29491, some [7, 0x03, 1]) := by decide

/-- GAIN_WRITE of band 1 before band 0 is refused (R44). -/
theorem test_gain_write : ((after (.gainWrite (order [1, 1, 1, 44, 0, 0, 0, 0, 0, 0])) State.reset).bind fun p =>
    p.portS.sending.map (·.frame.payload)) = some [7, 0x10, 3, 2] := by decide

/-- MAP_OPEN of both front corners makes their A banks LOADING. -/
theorem test_map_open : ((after (.mapOpen (order [3])) State.reset).map fun p =>
    (p.corners.fr.banks.a.state, p.corners.rl.banks.a.state, p.store.group)) = some (.loading, .empty, ⟨true, true, false, false⟩) := by
  decide

/-- ENGAGE of an unloaded part is refused. -/
theorem test_engage : ((after (.engage (order [])) State.reset).bind fun p =>
    p.portS.sending.map (·.frame.payload)) = some [7, 0x30, 3, 1] := by decide

/-- FETCH_EVENT after reset gives RESTARTED with cause POWER. -/
theorem test_fetch_event : ((after (.fetchEvent (order [])) State.reset).bind fun p =>
    p.portS.sending.map (·.frame.payload)) = some [7, 0x40, 0, 0, 13, 0, 1, 0, 0, 0, 0] := by decide

/-- A period start loads C = 427 for FL of 5.9 (setpoint 860 to 880). -/
theorem test_period_start : ((after (.pwmPeriodStart 12000) (state fun p =>
    regulating { regFL with setpoint := 860 } (engagedPart p))).map fun p =>
      (p.corners.fl.reg.setpoint, p.corners.fl.reg.compare, p.corners.fl.reg.point)) = some (880, 427, .valley) := by decide

/-- An upset word reads with its parity failed. -/
theorem test_word_upset : ((after (.wordUpset .rl .b 143 0xBEEF) State.reset).map fun p =>
    memRead p.corners.rl.banks.b.words 143) = some ⟨0xBEEF, false⟩ := by decide

/-! ## States that meet the hypotheses of the statements: the machine, the cycle -/

theorem wit_idle : State.reset.pending = [] ∧ State.reset.part.pwm.up = false ∧ 1 ≤ State.reset.part.pwm.count := by decide
theorem wit_idle_last_down : (state fun p => { p with pwm := { p.pwm with count := 1 } }).part.pwm.count = 1 := by decide
theorem wit_idle_up : (state fun p => { p with pwm := { p.pwm with up := true, count := 999 } }).part.pwm.count <
    (state fun p => { p with pwm := { p.pwm with up := true, count := 999 } }).part.pwm.half := by decide

/-- FL regulating with C = 5, its run and the counter where given, in LATCH or LIMIT mode. -/
def gateAt (count : Nat) (up : Bool) (run : Nat) (latch : Bool) : State :=
  state fun p => { regulating { regFL with compare := 5, overRun := run } (engagedPart p) with
    pwm := { p.pwm with count := count, up := up, tripLatch := latch }
    pins := { p.pins with sense := p.pins.sense.set .fl 3774 } }

/-- The tick that brings the run to 6, above the 5 of TRIP_FILTER 1, queues the trip; 3774 is 2601 mA, 3773 is 2600 (R88). -/
theorem test_tick_trips : (gateAt 1 false 5 false).idle.pending = [.overcurrentTrip .fl 3774 0] ∧
    ((gateAt 4 true 6 false).idle.part.corner .fl).reg.overRun = 0 ∧
    measuredCurrent .defaults regFL 3774 = 2601 ∧ measuredCurrent .defaults regFL 3773 = 2600 := by decide
theorem wit_idle_gate : (gateAt 5 false 0 false).idle.part.gate .fl = true ∧ (gateAt 5 false 0 false).part.gate .fl = false ∧
    (gateAt 4 true 3 false).idle.part.gate .fl = false ∧ (gateAt 3 true 3 false).idle.part.gate .fl = true := by decide

theorem wit_cyc_first : State.reset.part.now ≤ 0 ∧ State.reset.part.tracker.lastStart = none := by decide
theorem wit_cyc_spaced : (state openCycle).part.now ≤ 10000 ∧ ∀ a, (state openCycle).part.tracker.lastStart = some a → a + 10000 ≤ 10000 := by
  refine ⟨by decide, fun a h => ?_⟩
  cases h; decide
/-- A closed cycle, FL SUSPENDED in an episode with a swap pending on its READY shadow. -/
def swapWaits (p : Part) : Part :=
  fl (fun k => { k with
    state := .suspended
    diag := { k.diag with episode := some ⟨10, none⟩ }
    banks := ⟨{ Bank.powerOn with state := .corrupt }, { Bank.powerOn with state := .ready }, some .a, true⟩ })
    { engagedPart p with tracker := (engagedPart p).tracker.shut }

theorem wit_cyc_swap : (state swapWaits).part.tracker.record.closed = true ∧ ((state swapWaits).part.corner .fl).banks.swapPending = true ∧
    ((state swapWaits).part.corner .fl).state = .suspended ∧
    ((state swapWaits).part.corner .fl).reasons = ⟨false, false, false, false, false⟩ := by decide
/-- The cycle start that takes the swap returns FL to CONTROL with a window of 64, and its CORRUPT bank is EMPTY. -/
theorem test_cyc_swap : ((after (.cycArrival 10000 0xFF 0x01 ⟨6, 720, 1, .fill 0, 0⟩) (state swapWaits)).map fun p =>
    (p.corners.fl.state, p.corners.fl.diag.episode, p.corners.fl.banks.active, p.corners.fl.banks.a.state)) =
    some (.control, some ⟨10, some 64⟩, some .b, .empty) := by decide
/-- A closed cycle, FL in CONTROL with this proving window. -/
def proving (window : Nat) : State :=
  state fun p => fl (fun k => { k with state := .control, diag := { k.diag with episode := some ⟨10, some window⟩ } })
    { engagedPart p with tracker := (engagedPart p).tracker.shut }

theorem wit_cyc_window : (proving 2).part.tracker.record.closed = true ∧ ((proving 2).part.corner .fl).state = .control ∧
    ((proving 2).part.corner .fl).diag.episode = some ⟨10, some 2⟩ ∧ ((proving 1).part.corner .fl).diag.episode = some ⟨10, some 1⟩ ∧
    ((proving 2).part.corner .fl).banks.swapPending = false := by decide
/-- A window of 64 counts to 63, and a window of 1 ends the episode recovered (R102). -/
theorem test_cyc_window : ((after (.cycArrival 10000 0xFF 0x01 ⟨6, 720, 1, .fill 0, 0⟩) (proving 64)).map fun p =>
      p.corners.fl.diag.episode) = some (some ⟨10, some 63⟩) ∧
    ((after (.cycArrival 10000 0xFF 0x01 ⟨6, 720, 1, .fill 0, 0⟩) (proving 1)).map fun p =>
      (p.corners.fl.diag.episode, p.corners.fl.diag.record.recovered, p.events.any (fun e => decide (e.event = .valveRecovered .fl)))) =
      some (none, true, true) := by decide
/-- The CYC goes down at once; behind a queue of 16 it is dropped. Speed 3001 and mode 3 count two clamps (R2, R5). -/
theorem test_cyc_forwarded : ((after (.cycArrival 10000 0xFF 0x01 ⟨6, 3001, 3, .fill 0, 0⟩) (proving 2)).map fun p =>
      (p.portW.sending.map (fun x => (x.frame.kind, x.frame.payload.length, x.doneAt)), p.globals.contextClamp)) =
      some (some (0x01, 14, 10440), 2) ∧
    ((after (.cycArrival 10000 0xFF 0x01 ⟨6, 720, 1, .fill 0, 0⟩) (state fun p =>
      { openCycle p with link := { p.link with wheelBound := List.replicate 16 ⟨1, 2, 3, []⟩ } })).map fun p =>
        (p.link.wheelBound.length, p.portW.counters.forwardDrop)) = some (16, 1) := by decide
theorem wit_cyc_open : (state openCycle).part.tracker.record.closed = false ∧ ∃ u, exec .deadlineExpiry { state openCycle with
    part := { (state openCycle).part with tracker := { (state openCycle).part.tracker with deadlineAt := some 10000 } } } = .next u :=
  ⟨by decide, _, rfl⟩
theorem wit_cyc_blanked : (state openCycle).part.now ≤ 9999 ∧ (state openCycle).part.tracker.lastStart = some 0 ∧ 9999 < 0 + 10000 := by
  decide

theorem wit_miss_engaged : (state engagedPart).part.tracker.missAt = some 25000 ∧ (state engagedPart).part.tracker.state = .locked ∧
    (state engagedPart).part.control = .engaged ∧ (state engagedPart).part.params.substitute = 1 := by decide
theorem wit_miss_standby : (state openCycle).part.tracker.missAt = some 25000 ∧ (state openCycle).part.tracker.state = .locked ∧
    ¬ ((state openCycle).part.control = .engaged ∧ (state openCycle).part.params.substitute = 1) := by decide

/-- An ENGAGED part in HOLDOVER or LOCAL with this run. -/
def substituting (x : TrackerState) (run : Nat) : State :=
  state fun p => { engagedPart p with tracker := { (engagedPart p).tracker with state := x, runCount := run } }

theorem wit_substitute_run : (substituting .holdover 15).part.tracker.state = .holdover ∧
    (substituting .holdover 15).part.tracker.runCount < 16 ∧ (substituting .holdover 15).part.tracker.missAt = some 25000 := by decide
theorem wit_substitute_limit : (substituting .holdover 16).part.tracker.runCount = 16 ∧
    (substituting .holdover 16).part.tracker.missAt = some 25000 := by decide
theorem wit_substitute_local : (substituting .localState 16).part.tracker.state = .localState ∧
    (substituting .localState 16).part.tracker.missAt = some 25000 := by decide

theorem wit_deadline : (state engagedPart).part.tracker.deadlineAt = some 14000 ∧
    (state engagedPart).part.tracker.record.closed = false ∧ (state engagedPart).part.control.computes = true := by decide

/-- FL with this held count, STALE or not. -/
def holding (held : Nat) (stale : Bool) : State :=
  state fun p => fl (fun k => { k with
    motion := { k.motion with held := held, vb := 150054 }, reasons := { k.reasons with stale := stale } }) (engagedPart p)

theorem wit_deadline_holds : ((holding 2 false).part.corner .fl).reasons.stale = false ∧
    ((holding 2 false).part.corner .fl).motion.held + 1 ≤ (holding 2 false).part.params.holdLimit ∧
    (holding 3 false).part.params.holdLimit < ((holding 3 false).part.corner .fl).motion.held + 1 ∧
    ((holding 0 true).part.corner .fl).reasons.stale = true := by decide
/-- A closure leaks v_b of 150,054 by trunc0(150,054 / 1024) = 146 (R31, R32). -/
theorem test_deadline_holds : ((after .deadlineExpiry (holding 2 false)).map fun p =>
    (p.corners.fl.motion.held, p.corners.fl.motion.vb)) = some (3, 149908) := by decide

theorem wit_spaced_reset : ∃ s : State, s.pending = .powerOnReset 1 :: [] ∧ s.part.tracker.lastStart = some 0 :=
  ⟨⟨openCycle State.reset.part, [.powerOnReset 1]⟩, rfl, rfl⟩
theorem wit_spaced : ∃ t, step State.reset = .next t :=
  ⟨_, rfl⟩
theorem wit_spaced_started : spaced (state openCycle).part := by
  intro a h
  cases h
  exact ⟨Nat.zero_le _, fun m hm => by cases hm; decide⟩

/-! ## Samples and demand -/

/-- FL's sample of 3.6 in cycle 5, height 12,150 µm. -/
def sampleFL : List Byte := [0, 5, 0, 50, 0, 0, 0, 0x2F, 0x76, 0]

/-- What FL's sample says. -/
def readFL : Sample := ⟨0, 5, 50, 0, 12150, false, false, false⟩

theorem wit_sample : usableSample .fl sampleFL readFL := by unfold usableSample; decide
theorem wit_fresh : readFL.hInvalid = false ∧ (state engagedPart).part.control.computes = true ∧
    (state engagedPart).part.tracker.state ≠ .unlocked ∧ (state engagedPart).part.tracker.record.closed = false ∧
    (state engagedPart).part.tracker.record.fresh.get .fl = false ∧ readFL.tag = currentTag (state engagedPart).part := by
  unfold currentTag; decide
/-- The same sample with its height marked invalid. -/
theorem wit_sample_invalid : usableSample .fl [0, 5, 0, 50, 0, 0, 0, 0x2F, 0x76, 4] { readFL with hInvalid := true } := by
  unfold usableSample; decide

/-- FL in the current cycle with this held count and a height repeated so often. -/
def heldAt (held same : Nat) : State :=
  state fun p => fl (fun k => { k with motion := ⟨true, 12000, held, 100, 2048, 512⟩, stuck := { k.stuck with h := ⟨some 12150, same, 0, false⟩ } })
    (engagedPart p)

/-- With an invalid height the record is held on up to HOLD_LIMIT 3 and unprimed above it, and the h tracker's runs are broken. -/
theorem wit_fresh_invalid : ((heldAt 2 5).part.corner .fl).motion.held + 1 ≤ (heldAt 2 5).part.params.holdLimit ∧
    (heldAt 3 5).part.params.holdLimit < ((heldAt 3 5).part.corner .fl).motion.held + 1 ∧
    ((after (.sampleArrival 0x01 0x21 [0, 5, 0, 50, 0, 0, 0, 0x2F, 0x76, 4]) (heldAt 2 5)).map fun p =>
      (p.corners.fl.motion, p.corners.fl.stuck.h, p.corners.fl.stuck.ab.last, p.corners.fl.counters.held)) =
      some (⟨true, 12000, 3, 100, 2046, 510⟩, ⟨some 12150, 0, 0, false⟩, some 50, 1) ∧
    ((after (.sampleArrival 0x01 0x21 [0, 5, 0, 50, 0, 0, 0, 0x2F, 0x76, 4]) (heldAt 3 5)).map fun p =>
      (p.corners.fl.motion.primed, p.corners.fl.reasons.stale)) = some (false, true) := by decide
/-- The 120th repetition of a height makes it stuck, which gives SENSOR; the 119th does not (R36). -/
theorem wit_fresh_stuck : (trackerAfter .defaults ((heldAt 0 119).part.corner .fl).stuck.h false 12150).stuck = true ∧
    (trackerAfter .defaults ((heldAt 0 118).part.corner .fl).stuck.h false 12150).stuck = false ∧
    ((after (.sampleArrival 0x01 0x21 sampleFL) (heldAt 0 119)).map fun p =>
      (p.corners.fl.reasons.sensor, p.corners.fl.stuck.h)) = some (true, ⟨some 12150, 120, 0, true⟩) := by decide
theorem wit_bad_sample : ∀ x, ¬ usableSample .fl [] x := by intro x h; cases h.1
theorem wit_sample_dead : State.reset.part.control = .unloaded := by decide
theorem wit_sample_unsynced : (state fun p => { p with control := .standby }).part.tracker.state = .unlocked := by decide
theorem wit_sample_late : (state fun p => { openCycle p with tracker := (openCycle p).tracker.shut }).part.tracker.record.closed = true := by
  decide
theorem wit_sample_duplicate : (state fun p => { openCycle p with tracker := { (openCycle p).tracker with
    record := { (openCycle p).tracker.record with fresh := .fill true } } }).part.tracker.record.fresh.get .fl = true := by decide
theorem wit_sample_previous : (4 : Byte) ≠ currentTag (state openCycle).part ∧
    ∃ n, (state openCycle).part.tracker.previous = some n ∧ n.extractLsb' 0 8 = (4 : Byte) :=
  ⟨by unfold currentTag; decide, 4, rfl, by decide⟩
theorem wit_sample_stale : (3 : Byte) ≠ currentTag (state openCycle).part ∧
    ∀ n, (state openCycle).part.tracker.previous = some n → n.extractLsb' 0 8 ≠ (3 : Byte) := by
  refine ⟨by unfold currentTag; decide, fun n h => ?_⟩
  cases h; decide

theorem wit_hold_limit : (state engagedPart).part.control.computes = true ∧ (state engagedPart).part.tracker.record.closed = false ∧
    (state engagedPart).part.tracker.record.computed.get .fl = false ∧
    (3 : Nat) < ((state fun p => fl (fun k => { k with motion := { k.motion with held := 3 } }) (engagedPart p)).part.corner .fl).motion.held + 1
    := by decide

/-- FL with this tracker on its height. -/
def heightTracker (t : StuckTracker) : State := state fun p => fl (fun k => { k with stuck := { k.stuck with h := t } }) (engagedPart p)

theorem wit_stuck : (((heightTracker ⟨some 9, 119, 0, false⟩).part.corner .fl).stuck.get .h).last = some 9 ∧
    (heightTracker ⟨some 9, 119, 0, false⟩).part.params.stuckCount ≤ min 255 (119 + 1) := by decide
theorem wit_release : (((heightTracker ⟨some 9, 0, 15, true⟩).part.corner .fl).stuck.get .h).stuck = true ∧
    (heightTracker ⟨some 9, 0, 15, true⟩).part.params.stuckClear ≤ min 64 (15 + 1) := by decide

/-- The schedule of 3.5 in all modes, at speed 720. -/
def scheduled (p : Part) : Part :=
  { engagedPart p with schedule := ⟨bands, bands, bands⟩, context := { (engagedPart p).context with speed := 720 } }

theorem wit_candidate : candidate ((state scheduled).part.schedule.get (state scheduled).part.context.mode)
    (state scheduled).part.context.speed 2 := by unfold candidate; decide
/-- A sample of a part with FL regulating leaves it in CONTROL. -/
theorem wit_demand : ((after (.sampleArrival 0x01 0x21 sampleFL) (state fun p => regulating regFL (scheduled p))).map fun p =>
    (p.corners.fl.state, p.selection)) = some (.control, some ⟨2, .normal⟩) := by decide

/-- FL PASSIVE for SUPPLY with its ramp in progress forms its demand and does not apply the target (R125). -/
theorem wit_demand_passive : ((after (.sampleArrival 0x01 0x21 sampleFL) (state fun p => fl (fun k => { k with
    state := .passive false, reasons := { k.reasons with supply := true }
    banks := ⟨bankFL, .powerOn, some .a, false⟩ }) (scheduled p))).map fun p =>
      (p.corners.fl.state, p.selection, p.corners.fl.reg.target, p.corners.fl.banks.a.state)) =
    some (.passive false, some ⟨2, .normal⟩, 0, .active) := by decide
theorem wit_demand_held : (state fun p => regulating regFL (scheduled p)).part.tracker.deadlineAt = some 14000 ∧
    (state fun p => regulating regFL (scheduled p)).part.tracker.record.computed.get .fl = false ∧
    ((after .deadlineExpiry (state fun p => regulating regFL (scheduled p))).map fun p => p.corners.fl.state) = some .control := by decide
theorem wit_demand_none : (state fun p => { openCycle p with control := .standby }).part.control ≠ .engaged ∧
    (state fun p => { openCycle p with control := .standby }).part.control.computes = true := by decide

/-! ## The link -/

theorem wit_payload : (List.replicate 60 (0 : Byte)).length ≤ 60 := by decide
theorem wit_order_row : orderRow (.mapOpen (order [1])) = some (order [1], 0x20) ∧ (Instr.mapOpen (order [1])).wellFormed = true := by
  decide
theorem wit_forwarded : (⟨0x21, 0x01, 0x33, []⟩ : Frame).dst ≠ State.reset.part.address ∧
    (⟨0x21, 0x01, 0x33, []⟩ : Frame).kind ≠ 0x01 ∧ (⟨0x21, 0x01, 0x33, []⟩ : Frame).kind ≠ 0x0E := by decide
theorem wit_misaddressed : (⟨0x10, 0x01, 0x33, []⟩ : Frame).dst = State.reset.part.address ∧
    (⟨0x10, 0x21, 0x10, []⟩ : Frame).dst = State.reset.part.address := by decide
theorem wit_cyc_kind : (⟨0xFF, 0x01, 0x01, List.replicate 13 0⟩ : Frame).payload.length ≠ 14 ∧
    (⟨0xFF, 0x01, 0x01, List.replicate 15 0⟩ : Frame).payload.length ≠ 14 := by decide
theorem wit_bad_length : receive [1, 2, 3] = .badLength ∧ receive [1, 2, 3, 61, 0, 0] = .badLength := by decide
theorem wit_length_passes : lengthPasses [1, 2, 3, 0, 0, 0] := ⟨by decide, by decide, 0, rfl, by decide, by decide⟩

/-- A frame to place or to send. -/
def someFrame : Frame := ⟨0x01, 0x21, 0x40, []⟩

/-- Both transmitters busy, with these queues. -/
def busy (link : Link) (p : Part) : Part :=
  { p with
    link := link
    portS := { p.portS with sending := some ⟨someFrame, 160⟩ }
    portW := { p.portW with sending := some ⟨someFrame, 160⟩ } }

theorem wit_sending : (state (busy ⟨[], [], [], none, none⟩)).part.portS.sending = some ⟨someFrame, 160⟩ ∧
    (state (busy ⟨[], [], [], none, none⟩)).part.portW.sending = some ⟨someFrame, 160⟩ := by decide
theorem wit_reply_waits : (state (busy ⟨[], [], [someFrame], none, none⟩)).part.link.replies = someFrame :: [] := by decide
theorem wit_chassis_waits : (state (busy ⟨[], [someFrame], [], none, none⟩)).part.link.chassisBound = someFrame :: [] ∧
    (state (busy ⟨[], [someFrame], [], none, none⟩)).part.link.replies = [] := by decide
theorem wit_report_waits : (state (busy ⟨[], [], [], some someFrame, none⟩)).part.link.report = some someFrame ∧
    (state (busy ⟨[], [], [], some someFrame, none⟩)).part.link.chassisBound = [] := by decide
theorem wit_substitute_waits : (state (busy ⟨[someFrame], [], [], none, some someFrame⟩)).part.link.substitute = some someFrame := by decide
theorem wit_wheel_waits : (state (busy ⟨[someFrame], [], [], none, none⟩)).part.link.wheelBound = someFrame :: [] ∧
    (state (busy ⟨[someFrame], [], [], none, none⟩)).part.link.substitute = none := by decide
theorem wit_queue_full : (state (busy ⟨List.replicate 16 someFrame, List.replicate 16 someFrame, [], none, none⟩)).part.link.wheelBound.length = 16 ∧
    (state (busy ⟨List.replicate 16 someFrame, List.replicate 16 someFrame, [], none, none⟩)).part.link.chassisBound.length = 16 := by decide
theorem wit_queue_last : (state (busy ⟨List.replicate 15 someFrame, [], [], none, none⟩)).part.link.wheelBound.length < 16 := by decide
theorem wit_idle_ports : State.reset.part.portW.sending = none ∧ State.reset.part.portS.sending = none ∧
    State.reset.part.link.wheelBound = [] ∧ State.reset.part.link.replies = [] ∧ State.reset.part.link.chassisBound = [] ∧
    State.reset.part.link.report = none ∧ State.reset.part.link.substitute = none := by decide

theorem wit_link_reset : State.reset.part.params.resetFollowsLink = 0 := by decide
/-- Port W without signal, FL PASSIVE for LINK alone, and a substitute pending at an IDLE Port W. -/
def linkLost (p : Part) : Part :=
  fl (fun k => { k with state := .passive false, reasons := { k.reasons with link := true } })
    { engagedPart p with portW := { p.portW with los := true }, link := { p.link with substitute := some someFrame } }

theorem wit_link_reset_returns : (state linkLost).part.supervised ∧ (state linkLost).part.portW.los = true ∧
    (state linkLost).part.control = .engaged ∧ ((state linkLost).part.corner .fl).state = .passive false ∧
    { ((state linkLost).part.corner .fl).reasons with link := false } = ⟨false, false, false, false, false⟩ ∧
    (state linkLost).part.portW.sending = none ∧ (state linkLost).part.link.substitute = some someFrame :=
  ⟨fun c => by cases c <;> exact fun h => (nomatch h), by decide⟩
theorem wit_link_reset_follows :
    (state fun p => { p with params := { p.params with resetFollowsLink := 1 } }).part.params.resetFollowsLink = 1 := by decide

/-- Port W with this supervision state. -/
def portW (k : PortPart) : State := state fun p => { p with portW := k }

/-- A port in these runs. -/
def portIn (los mark : Bool) (silent clean window : Nat) : PortPart := ⟨none, los, silent, clean, mark, false, 8, window, .zero⟩

theorem wit_los_assert : ((portW (portIn false false 3 0 0)).part.port .w).los = false ∧
    ((portW (portIn false false 3 0 0)).part.port .w).goodMark = false ∧
    (portW (portIn false false 3 0 0)).part.params.losTime ≤ min 32 (3 + 1) := by decide
theorem wit_los_clear : ((portW (portIn true true 0 7 0)).part.port .w).los = true ∧
    7 ≤ ((portW (portIn true true 0 7 0)).part.port .w).cleanRun := by decide
theorem wit_los_holds : ((portW (portIn true true 0 6 254)).part.port .w).cleanRun < 7 ∧
    ((portW (portIn true true 0 6 254)).part.port .w).window < 255 := by decide
theorem wit_window : 255 ≤ ((portW (portIn false true 0 0 255)).part.port .w).window ∧
    (portW (portIn false true 0 0 255)).part.params.qualOn ≤ ((portW (portIn false true 0 0 255)).part.port .w).errored := by
  decide

/-! ## Orders -/

theorem wit_takes_orders : takesOrders State.reset.part := by unfold takesOrders; decide
theorem wit_no_place : 4 ≤ (state fun p => { p with
    slot := some ⟨1, 2, 0x22⟩, link := { p.link with replies := List.replicate 3 someFrame } }).part.link.replies.length + 1 := by decide
theorem wit_held_slot : (state fun p => { p with
    slot := some ⟨1, 2, 0x22⟩, link := { p.link with replies := List.replicate 2 someFrame } }).part.link.replies.length + 1 < 4 := by decide
theorem wit_param : ParamId.ofCode (22 : Byte).toNat = some .dutyMax ∧ ParamId.ofCode (4 : Byte).toNat = some .holdLimit ∧
    ParamId.ofCode (1 : Byte).toNat = some .velShift ∧ ParamId.ofCode (41 : Byte).toNat = none := by decide
theorem wit_may_write : mayWrite .pwmHalf State.reset.part ∧ ¬ mayWrite .pwmHalf (state engagedPart).part :=
  ⟨fun _ => ⟨Or.inl rfl, fun c => by cases c <;> rfl⟩, fun h => by cases (h (Or.inl rfl)).1 with | inl h => cases h | inr h => cases h⟩
theorem wit_params_sound : Params.defaults.sound :=
  ⟨fun id => by cases id <;> decide, by decide, by decide, by decide, by decide⟩
theorem wit_duties : ((regulating regFL State.reset.part).corner .fl).reg.enabled = true := by decide
theorem wit_hold_written : (1 : Nat) < ((state fun p => fl (fun k => { k with motion := { k.motion with held := 2 } }) p).part.corner .fl).motion.held := by
  decide
theorem wit_admissible : admissible (State.reset.part.schedule.get .normal) 0 ⟨true, 0, 20000, 0, 20000⟩ ∧
    admissible bands 4 ⟨true, 3000, 0, 0, 0⟩ ∧ ¬ admissible bands 2 ⟨true, 900, 0, 0, 0⟩ := by unfold admissible; decide
theorem wit_mode : Mode.ofCode (2 : Byte).toNat = some .sport ∧ Mode.ofCode (3 : Byte).toNat = none := by decide

/-! ## The map store -/

/-- FL's shadow in this state, the swap pending or not. -/
def shadowIn (x : BankState) (pending : Bool) : State :=
  state fun p => fl (fun k => { k with banks := { k.banks with a := { k.banks.a with state := x }, swapPending := pending } }) p

theorem wit_open : named 1 .fl = true ∧ named 1 .fr = false ∧ (shadowBank ((shadowIn .empty false).part.corner .fl)).state ≠ .checking ∧
    ((shadowIn .empty false).part.corner .fl).banks.swapPending = false := by decide
theorem wit_open_busy : (shadowBank ((shadowIn .checking false).part.corner .fl)).state = .checking := by decide
theorem wit_open_pending : ((shadowIn .ready true).part.corner .fl).banks.swapPending = true := by decide

/-- A load of FL at this pointer. -/
def loading (pointer : Nat) : State := state fun p => { p with store := { p.store with group := ⟨true, false, false, false⟩, pointer := pointer } }

theorem wit_data : (loading 120).part.store.group.get .fl = true ∧ (120 : Byte).toNat = (loading 120).part.store.pointer ∧
    (120 : Byte).toNat + (24 : Byte).toNat ≤ 144 ∧ takesOrders (loading 120).part := by unfold takesOrders; decide
theorem wit_data_canonical : (loading 120).part.storeCanonical := by
  intro c; cases c <;> exact ⟨rfl, rfl⟩
theorem wit_data_beyond : 144 < (121 : Byte).toNat + (24 : Byte).toNat ∧ (121 : Byte).toNat = (loading 121).part.store.pointer := by decide
theorem wit_close : (loading 144).part.store.group.get .fl = true ∧ 144 ≤ (loading 144).part.store.pointer := by decide
theorem wit_close_incomplete : (loading 143).part.store.pointer < 144 := by decide

/-- A validation of FL's blank shadow with this many words read, its check value 0, MAP_CLOSE holding the slot. -/
def validating (n : Nat) : State :=
  state fun p => { fl (fun k => { k with banks := { k.banks with a := ⟨.checking, [], some 0⟩ } }) p with
    store := ⟨.fill false, 0, some ⟨[.fl], List.replicate n 0, .fill .none⟩, 0⟩, slot := some ⟨1, 2, 0x22⟩ }

/-- The blank image as it is read. -/
def blankImage : List Word := List.replicate 144 0

set_option maxRecDepth 20000 in
/-- The blank image fails AXIS at its ninth reading, also where a word already read has been upset since (R59, R69). -/
theorem test_judged_as_read : ((after .validationBankJudged (state fun p => { fl (fun k => { k with
    banks := { k.banks with a := ⟨.checking, [(3, ⟨9, false⟩)], some 0⟩ } }) p with
      store := (validating 128).part.store, slot := some ⟨1, 2, 0x22⟩ })).bind fun p =>
    p.portS.sending.map (·.frame.payload)) = some [2, 0x22, 4, 3, 3, 0, 0, 0] := by decide

set_option maxRecDepth 20000 in
theorem wit_judged : (validating 128).part.store.validation = some ⟨.fl :: [], List.replicate 128 0, .fill .none⟩ ∧
    (∀ w ∈ sixteen (shadowBank ((validating 128).part.corner .fl)) 128, w.intact = true) ∧
    List.replicate 128 0 ++ (sixteen (shadowBank ((validating 128).part.corner .fl)) 128).map (·.value) = blankImage := by
  exact ⟨by decide, by decide, by decide⟩
set_option maxRecDepth 20000 in
theorem wit_judged_outcome : outcomeOf blankImage (shadowBank ((validating 128).part.corner .fl)).check 1800 .axis := by
  have hcheck : (shadowBank ((validating 128).part.corner .fl)).check = some (BitVec.ofNat 16 (((List.range 144).map
      (fun n => (n + 1) * (blankImage.getD n 0).toNat)).sum % 65536)) := by decide
  refine ⟨fun h => absurd hcheck h, fun _ _ => rfl, fun _ h => ?_, fun _ h => ?_, fun _ h => ?_⟩ <;>
    exact absurd (h.2.2.2.2 0 (by decide)).1 (by decide)
theorem wit_judged_parity : ∃ w ∈ sixteen ⟨.checking, [(5, ⟨0, false⟩)], some 0⟩ 0, w.intact = false :=
  ⟨⟨0, false⟩, by decide, rfl⟩
/-- The last reading that does not judge is the eighth. -/
theorem wit_reading_goes_on : (List.replicate 112 (0 : Word)).length + 16 < 144 ∧ (List.replicate 127 (0 : Word)).length + 16 < 144 ∧
    ∀ w ∈ sixteen (shadowBank ((validating 112).part.corner .fl)) 112, w.intact = true := by decide

theorem wit_swap : swapCase (shadowIn .ready false).part (named 1 .fl) .fl = 1 ∧
    swapCase (engagedPart (shadowIn .ready false).part) (named 1 .fl) .fl = 2 ∧
    swapCase (shadowIn .ready true).part (named 1 .fl) .fl = 3 ∧ swapCase (shadowIn .empty false).part (named 1 .fl) .fl = 4 ∧
    swapCase (shadowIn .ready false).part (named 1 .fr) .fr = 0 := by unfold swapCase; decide
/-- A swap of FL alone leaves an unloaded part UNLOADED. -/
theorem test_swap_unloaded : ((shadowIn .ready false).part.control = .unloaded ∧ (shadowIn .ready false).part.loaded = false) ∧
    ((after (.mapSwap (order [1])) (shadowIn .ready false)).map fun p => (p.control, p.loaded, p.corners.fl.banks.active)) =
      some (.unloaded, false, some .a) := by decide

theorem wit_read : readArgs [0, 0, 120, 24] .fl .a 120 24 := by unfold readArgs; decide
theorem wit_read_upset : (memRead [(5, (⟨9, false⟩ : StoredWord))] 5).intact = false ∧
    ∀ k, 3 ≤ k → k < 5 → (memRead [(5, (⟨9, false⟩ : StoredWord))] k).intact = true := by
  refine ⟨by decide, fun k h1 h2 => ?_⟩
  interval_cases k <;> decide
theorem wit_read_states : (shadowBank ((shadowIn .checking false).part.corner .fl)).state = .checking ∧
    (shadowBank ((shadowIn .ready false).part.corner .fl)).state = .ready := by decide

/-! ## The supervisor -/

theorem wit_engage : ∃ s : State, takesOrders s.part ∧ s.part.control = .standby ∧ s.part.tracker.state = .locked ∧
    (s.part.corner .fl).state = .off :=
  ⟨state fun p => { openCycle p with control := .standby }, by unfold takesOrders; decide, rfl, rfl, rfl⟩
theorem wit_engage_none : ∃ s : State, takesOrders s.part ∧ s.part.control = .standby ∧ s.part.tracker.state = .locked ∧
    ∀ c, (s.part.corner c).state = .fault ∨ ∃ phase r, (s.part.corner c).state = .test phase r :=
  ⟨state fun p => { openCycle p with control := .standby, corners := .fill { CornerPart.powerOn with state := .fault } },
    by unfold takesOrders; decide, rfl, rfl, fun c => Or.inl (by cases c <;> rfl)⟩
theorem wit_release_engaging : takesOrders (state fun p => { openCycle p with control := .engaging }).part := by
  unfold takesOrders; decide
theorem wit_release_engaged : takesOrders (state engagedPart).part ∧ (state engagedPart).part.control = .engaged ∧
    takesOrders (substituting .holdover 3).part ∧ (substituting .holdover 3).part.tracker.state = .holdover := by unfold takesOrders; decide
theorem wit_release_ramping : (released ((regulating regFL State.reset.part).corner .fl)).state ≠ .off ∧
    (released ((regulating regFL State.reset.part).corner .fl)).state ≠ .fault := by decide
theorem wit_valve_test : nat16 0x07 0x08 ≤ State.reset.part.params.currentLimit ∧ 100 ≤ nat16 0 100 ∧ nat16 0 100 ≤ 10000 ∧
    State.reset.part.control = .unloaded ∧ (State.reset.part.corner .fl).state = .off ∧
    State.reset.part.params.currentLimit < nat16 0x07 0x09 ∧ nat16 0 99 < 100 := by decide

/-- FL in FAULT in this control state. -/
def faulted (x : ControlState) (stale : Bool) : State :=
  state fun p => { fl (fun k => { k with state := .fault, reasons := { k.reasons with stale := stale } }) p with control := x }

theorem wit_clear_fault : ((faulted .engaging false).part.corner .fl).state = .fault ∧ takesOrders (faulted .engaging false).part ∧
    ((faulted .engaged false).part.corner .fl).reasons = ⟨false, false, false, false, false⟩ ∧
    ((faulted .engaged true).part.corner .fl).reasons ≠ ⟨false, false, false, false, false⟩ ∧
    (faulted .standby false).part.control ≠ .engaged := by unfold takesOrders; decide
theorem wit_fetch : State.reset.part.events = ⟨.restarted, 1, 0, 0⟩ :: [] ∧
    (state fun p => { p with events := [] }).part.events = [] := by decide
theorem wit_counters : CounterGroup.ofCode (6 : Byte).toNat = some .whole ∧ CounterGroup.ofCode (0 : Byte).toNat = some (.port .s) ∧
    CounterGroup.ofCode (7 : Byte).toNat = none := by decide

/-! ## Valves -/

theorem wit_tracking : ((regulating regFL State.reset.part).corner .fl).reg.wanted = .tracking ∧ regFL.enabled = true := by decide

/-- FL ramping at this setpoint, in this corner and control state. -/
def ramps (setpoint : Nat) (x : CornerState) (control : ControlState) : State :=
  state fun p => { fl (fun k => { k with state := x, reg := { regFL with wanted := .ramping, setpoint := setpoint } }) p with
    control := control }

theorem wit_ramp_going : (ramps 11 (.passive false) .engaged).part.params.ramp < ((ramps 11 (.passive false) .engaged).part.corner .fl).reg.setpoint := by
  decide
theorem wit_ramp_ends : ((ramps 10 (.passive false) .engaged).part.corner .fl).reg.setpoint ≤ (ramps 10 (.passive false) .engaged).part.params.ramp ∧
    ((ramps 10 (.passive false) .engaged).part.corner .fl).reg.wanted = .ramping := by decide
theorem wit_ramp_releasing : (ramps 10 .control .releasing).part.control = .releasing ∧
    ((ramps 10 .control .releasing).part.corner .fl).state = .control ∧
    ∀ d, d ≠ Corner.fl → ((ramps 10 .control .releasing).part.corner d).state = .off ∨
      ((ramps 10 .control .releasing).part.corner d).state = .fault :=
  ⟨rfl, rfl, fun d _ => by cases d <;> first | exact Or.inl rfl | contradiction⟩
theorem wit_disabled : (State.reset.part.corner .fl).reg.wanted = .disabled ∧ (State.reset.part.corner .fl).reg.enabled = false ∧
    (State.reset.part.corner .fl).reg.sampled = false ∧ (State.reset.part.corner .fl).reg.calibration = none ∧
    (State.reset.part.corner .fl).state ≠ .fault := by decide

/-- FL regulating and near neither condition at a reading of 2616; a reading of 2130 leaks 123 mA from a disabled driver. -/
theorem wit_sample_control : (regFL.sampled = false ∧ regFL.calibration = none) ∧
    openPeriod .defaults (sampledCorner .defaults 2616 ((regulating regFL State.reset.part).corner .fl)) 864 = false ∧
    trippedPeriod (sampledReg .defaults 2616 regFL) = false ∧
    (Params.defaults.leakLevel : Int) < measuredCurrent .defaults Regulator.powerOn 2130 ∧
    measuredCurrent .defaults Regulator.powerOn 2128 ≤ Params.defaults.leakLevel := by decide

/-- The scrub finds FL's ACTIVE bank upset at its pointer, and not at the next word. -/
theorem wit_scrub : (memRead [(7, (⟨9, false⟩ : StoredWord))] 7).intact = false ∧ (memRead [(7, (⟨9, false⟩ : StoredWord))] 8).intact = true ∧
    ((after (.pwmPeriodStart 12000) (state fun p => { fl (fun k => { k with state := .control, banks :=
      ⟨⟨.active, [(7, ⟨9, false⟩)], none⟩, .powerOn, some .a, false⟩ }) (engagedPart p) with store := { p.store with scrub := 7 } })).map
        fun p => (p.corners.fl.banks.a.state, p.corners.fl.state, p.store.scrub)) = some (.corrupt, .passive false, 8) := by decide

/-- A test record of 100 periods with this many driven. -/
def testRecord (driven : Nat) : TestRecord := { TestRecord.fresh 500 100 with driven := driven }

/-- FL in phase DRIVE. -/
def driving (driven : Nat) (latch : Bool) : State :=
  state fun p => { fl (fun k => { k with state := .test .drive (testRecord driven), reg := regFL }) p with
    slot := some ⟨1, 2, 0x32⟩, pwm := { p.pwm with tripLatch := latch } }

theorem wit_sample_test : ((driving 98 false).part.corner .fl).state = .test .drive (testRecord 98) ∧
    (testRecord 98).driven + 1 ≠ (testRecord 98).duration := by decide
theorem wit_test_completes : (driving 99 false).part.slot = some ⟨1, 2, 0x32⟩ ∧ (testRecord 99).driven + 1 = (testRecord 99).duration ∧
    2 ≤ (testRecord 99).duration ∧ openPeriod (driving 99 false).part.params ((driving 99 false).part.corner .fl) 864 = false := by decide
theorem wit_test_trips : ((driving 5 true).part.corner .fl).reg.enabled = true ∧ (driving 5 true).part.pwm.tripLatch = true := by decide

/-- FL saturated at DUTY_MAX with these runs. -/
def saturated (openRun shortRun : Nat) (tripped : Bool) (p : Part) : Part :=
  fl (fun k => { k with
    state := .control
    reg := { regFL with duty := 29491, setpoint := 150, tripped := tripped }
    diag := { k.diag with openRun := openRun, shortRun := shortRun } }) (engagedPart p)

theorem wit_open_condition : openPeriod .defaults ((state (saturated 39 0 false)).part.corner .fl) 74 = true ∧
    (state (saturated 39 0 false)).part.params.satRun ≤ ((state (saturated 39 0 false)).part.corner .fl).diag.openRun + 1 ∧
    (state (saturated 39 0 false)).part.control = .engaged := by decide
theorem wit_short : limitPeriod (state (saturated 0 3 true)).part.pwm ((state (saturated 0 3 true)).part.corner .fl).reg = true ∧
    (state (saturated 0 3 true)).part.params.tripRun ≤ ((state (saturated 0 3 true)).part.corner .fl).diag.shortRun + 1 := by decide
/-- At a valley, the period just ended counts if it tripped in LIMIT mode, whatever holds now; one that tripped in LATCH mode
does not, and with TRIP_RUN 1 gives no second suspicion (R96). -/
theorem test_latch_period :
    let k : CornerPart := { CornerPart.powerOn with reg := { regFL with point := .valley, trippedBefore := true } }
    (k.shortRunNext ⟨0, true, 1000, 2600, 1, true, false⟩ = 1 ∧ k.shortRunNext ⟨0, true, 1000, 2600, 1, false, true⟩ = 0) ∧
    k.shortMet { Params.defaults with tripRun := 1 } ⟨0, true, 1000, 2600, 1, true, false⟩ = true ∧
    k.shortMet { Params.defaults with tripRun := 1 } ⟨0, true, 1000, 2600, 1, false, true⟩ = false := by decide
theorem wit_test_opens : openPeriod .defaults { ((driving 5 false).part.corner .fl) with reg := { regFL with duty := 29491 } } 74 = true := by
  decide

/-- From the period's start with C = 5 the gate is on after 996 ticks and the trip comes at the sixth on-tick, 1001 ticks on;
with one tick of on-time left the filter time cannot pass, and a run of 6 is due at once. -/
theorem wit_trip : tripMet (gateAt 1000 false 0 false).part .fl 3774 1001 ∧ ¬ tripMet (gateAt 1000 false 0 false).part .fl 3774 1000 ∧
    tripMet (gateAt 4 false 1 true).part .fl 3774 5 ∧ ¬ tripMet (gateAt 4 false 1 true).part .fl 3774 4 ∧
    tripMet (gateAt 3 true 5 true).part .fl 3774 1 ∧ ¬ tripMet (gateAt 3 true 4 true).part .fl 3774 9 ∧
    tripMet (gateAt 0 true 6 false).part .fl 3774 0 ∧ ¬ tripMet (gateAt 1000 false 0 false).part .fl 3773 2000 := by
  unfold tripMet; decide
/-- The trip of FL from the period's start leaves the counter at 1 on its way up, the gate off and the driver enabled. -/
theorem test_trip : ((after (.overcurrentTrip .fl 3774 1001) (gateAt 1000 false 0 false)).map fun p =>
    (p.pwm.count, p.pwm.up, p.gate .fl, p.corners.fl.counters.overcurrent, p.corners.fl.reg.enabled)) =
    some (1, true, false, 1, true) := by decide

/-- FL in this state with 63 samples of its calibration taken. -/
def calibrating (x : CornerState) (control : ControlState) : State :=
  state fun p => { fl (fun k => { k with state := x, reg := { k.reg with calibration := some ⟨true, 63, 63 * 2048⟩ } }) p with
    control := control, slot := some ⟨1, 2, 0x32⟩ }

/-- A calibration requested begins at the period start (R79). -/
theorem wit_calibration_begins : ((after (.pwmPeriodStart 12000) (state fun p => { fl (fun k => { k with
    state := .calibrating .engage false, reg := { k.reg with calibration := some ⟨false, 0, 0⟩ } }) p with control := .engaging })).map
      fun p => (p.corners.fl.reg.wanted, p.corners.fl.state, p.corners.fl.reg.calibration)) =
    some (.disabled, .calibrating .engage false, some ⟨true, 0, 0⟩) := by decide
theorem wit_calibration : ((calibrating (.calibrating .engage false) .engaging).part.corner .fl).reg.calibration = some ⟨true, 63, 129024⟩ ∧
    1648 ≤ offsetOf (129024 + (2048 : BitVec 12).toNat) ∧ offsetOf (129024 + (2048 : BitVec 12).toNat) ≤ 2448 := by decide
theorem wit_calibration_last : ∀ d, d ≠ Corner.fl →
    (∃ y b', ((calibrating (.calibrating .engage false) .engaging).part.corner d).state = .calibrating y b') →
    ((calibrating (.calibrating .engage false) .engaging).part.corner d).reg.calibration = none := by
  intro d hd; cases d <;> first | contradiction | exact fun _ => rfl
theorem wit_calibration_other : ((state fun p => { p with corners := .fill { CornerPart.powerOn with
    state := .calibrating .engage false, reg := { Regulator.powerOn with calibration := some ⟨true, 63, 0⟩ } } }).part.corner
      .rr).reg.calibration.isSome = true := by decide
theorem wit_calibration_recal : ((calibrating (.calibrating .recal false) .engaged).part.corner .fl).state = .calibrating .recal false ∧
    ((calibrating (.test .cal (testRecord 0)) .standby).part.corner .fl).state = .test .cal (testRecord 0) := by decide
theorem wit_calibration_fails : offsetOf (63 * 1647 + (1647 : BitVec 12).toNat) < 1648 ∧
    2448 < offsetOf (63 * 2449 + (2449 : BitVec 12).toNat) := by decide

theorem wit_leak : (state fun p => fl (fun k => { k with diag := { k.diag with leakRun := 7 } }) p).part.control ≠ .releasing ∧
    7 ≤ ((state fun p => fl (fun k => { k with diag := { k.diag with leakRun := 7 } }) p).part.corner .fl).diag.leakRun ∧
    (State.reset.part.params.leakLevel : Int) < 121 := by decide
theorem wit_recovered : ((state fun p => fl (fun k => { k with
    state := .control, diag := { k.diag with episode := some ⟨10, some 1⟩ } }) p).part.corner .fl).diag.episode = some ⟨10, some 1⟩ := by decide

theorem wit_supply_low : (state fun p => { p with supply := ⟨false, 7, false⟩ }).part.supply.low = false ∧
    8999 < State.reset.part.params.supplyLowOn := by decide
theorem wit_supply_high : (state fun p => { p with supply := ⟨false, 0, false⟩ }).part.supply.high = false ∧
    State.reset.part.params.supplyHighOn < 16501 ∧ 15800 ≤ State.reset.part.params.supplyHighOff ∧
    ((after (.pwmPeriodStart 16501) (state engagedPart)).map fun p => (p.supply.high, p.corners.fl.reasons.supply)) = some (true, true) ∧
    ((after (.pwmPeriodStart 15800) (state fun p => { p with supply := ⟨false, 0, true⟩ })).map fun p => p.supply) =
      some ⟨false, 0, false⟩ := by decide
theorem wit_supply_counts : ((after (.pwmPeriodStart 8999) (state fun p => { p with supply := ⟨false, 6, false⟩ })).map fun p => p.supply) =
    some ⟨false, 7, false⟩ := by decide
theorem wit_supply_clears : (state fun p => { p with supply := ⟨true, 7, true⟩ }).part.supply.low = true ∧
    State.reset.part.params.supplyLowOff ≤ 9800 ∧ highAfter (state fun p => { p with supply := ⟨true, 7, true⟩ }).part 9800 = false ∧
    highAfter (state fun p => { p with supply := ⟨true, 7, true⟩ }).part 15801 = true := by decide

/-! ## What every step keeps -/

/-- An ENGAGED part with one upset word, a waiting report and two events. -/
def busyPart (p : Part) : Part :=
  { fl (fun k => { k with banks := { k.banks with b := bankFL } }) (engagedPart p) with
    link := ⟨[someFrame], [], [someFrame], some someFrame, none⟩, slot := some ⟨1, 2, 0x22⟩
    events := [⟨.supply, 255, 4, 1⟩, ⟨.mapParity .fl, 1, 5, 0⟩] }

theorem wit_structures : (state busyPart).part.storeCanonical ∧ (state busyPart).part.queuesSound ∧
    eventsSound (state busyPart).part.events :=
  ⟨fun c => by cases c <;> exact ⟨rfl, rfl⟩, ⟨by decide, by decide, by decide⟩, by unfold eventsSound; decide⟩
theorem wit_schedule_sound : (state scheduled).part.schedule.sound := by
  intro m
  cases m <;> exact ⟨fun n hn => by interval_cases n <;> decide, by decide, fun n => by
    rcases n with _ | _ | _ | _ | _ | _ | _ | _ | n <;> first | decide | exact fun h => nomatch h⟩
theorem wit_load_sound : (state scheduled).part.loadSound :=
  ⟨fun h => (nomatch h), fun h => (nomatch h), fun _ => rfl⟩

/-- Every corner with its A bank active, the schedule complete. -/
def loadedPart (p : Part) : Part :=
  { scheduled p with
    control := .standby
    corners := .fill { CornerPart.powerOn with banks := ⟨{ Bank.powerOn with state := .active }, .powerOn, some .a, false⟩ } }

theorem wit_loaded : (state loadedPart).part.loaded = true ∧ State.reset.part.loaded = false := by decide
theorem wit_standby_sound : (state loadedPart).part.loadSound :=
  ⟨fun _ => rfl, fun h => (nomatch h), fun h => by cases h <;> rename_i h <;> exact nomatch h⟩
theorem wit_duties_sound : (state fun p => regulating regFL (engagedPart p)).part.dutiesSound :=
  ⟨⟨wit_params_sound, fun c => by cases c <;> decide⟩, fun c => by
    cases c <;> exact fun _ => by decide⟩
theorem wit_drivers_sound : (state fun p => regulating regFL (engagedPart p)).part.driversSound := by
  intro c
  cases c <;> first | exact ⟨fun h => absurd h (by decide), fun h => absurd h (by decide)⟩ | exact ⟨fun _ => ⟨rfl, rfl, rfl, rfl, rfl⟩, fun _ => ⟨rfl, rfl⟩⟩
theorem wit_supervised : (state fun p => regulating regFL (engagedPart p)).part.supervised := by
  intro c; cases c <;> exact fun _ => rfl
theorem wit_motion_sound : (state scheduled).part.motionSound :=
  ⟨⟨by decide, fun c => by cases c <;> decide⟩, fun c => by cases c <;> exact ⟨by decide, by decide, by decide, by decide, by decide⟩, by decide⟩

end Sys2Proof.Tests
end

/-! # Corner samples and motion estimation (chapter 2)

The operations first (events, samples, trackers, updates, the write of HOLD_LIMIT), then the obligations of the chapter. -/

namespace Sys2Proof.Estimation

open Sys2Proof Sys2Proof.Machine Sys2Proof.Claims

/-! ## Clamps -/

/-- The model's clamp is the `max`-`min` clamp of the statements. -/
theorem clampInt_eq_max_min {lo hi : Int} (h : lo ≤ hi) (x : Int) : clampInt lo hi x = max lo (min hi x) := by
  unfold clampInt
  split
  · omega
  · split <;> omega

/-! ## Pending events (R178) -/

theorem exists_mem_raiseIn_self (e : Event) (first : Word) (b : Byte) (l : List Entry) :
    ∃ x ∈ raiseIn e first b l, x.event = e := by
  induction l with
  | nil => exact ⟨_, List.mem_singleton.mpr rfl, rfl⟩
  | cons y ys ih =>
    unfold raiseIn
    split
    · exact ⟨_, List.mem_cons_self, by assumption⟩
    · split
      · exact ⟨_, List.mem_cons_self, rfl⟩
      · obtain ⟨x, hx, he⟩ := ih
        exact ⟨x, List.mem_cons_of_mem _ hx, he⟩

theorem exists_mem_raiseIn_of_mem (e : Event) (first : Word) (b : Byte) {l : List Entry} {x : Entry} (hx : x ∈ l) :
    ∃ y ∈ raiseIn e first b l, y.event = x.event := by
  induction l with
  | nil => cases hx
  | cons z zs ih =>
    unfold raiseIn
    split
    · cases hx with
      | head => exact ⟨_, List.mem_cons_self, rfl⟩
      | tail _ h => exact ⟨x, List.mem_cons_of_mem _ h, rfl⟩
    · split
      · exact ⟨x, List.mem_cons_of_mem _ hx, rfl⟩
      · cases hx with
        | head => exact ⟨x, List.mem_cons_self, rfl⟩
        | tail _ h =>
          obtain ⟨y, hy, he⟩ := ih h
          exact ⟨y, List.mem_cons_of_mem _ hy, he⟩

/-- The event a block raises is pending. -/
theorem pendingEvent_raise_self (e : Event) (b : Byte) (p : Part) : pendingEvent (raise e b p) e :=
  exists_mem_raiseIn_self _ _ _ _

/-- Raising an event loses none that is pending. -/
theorem pendingEvent_raise {p : Part} {e : Event} (h : pendingEvent p e) (e' : Event) (b : Byte) :
    pendingEvent (raise e' b p) e := by
  obtain ⟨x, hx, rfl⟩ := h
  exact exists_mem_raiseIn_of_mem _ _ _ hx

/-! ## The loaded condition (R43, R113) -/

theorem complete_iff (x : Schedule) : x.complete = true ↔ ∀ m, ((x.get m).get 0).present = true := by
  simp only [Schedule.complete, Bool.and_eq_true]
  constructor
  · rintro ⟨⟨hc, hn⟩, hs⟩ m
    cases m <;> assumption
  · intro h
    exact ⟨⟨h .comfort, h .normal⟩, h .sport⟩

theorem inUse_isSome_iff (k : Banks) :
    k.inUse.isSome = true ↔ ∃ id, k.active = some id ∧ (k.get id).state = .active := by
  unfold Banks.inUse
  cases k.active with
  | none => simp
  | some id => by_cases h : (k.get id).state = .active <;> simp [h]

theorem loaded_iff (p : Part) :
    p.loaded = true ↔
      (∀ c : Corner, ∃ id, (p.corner c).banks.active = some id ∧ ((p.corner c).banks.get id).state = .active) ∧
      ∀ m, ((p.schedule.get m).get 0).present = true := by
  simp only [Part.loaded, Bool.and_eq_true, Quad.all_toList, complete_iff, inUse_isSome_iff]
  rfl

/-- Outside UNLOADED and STANDBY the loaded condition moves nothing. -/
theorem judgeLoaded_eq_self {p : Part} (hu : p.control ≠ .unloaded) (hs : p.control ≠ .standby) : judgeLoaded p = p := by
  unfold judgeLoaded
  split
  · contradiction
  · contradiction
  · rfl

theorem judgeLoaded_unloaded {p : Part} (h : p.control = .unloaded) :
    judgeLoaded p = if p.loaded then p.setControl .standby else p := by simp only [judgeLoaded, h]

theorem judgeLoaded_standby {p : Part} (h : p.control = .standby) :
    judgeLoaded p = if p.loaded then p else enterUnloaded p := by simp only [judgeLoaded, h]

theorem setControl_self {p : Part} {x : ControlState} (h : p.control = x) : p.setControl x = p := by
  subst h
  rfl

/-- Settles O28: the cases of `judgeLoaded`, with the loaded condition read corner by corner and mode by mode. -/
theorem controlFollowsLoaded : Obligations.ControlFollowsLoaded := by
  intro p
  refine ⟨loaded_iff p, judgeLoaded_eq_self, ?_, ?_, ?_⟩
  · rintro (hc | hc) hl
    · rw [judgeLoaded_unloaded hc, if_pos hl]
      rfl
    · rw [judgeLoaded_standby hc, if_pos hl]
      exact (setControl_self hc).symm
  · intro hc hl
    simp [judgeLoaded_unloaded hc, hl]
  · intro hc hl
    simp only [judgeLoaded_standby hc, hl, Bool.false_eq_true, if_false]
    rfl

/-! ## What the end of a computation leaves of the estimate

The supervisor's act and the demand end every computation (R39, R125). Neither changes what the estimator holds. -/

/-- Two corner parts hold the same estimate: motion record, stuck trackers, the two reasons of chapter 2 and its counters. -/
structure SameEstimate (k k' : CornerPart) : Prop where
  motion : k'.motion = k.motion
  stuck : k'.stuck = k.stuck
  stale : k'.reasons.stale = k.reasons.stale
  sensor : k'.reasons.sensor = k.reasons.sensor
  fresh : k'.counters.fresh = k.counters.fresh
  held : k'.counters.held = k.counters.held
  heightClamp : k'.counters.heightClamp = k.counters.heightClamp

/-- From one part to another the estimate of a corner is kept, the other corners stay, and no pending event is lost. -/
structure EstimateKept (c : Corner) (p q : Part) : Prop where
  same : SameEstimate (p.corner c) (q.corner c)
  others : ∀ d, d ≠ c → q.corner d = p.corner d
  events : ∀ e, pendingEvent p e → pendingEvent q e

namespace EstimateKept

variable {c : Corner} {p q r : Part}

theorem refl (c : Corner) (p : Part) : EstimateKept c p p where
  same := ⟨rfl, rfl, rfl, rfl, rfl, rfl, rfl⟩
  others _ _ := rfl
  events _ h := h

theorem trans (hpq : EstimateKept c p q) (hqr : EstimateKept c q r) : EstimateKept c p r where
  same :=
    { motion := hqr.same.motion.trans hpq.same.motion
      stuck := hqr.same.stuck.trans hpq.same.stuck
      stale := hqr.same.stale.trans hpq.same.stale
      sensor := hqr.same.sensor.trans hpq.same.sensor
      fresh := hqr.same.fresh.trans hpq.same.fresh
      held := hqr.same.held.trans hpq.same.held
      heightClamp := hqr.same.heightClamp.trans hpq.same.heightClamp }
  others d hd := (hqr.others d hd).trans (hpq.others d hd)
  events e he := hqr.events e (hpq.events e he)

/-- An update of the corner that keeps its estimate. -/
theorem andModCorner (h : EstimateKept c p q) {f : CornerPart → CornerPart} (hf : ∀ k, SameEstimate k (f k)) :
    EstimateKept c p (q.modCorner c f) :=
  h.trans
    { same := by
        rw [Part.corner_modCorner_self]
        exact hf _
      others := fun _ hd => Part.corner_modCorner_of_ne hd f q
      events := fun _ he => he }

theorem andRaise (h : EstimateKept c p q) (e : Event) (b : Byte) : EstimateKept c p (raise e b q) :=
  h.trans
    { same := by
        rw [raise_corner]
        exact (refl c q).same
      others := fun _ _ => raise_corner _ _ _ _
      events := fun _ he => pendingEvent_raise he _ _ }

end EstimateKept

theorem enterPassive_kept (c : Corner) (p : Part) : EstimateKept c p (enterPassive c p) := by
  unfold enterPassive
  exact ((EstimateKept.refl c p).andModCorner (fun _ => by constructor <;> rfl)).andRaise _ _

theorem returnToControl_kept (c : Corner) (p : Part) : EstimateKept c p (returnToControl c p) := by
  unfold returnToControl
  exact (EstimateKept.refl c p).andModCorner (fun _ => by constructor <;> rfl)

theorem supervise_kept (c : Corner) (p : Part) : EstimateKept c p (supervise c p) := by
  unfold supervise
  split
  case h_5 => exact .refl c p
  case h_4 =>
    split
    · exact returnToControl_kept c p
    · exact .refl c p
  all_goals
    split
    · exact .refl c p
    · exact enterPassive_kept c p

/-- In ENGAGED a parity failure of the bank in use unloads nothing, so that the estimate is kept (R70, R113). -/
theorem corruptActive_kept (c : Corner) (id : BankId) {p : Part} (hc : p.control = .engaged) :
    EstimateKept c p (corruptActive c id p) := by
  unfold corruptActive
  rw [judgeLoaded_eq_self (by simp [hc]) (by simp [hc])]
  exact (((EstimateKept.refl c p).andModCorner (fun _ => by constructor <;> rfl)).andRaise _ _).trans (supervise_kept c _)

theorem formTarget_kept (c : Corner) (demand : Nat) (apply : Bool) {p : Part} (hc : p.control = .engaged) :
    EstimateKept c p (formTarget c demand apply p) := by
  unfold formTarget
  dsimp only
  split
  · exact (EstimateKept.refl c p).andModCorner (fun _ => by constructor <;> rfl)
  · split
    · exact (EstimateKept.refl c p).andModCorner (fun _ => by constructor <;> rfl)
    · exact ((EstimateKept.refl c p).andModCorner (fun _ => by constructor <;> rfl)).trans (corruptActive_kept c _ hc)

theorem setSelection_kept (c : Corner) (x : Option Selection) (p : Part) : EstimateKept c p (p.setSelection x) where
  same := (EstimateKept.refl c p).same
  others _ _ := rfl
  events _ he := he

theorem formDemand_kept (c : Corner) (sky ground apply : Bool) {p : Part} (hc : p.control = .engaged) :
    EstimateKept c p (formDemand c sky ground apply p) := by
  unfold formDemand
  exact ((setSelection_kept c _ p).andModCorner (fun _ => by constructor <;> rfl)).trans (formTarget_kept c _ apply hc)

theorem demandStep_kept (c : Corner) (sky ground : Bool) (p : Part) : EstimateKept c p (demandStep c sky ground p) := by
  unfold demandStep
  split
  · exact formDemand_kept c sky ground true (by assumption)
  · exact formDemand_kept c sky ground false (by assumption)
  · exact (EstimateKept.refl c p).andModCorner (fun _ => by constructor <;> rfl)

/-! ## Entering PASSIVE, and staying there (R122) -/

/-- In ENGAGED a corner that regulates or waits for a retry enters PASSIVE when it has a reason. -/
theorem supervise_eq_enterPassive {c : Corner} {p : Part} (hc : p.control = .engaged)
    (hs : (p.corner c).state = .control ∨ (p.corner c).state = .suspended) (hr : (p.corner c).reasons.none = false) :
    supervise c p = enterPassive c p := by
  rcases hs with hs | hs <;> simp [supervise, hc, hs, hr]

theorem enterPassive_corner_state (c : Corner) (p : Part) : ((enterPassive c p).corner c).state = .passive false := by
  simp [enterPassive]

theorem pendingEvent_enterPassive (c : Corner) (p : Part) : pendingEvent (enterPassive c p) (.cornerPassive c) :=
  pendingEvent_raise_self _ _ _

/-- A PASSIVE corner that has a reason is left alone. -/
theorem supervise_eq_self_of_passive {c : Corner} {p : Part} (b : Bool) (hs : (p.corner c).state = .passive b)
    (hr : (p.corner c).reasons.none = false) : supervise c p = p := by
  unfold supervise
  split <;> simp_all

/-- A parity failure gives a PASSIVE corner one more reason, so that it stays PASSIVE (R70). -/
theorem corruptActive_state_of_passive {c : Corner} (id : BankId) {p : Part} {b : Bool}
    (hs : (p.corner c).state = .passive b) : ((corruptActive c id p).corner c).state = .passive b := by
  unfold corruptActive
  rw [judgeLoaded_corner_state, supervise_eq_self_of_passive b]
  · simpa [CornerPart.modBanks] using hs
  · simpa [CornerPart.modBanks] using hs
  · simp [Reasons.none, Reasons.put]

theorem formTarget_state_of_passive {c : Corner} (demand : Nat) (apply : Bool) {p : Part} {b : Bool}
    (hs : (p.corner c).state = .passive b) : ((formTarget c demand apply p).corner c).state = .passive b := by
  unfold formTarget
  dsimp only
  split
  · simpa using hs
  · split
    · simpa [CornerPart.takeTarget] using hs
    · exact corruptActive_state_of_passive _ (by simpa using hs)

/-- A PASSIVE corner stays PASSIVE through the end of its computation (R125). -/
theorem demandStep_state_of_passive {c : Corner} (sky ground : Bool) {p : Part} {b : Bool}
    (hs : (p.corner c).state = .passive b) : ((demandStep c sky ground p).corner c).state = .passive b := by
  unfold demandStep
  split
  · exact formTarget_state_of_passive _ _ (by simpa using hs)
  · exact formTarget_state_of_passive _ _ (by simpa using hs)
  · simpa using hs

/-! ## The held update (R32 to R34) -/

section HeldUpdate

variable (k : CornerPart) (params : Params) (dropB dropW : Bool)

/-- What a held update leaves as it is, whichever case of R32 it takes. -/
theorem heldUpdate_frame :
    (k.heldUpdate params dropB dropW).stuck = k.stuck ∧ (k.heldUpdate params dropB dropW).state = k.state ∧
      (k.heldUpdate params dropB dropW).reasons.sensor = k.reasons.sensor ∧
      (k.heldUpdate params dropB dropW).counters = { k.counters with held := inc k.counters.held } := by
  unfold CornerPart.heldUpdate
  dsimp only
  split
  · exact ⟨rfl, rfl, rfl, rfl⟩
  · split <;> exact ⟨rfl, rfl, rfl, rfl⟩

/-- A held update that finds STALE or crosses the hold limit leaves the record unprimed and the corner STALE. -/
theorem heldUpdate_stale (h : k.reasons.stale = true ∨ params.holdLimit < k.motion.held + 1) :
    (k.heldUpdate params dropB dropW).motion = .unprimed ∧ (k.heldUpdate params dropB dropW).reasons.stale = true := by
  unfold CornerPart.heldUpdate
  dsimp only
  split
  · exact ⟨rfl, by assumption⟩
  · rw [if_pos (h.resolve_left (by assumption))]
    exact ⟨rfl, rfl⟩

/-- Below the hold limit the record is held on. -/
theorem heldUpdate_heldOn (hs : k.reasons.stale = false) (hl : k.motion.held + 1 ≤ params.holdLimit) :
    (k.heldUpdate params dropB dropW).motion = k.motion.heldOn params dropB dropW ∧
      (k.heldUpdate params dropB dropW).reasons.stale = false := by
  simp [CornerPart.heldUpdate, hs, Nat.not_lt.mpr hl]

end HeldUpdate

/-- A corner computed without a sample, before the supervisor acts: it joins the corners computed, and takes its held update. -/
def heldPart (c : Corner) (p : Part) : Part :=
  (addComputed c false p).modCorner c (fun k => k.heldUpdate p.params false false)

theorem heldPart_corner (c : Corner) (p : Part) :
    (heldPart c p).corner c = (p.corner c).heldUpdate p.params false false := by simp [heldPart]

theorem heldPart_corner_of_ne {c d : Corner} (h : d ≠ c) (p : Part) : (heldPart c p).corner d = p.corner d := by
  simp [heldPart, Part.corner_modCorner_of_ne h]

theorem heldComputation_eq (c : Corner) (p : Part) :
    heldComputation c p = demandStep c (!(p.corner c).stuck.ab.stuck) (!(p.corner c).stuck.aw.stuck)
      (supervise c (heldPart c p)) := rfl

theorem heldComputation_kept (c : Corner) (p : Part) : EstimateKept c (heldPart c p) (heldComputation c p) :=
  (supervise_kept c _).trans (demandStep_kept c _ _ _)

theorem heldComputation_tracker (c : Corner) (p : Part) :
    (heldComputation c p).tracker = { p.tracker with record := { p.tracker.record with
      computed := p.tracker.record.computed.set c true } } := by
  simp [heldComputation, addComputed]

/-- In ENGAGED a held update that leaves STALE ends the regulation of its corner (R122). -/
theorem heldComputation_passive {c : Corner} {p : Part} (hc : p.control = .engaged)
    (hs : (p.corner c).state = .control ∨ (p.corner c).state = .suspended)
    (hl : p.params.holdLimit < (p.corner c).motion.held + 1) :
    ((heldComputation c p).corner c).state = .passive false ∧ pendingEvent (heldComputation c p) (.cornerPassive c) := by
  obtain ⟨-, hstate, -, -⟩ := heldUpdate_frame (p.corner c) p.params false false
  obtain ⟨-, hstale⟩ := heldUpdate_stale (p.corner c) p.params false false (.inr hl)
  have hsup : supervise c (heldPart c p) = enterPassive c (heldPart c p) :=
    supervise_eq_enterPassive hc (by rwa [heldPart_corner, hstate])
      (by rw [heldPart_corner]; simp [Reasons.none, hstale])
  rw [heldComputation_eq, hsup]
  exact ⟨demandStep_state_of_passive _ _ (enterPassive_corner_state c _),
    (demandStep_kept c _ _ _).events _ (pendingEvent_enterPassive c _)⟩

theorem exec_holdLimitCrossed (c : Corner) (s : State) :
    exec (.holdLimitCrossed c) s = .next ⟨onlyWhen (holdLimitDue c) (heldComputation c) s.part, s.pending⟩ := rfl

/-- Settles O12: the held update crosses the limit, and what follows in the computation keeps the estimate it leaves. -/
theorem holdLimitCrossed : Obligations.HoldLimitCrossed := by
  intro c s hcomp hopen hnew hstale hlimit
  have hdue : holdLimitDue c s.part = true := by simp [holdLimitDue, hcomp, hopen, hnew, hstale, hlimit]
  have hkept := heldComputation_kept c s.part
  have hsame := hkept.same
  rw [heldPart_corner] at hsame
  obtain ⟨hstuck, -, -, hcount⟩ := heldUpdate_frame (s.part.corner c) s.part.params false false
  obtain ⟨hmotion, hstale'⟩ := heldUpdate_stale (s.part.corner c) s.part.params false false (.inr hlimit)
  refine ⟨_, exec_holdLimitCrossed c s, rfl, ?_⟩
  rw [onlyWhen_pos hdue]
  refine ⟨heldComputation_tracker c s.part, hsame.motion.trans hmotion, hsame.stale.trans hstale', ?_,
    hsame.stuck.trans hstuck, fun hc hs => heldComputation_passive hc hs hlimit,
    fun d hd => (hkept.others d hd).trans (heldPart_corner_of_ne hd _), ?_⟩
  · rw [hsame.held, hcount]
    rfl
  · simp [cycleFrame]

/-! ## Stuck trackers (R35 to R38) -/

@[simp] theorem channels_get_set_self (x : Channels) (ch : Channel) (t : StuckTracker) : (x.set ch t).get ch = t := by
  cases ch <;> rfl

theorem channels_get_set_of_ne {ch other : Channel} (h : other ≠ ch) (x : Channels) (t : StuckTracker) :
    (x.set ch t).get other = x.get other := by
  cases ch <;> cases other <;> first | rfl | exact absurd rfl h

/-- A channel's first usable value is taken without a count (R35). -/
theorem feed_of_first {t : StuckTracker} (h : t.last = none) (v : Int) (n m : Nat) :
    t.feed v n m = ⟨some v, t.same, t.change, if t.stuck then decide (t.change < m) else decide (n ≤ t.same)⟩ := by
  simp [StuckTracker.feed, StuckTracker.counted, StuckTracker.tested, h]

/-- A value that repeats the last one prolongs the identical run (R35, R36). -/
theorem feed_of_repeat {t : StuckTracker} {v : Int} (h : t.last = some v) (n m : Nat) :
    t.feed v n m = ⟨some v, min 255 (t.same + 1), 0,
      if t.stuck then decide (0 < m) else decide (n ≤ min 255 (t.same + 1))⟩ := by
  simp [StuckTracker.feed, StuckTracker.counted, StuckTracker.tested, satAdd, h]

/-- A value that differs from the last one prolongs the change run (R35, R36). -/
theorem feed_of_change {t : StuckTracker} {v y : Int} (h : t.last = some y) (hy : y ≠ v) (n m : Nat) :
    t.feed v n m = ⟨some v, 0, min 64 (t.change + 1),
      if t.stuck then decide (min 64 (t.change + 1) < m) else decide (n ≤ 0)⟩ := by
  simp [StuckTracker.feed, StuckTracker.counted, StuckTracker.tested, satAdd, h, hy]

/-- The model's update of a tracker is the one the statements spell out. -/
theorem fed_usable (p : Part) (c : Corner) (ch : Channel) (invalid : Bool) (v : Int) :
    p.fed c ch (usable invalid v) = trackerAfter p.params ((p.corner c).stuck.get ch) invalid v := by
  cases invalid with
  | true => rfl
  | false =>
    change StuckTracker.feed _ v _ _ = _
    rcases h : ((p.corner c).stuck.get ch).last with _ | y
    · simp [feed_of_first h, trackerAfter, h]
    · by_cases hy : y = v
      · subst hy
        simp [feed_of_repeat h, trackerAfter, h]
      · simp [feed_of_change h hy, trackerAfter, h, hy]

theorem feedChannel_corner (c : Corner) (ch : Channel) (v : Option Int) (p : Part) :
    (feedChannel c ch v p).corner c = { p.corner c with stuck := (p.corner c).stuck.set ch (p.fed c ch v) } := by
  unfold feedChannel
  dsimp only
  split <;> simp

theorem feedChannel_corner_of_ne {c d : Corner} (h : d ≠ c) (ch : Channel) (v : Option Int) (p : Part) :
    (feedChannel c ch v p).corner d = p.corner d := by
  unfold feedChannel
  dsimp only
  split <;> simp [Part.corner_modCorner_of_ne h]

theorem pendingEvent_feedChannel {p : Part} {e : Event} (h : pendingEvent p e) (c : Corner) (ch : Channel)
    (v : Option Int) : pendingEvent (feedChannel c ch v p) e := by
  unfold feedChannel
  dsimp only
  split
  · exact pendingEvent_raise h _ _
  · exact h

/-- The value that makes a channel stuck raises SENSOR_STUCK (R36). -/
theorem pendingEvent_feedChannel_stuck {c : Corner} {ch : Channel} {v : Option Int} {p : Part}
    (h0 : ((p.corner c).stuck.get ch).stuck = false) (h1 : (p.fed c ch v).stuck = true) :
    pendingEvent (feedChannel c ch v p) (.sensorStuck c) := by
  simp only [feedChannel, h0, h1, Bool.not_false, Bool.and_self, if_true]
  exact pendingEvent_raise_self _ _ _

/-- Feeding a channel touches the corners and the events only. -/
theorem feedChannel_eq (c : Corner) (ch : Channel) (v : Option Int) (p : Part) :
    feedChannel c ch v p =
      { p with corners := (feedChannel c ch v p).corners, events := (feedChannel c ch v p).events } := by
  unfold feedChannel
  dsimp only
  split <;> rfl

/-- The supervisor touches the corners and the events only. -/
theorem supervise_eq (c : Corner) (p : Part) :
    supervise c p = { p with corners := (supervise c p).corners, events := (supervise c p).events } := by
  unfold supervise
  split <;> first | rfl | (split <;> rfl)


section FeedAndSettle

variable (c : Corner) (ch : Channel) (v : Int) (p : Part)

theorem feedAndSettle_h :
    feedAndSettle c .h v p =
      putReason .sensor ((feedChannel c .h (some v) p).corner c).stuck.h.stuck c (feedChannel c .h (some v) p) := rfl

theorem feedAndSettle_of_ne_h (h : ch ≠ .h) : feedAndSettle c ch v p = feedChannel c ch (some v) p := if_neg h

theorem feedAndSettle_stuck : ((feedAndSettle c ch v p).corner c).stuck = (p.corner c).stuck.set ch (p.fed c ch (some v)) := by
  by_cases h : ch = .h
  · subst h
    rw [feedAndSettle_h, putReason_corner_stuck, feedChannel_corner]
  · rw [feedAndSettle_of_ne_h c ch v p h, feedChannel_corner]

theorem feedAndSettle_motion : ((feedAndSettle c ch v p).corner c).motion = (p.corner c).motion := by
  by_cases h : ch = .h
  · subst h
    rw [feedAndSettle_h, putReason_corner_motion, feedChannel_corner]
  · rw [feedAndSettle_of_ne_h c ch v p h, feedChannel_corner]

theorem feedAndSettle_corner_of_ne {d : Corner} (hd : d ≠ c) : (feedAndSettle c ch v p).corner d = p.corner d := by
  by_cases h : ch = .h
  · subst h
    rw [feedAndSettle_h, putReason_corner_of_ne _ _ c hd, feedChannel_corner_of_ne hd]
  · rw [feedAndSettle_of_ne_h c ch v p h, feedChannel_corner_of_ne hd]

/-- SENSOR follows the flag of h (R38). -/
theorem feedAndSettle_h_sensor :
    ((feedAndSettle c .h v p).corner c).reasons.sensor = (p.fed c .h (some v)).stuck := by
  rw [feedAndSettle_h, putReason, supervise_corner_reasons, Part.corner_modCorner_self, feedChannel_corner]
  rfl

/-- One channel's part of a sample touches the corners and the events only. -/
theorem feedAndSettle_eq : feedAndSettle c ch v p =
    { p with corners := (feedAndSettle c ch v p).corners, events := (feedAndSettle c ch v p).events } := by
  have hfeed := feedChannel_eq c ch (some v) p
  by_cases h : ch = .h
  · subst h
    rw [feedAndSettle_h, putReason, supervise_eq, hfeed]
    rfl
  · rw [feedAndSettle_of_ne_h c ch v p h]
    exact hfeed

theorem pendingEvent_feedAndSettle {e : Event} (h : pendingEvent (feedChannel c ch (some v) p) e) :
    pendingEvent (feedAndSettle c ch v p) e := by
  by_cases hh : ch = .h
  · subst hh
    exact (supervise_kept c _).events e h
  · rwa [feedAndSettle_of_ne_h c ch v p hh]

end FeedAndSettle

theorem exec_channelStuck (c : Corner) (ch : Channel) (v : Int) (s : State) :
    exec (.channelStuck c ch v) s = .next ⟨onlyWhen (stuckDue c ch v) (feedAndSettle c ch v) s.part, s.pending⟩ := rfl

theorem exec_channelRelease (c : Corner) (ch : Channel) (v : Int) (s : State) :
    exec (.channelRelease c ch v) s = .next ⟨onlyWhen (releaseDue c ch v) (feedAndSettle c ch v) s.part, s.pending⟩ := rfl

/-- Settles O13: both rows are the feeding of one channel, whose tracker the value makes stuck or releases. -/
theorem stuckAndRelease : Obligations.StuckAndRelease := by
  intro c ch v s hcomp
  have hother : ∀ other, other ≠ ch → ((feedAndSettle c ch v s.part).corner c).stuck.get other =
      (s.part.corner c).stuck.get other := fun other ho => by
    rw [feedAndSettle_stuck, channels_get_set_of_ne ho]
  constructor
  · intro hfree hlast hcount
    have hfed : s.part.fed c ch (some v) = ⟨some v, min 255 (((s.part.corner c).stuck.get ch).same + 1), 0, true⟩ := by
      change StuckTracker.feed _ v _ _ = _
      rw [feed_of_repeat hlast]
      simp only [hfree, hcount, decide_true, Bool.false_eq_true, if_false]
    have hdue : stuckDue c ch v s.part = true := by simp [stuckDue, hcomp, hfree, hfed]
    refine ⟨_, exec_channelStuck c ch v s, rfl, ?_⟩
    rw [onlyWhen_pos hdue]
    refine ⟨?_, hother, ?_, ?_, feedAndSettle_motion c ch v _, fun d hd => feedAndSettle_corner_of_ne c ch v _ hd,
      feedAndSettle_eq c ch v _⟩
    · rw [feedAndSettle_stuck, channels_get_set_self, hfed]
    · exact pendingEvent_feedAndSettle c ch v _ (pendingEvent_feedChannel_stuck hfree (by rw [hfed]))
    · rintro rfl
      rw [feedAndSettle_h_sensor, hfed]
  · intro y hstuck hlast hy hcount
    have hfed : s.part.fed c ch (some v) = ⟨some v, 0, min 64 (((s.part.corner c).stuck.get ch).change + 1), false⟩ := by
      change StuckTracker.feed _ v _ _ = _
      rw [feed_of_change hlast hy]
      simp only [hstuck, Nat.not_lt.mpr hcount, decide_false, if_true]
    have hdue : releaseDue c ch v s.part = true := by simp [releaseDue, hcomp, hstuck, hfed]
    refine ⟨_, exec_channelRelease c ch v s, rfl, ?_⟩
    rw [onlyWhen_pos hdue]
    refine ⟨?_, hother, ?_, feedAndSettle_motion c ch v _, fun d hd => feedAndSettle_corner_of_ne c ch v _ hd,
      feedAndSettle_eq c ch v _⟩
    · rw [feedAndSettle_stuck, channels_get_set_self, hfed]
    · rintro rfl
      rw [feedAndSettle_h_sensor, hfed]

/-! ## The arrival of a SAMPLE (R21 to R25) -/

/-- A SAMPLE of a corner's node: its good frame, its corner's estimator, and the chassis-bound queue (R21, R151). -/
theorem exec_sampleArrival (c : Corner) (dst : Byte) (payload : List Byte) (s : State) :
    exec (.sampleArrival dst (nodeOf c) payload) s =
      .next ⟨afterSample c dst payload (offerSample c payload) s.part, s.pending⟩ := by
  cases c <;> rfl

section Classes

variable {c : Corner} {payload : List Byte} {x : Sample}

/-- A SAMPLE of another length or corner counts BAD_SAMPLE (R21). -/
theorem offerSample_of_unusable (h : ∀ x, ¬ usableSample c payload x) :
    offerSample c payload = counted c (fun k => { k with badSample := inc k.badSample }) := by
  funext p
  unfold offerSample
  dsimp only
  split
  · rfl
  · split
    · rfl
    · exact absurd ⟨by assumption, not_not.mp (by assumption)⟩ (h _)

/-- Where no corner is computed a usable SAMPLE does nothing (R22). -/
theorem offerSample_of_not_computes (h : usableSample c payload x) {p : Part} (hc : p.control.computes = false) :
    offerSample c payload p = p := by
  obtain ⟨hdec, hcorner⟩ := h
  simp [offerSample, hdec, hcorner, hc]

/-- Where corners are computed a usable SAMPLE is taken by its class (R23). -/
theorem offerSample_of_computes (h : usableSample c payload x) (p : Part) (hc : p.control.computes = true) :
    offerSample c payload p = takeSample c x p := by
  obtain ⟨hdec, hcorner⟩ := h
  simp [offerSample, hdec, hcorner, hc]

variable {t : Tracker} {tag : Byte}

theorem classify_unsynced (h : t.state = .unlocked) : classify t c tag = .unsynced := if_pos h

/-- The class of a sample with the tag of the current cycle (R23). -/
theorem classify_current (h : t.state ≠ .unlocked) (htag : tag = t.record.number.extractLsb' 0 8) :
    classify t c tag = if t.record.closed then .late else if t.record.fresh.get c then .duplicate else .fresh := by
  rw [classify, if_neg h, if_pos htag]

/-- The class of a sample with another tag (R23). -/
theorem classify_other (h : t.state ≠ .unlocked) (htag : tag ≠ t.record.number.extractLsb' 0 8) :
    classify t c tag = if t.previous.map (·.extractLsb' 0 8) = some tag then .late else .staleTag := by
  rw [classify, if_neg h, if_neg htag]

end Classes

/-- An effect that agrees with the estimator's on the part after the good frame is the SAMPLE's effect. -/
theorem answers_sampleArrival {c : Corner} {dst : Byte} {payload : List Byte} {s : State} {effect : Part → Part}
    (h : offerSample c payload (afterGood .w s.part) = effect (afterGood .w s.part)) :
    answers (.sampleArrival dst (nodeOf c) payload) s (afterSample c dst payload effect s.part) := by
  rw [answers, exec_sampleArrival, afterSample, h]
  rfl

/-- A usable sample taken where corners are computed has the effect of its class. -/
theorem answers_sampleArrival_of_class {c : Corner} {dst : Byte} {payload : List Byte} {x : Sample} {s : State}
    {effect : Part → Part} (hx : usableSample c payload x) (hc : s.part.control.computes = true)
    (h : takeSample c x (afterGood .w s.part) = effect (afterGood .w s.part)) :
    answers (.sampleArrival dst (nodeOf c) payload) s (afterSample c dst payload effect s.part) :=
  answers_sampleArrival ((offerSample_of_computes hx (afterGood .w s.part) hc).trans h)

/-- Settles O11: the checks of R21 and R22 and the tests of R23 in their order, each with the effect of its class. -/
theorem otherSampleClasses : Obligations.OtherSampleClasses := by
  intro c dst payload s
  refine ⟨fun h => answers_sampleArrival (by rw [offerSample_of_unusable h]; rfl), fun x hx => ⟨fun hc => ?_, fun hc => ?_⟩⟩
  · have hidle : s.part.control.computes = false := by rcases hc with hc | hc <;> rw [hc] <;> rfl
    exact answers_sampleArrival (offerSample_of_not_computes hx hidle)
  · have hcomp : s.part.control.computes = true := by rcases hc with hc | hc | hc <;> rw [hc] <;> rfl
    have htracker : (afterGood .w s.part).tracker = s.part.tracker := rfl
    refine ⟨fun hu => ?_, fun hu htag hclosed => ?_, fun hu htag hopen hfresh => ?_, fun hu htag hprev => ?_,
      fun hu htag hprev => ?_⟩
    all_goals
      refine answers_sampleArrival_of_class hx hcomp ?_
      rw [takeSample, htracker]
    · rw [classify_unsynced hu]
      rfl
    · rw [classify_current hu htag, if_pos hclosed]
      rfl
    · rw [classify_current hu htag, hopen, if_neg Bool.false_ne_true, if_pos hfresh]
      rfl
    · obtain ⟨n, hn, hlow⟩ := hprev
      rw [classify_other hu htag, if_pos (by rw [hn, Option.map_some, hlow])]
      rfl
    · have hmiss : ¬ s.part.tracker.previous.map (·.extractLsb' 0 8) = some x.tag := fun h => by
        obtain ⟨n, hn, hlow⟩ := Option.map_eq_some_iff.mp h
        exact hprev n hn hlow
      rw [classify_other hu htag, if_neg hmiss]
      rfl

/-! ## The fresh update (R24, R28 to R31) -/

/-- The model's motion record after a usable height is the one the statements spell out (R29 to R31). -/
theorem motion_fresh_eq (m : Motion) (params : Params) (h ab aw : Int) (dropB dropW : Bool) :
    m.fresh params h ab aw dropB dropW = {
      primed := true
      hPrev := h
      held := 0
      vf :=
        let raw := max (-8000) (min 8000 (divRound (2 * (h - m.hPrev)) (m.held + 1)))
        if m.primed then max (-8000) (min 8000 (m.vf + divRound (raw - m.vf) (2 ^ params.velShift))) else m.vf
      vb := integrated dropB m.vb params.bodyLeak ab
      vw := integrated dropW m.vw params.wheelLeak aw } := by
  simp only [Motion.fresh, filtered, rawVelocity, integrate, integrated,
    clampInt_eq_max_min (show (-8000 : Int) ≤ 8000 by decide),
    clampInt_eq_max_min (show (-2000000 : Int) ≤ 2000000 by decide)]

/-- The trackers of a corner after a sample. -/
def channelsAfter (params : Params) (x : Sample) (y : Channels) : Channels :=
  ⟨trackerAfter params y.ab x.abInvalid x.ab, trackerAfter params y.aw x.awInvalid x.aw,
    trackerAfter params y.h x.hInvalid x.h⟩

/-- A corner that has a fresh sample, before its update: FRESH is counted and its trackers stand as the sample leaves them. -/
def sampledCorner (y : Channels) (k : CornerPart) : CornerPart :=
  { k with stuck := y, counters := { k.counters with fresh := inc k.counters.fresh } }

/-- The held or fresh update of a fresh computation, by the mark on the height (R24). -/
def sampleUpdate (params : Params) (x : Sample) (dropB dropW : Bool) (k : CornerPart) : CornerPart :=
  if x.hInvalid then k.heldUpdate params dropB dropW else k.freshUpdate params x.h x.ab x.aw dropB dropW

/-- A corner after its part of a fresh computation, before the supervisor acts; `y` are its trackers then (R24, R38). -/
def updatedCorner (params : Params) (x : Sample) (y : Channels) (k : CornerPart) : CornerPart :=
  let u := sampleUpdate params x (drops k.stuck.ab.stuck y.ab.stuck x.abInvalid)
    (drops k.stuck.aw.stuck y.aw.stuck x.awInvalid) (sampledCorner y k)
  { u with reasons := u.reasons.put .sensor (sensorAfter k.stuck.h.stuck y.h.stuck u.reasons.sensor) }

section SampleUpdate

variable (params : Params) (x : Sample) (dropB dropW : Bool) (k : CornerPart)

/-- What the update of a fresh computation leaves as it is. -/
theorem sampleUpdate_frame :
    (sampleUpdate params x dropB dropW k).stuck = k.stuck ∧
      (sampleUpdate params x dropB dropW k).reasons.sensor = k.reasons.sensor ∧
      (sampleUpdate params x dropB dropW k).counters.fresh = k.counters.fresh := by
  unfold sampleUpdate
  split
  · obtain ⟨hstuck, -, hsensor, hcount⟩ := heldUpdate_frame k params dropB dropW
    exact ⟨hstuck, hsensor, by rw [hcount]⟩
  · unfold CornerPart.freshUpdate
    refine ⟨rfl, ?_, ?_⟩ <;> dsimp only <;> split <;> rfl

/-- Only a held update counts HELD (R32). -/
theorem sampleUpdate_held :
    (sampleUpdate params x dropB dropW k).counters.held = if x.hInvalid then inc k.counters.held else k.counters.held := by
  unfold sampleUpdate
  split
  · obtain ⟨-, -, -, hcount⟩ := heldUpdate_frame k params dropB dropW
    rw [hcount]
  · unfold CornerPart.freshUpdate
    dsimp only
    split <;> rfl

/-- HEIGHT_CLAMP counts a usable height that the clamp changes (R28). -/
theorem sampleUpdate_heightClamp :
    (sampleUpdate params x dropB dropW k).counters.heightClamp =
      if x.hInvalid = false ∧ clampHeight x.h ≠ x.h then inc k.counters.heightClamp else k.counters.heightClamp := by
  unfold sampleUpdate
  split
  · obtain ⟨-, -, -, hcount⟩ := heldUpdate_frame k params dropB dropW
    rw [hcount, if_neg (by simp_all)]
  · unfold CornerPart.freshUpdate
    dsimp only
    split <;> simp_all

theorem sampleUpdate_of_usable (h : x.hInvalid = false) :
    sampleUpdate params x dropB dropW k = k.freshUpdate params x.h x.ab x.aw dropB dropW := by simp [sampleUpdate, h]

theorem sampleUpdate_of_invalid (h : x.hInvalid = true) :
    sampleUpdate params x dropB dropW k = k.heldUpdate params dropB dropW := by simp [sampleUpdate, h]

/-- A primed record with a usable height clears STALE (R34). -/
theorem freshUpdate_stale (h ab aw : Int) : (k.freshUpdate params h ab aw dropB dropW).reasons.stale =
    if k.motion.primed then false else k.reasons.stale := by
  unfold CornerPart.freshUpdate
  dsimp only
  split <;> rfl

end SampleUpdate

/-! ## The fresh computation (R24) -/

/-- The three channels of a sample reach their trackers in their order (R24, R35). -/
def feedChannels (c : Corner) (x : Sample) (p : Part) : Part :=
  feedChannel c .h (usable x.hInvalid x.h) (feedChannel c .aw (usable x.awInvalid x.aw)
    (feedChannel c .ab (usable x.abInvalid x.ab) p))

/-- A corner computed from a sample, before the supervisor acts. -/
def sampledPart (c : Corner) (x : Sample) (p : Part) : Part :=
  let before := (p.corner c).stuck
  let q := feedChannels c x (addComputed c true (countCorner c (fun k => { k with fresh := inc k.fresh }) p))
  let after := (q.corner c).stuck
  q.modCorner c (fun k =>
    let u := sampleUpdate q.params x (drops before.ab.stuck after.ab.stuck x.abInvalid)
      (drops before.aw.stuck after.aw.stuck x.awInvalid) k
    { u with reasons := u.reasons.put .sensor (sensorAfter before.h.stuck after.h.stuck u.reasons.sensor) })

section FreshComputation

variable (c : Corner) (x : Sample) (p : Part)

theorem feedChannels_params : (feedChannels c x p).params = p.params := by simp [feedChannels]

theorem feedChannels_corner : (feedChannels c x p).corner c =
    { p.corner c with stuck := channelsAfter p.params x (p.corner c).stuck } := by
  simp only [feedChannels, feedChannel_corner, fed_usable, feedChannel_params, channelsAfter]
  rfl

theorem feedChannels_corner_of_ne {d : Corner} (hd : d ≠ c) : (feedChannels c x p).corner d = p.corner d := by
  simp only [feedChannels, feedChannel_corner_of_ne hd]

/-- A sample that makes one of the channels stuck raises SENSOR_STUCK (R36). -/
theorem pendingEvent_feedChannels (y : Channels) (hy : y = channelsAfter p.params x (p.corner c).stuck)
    (h : (p.corner c).stuck.ab.stuck = false ∧ y.ab.stuck = true ∨ (p.corner c).stuck.aw.stuck = false ∧ y.aw.stuck = true ∨
      (p.corner c).stuck.h.stuck = false ∧ y.h.stuck = true) :
    pendingEvent (feedChannels c x p) (.sensorStuck c) := by
  subst hy
  rcases h with ⟨h0, h1⟩ | ⟨h0, h1⟩ | ⟨h0, h1⟩
  · refine pendingEvent_feedChannel (pendingEvent_feedChannel (pendingEvent_feedChannel_stuck ?_ ?_) _ _ _) _ _ _
    · exact h0
    · rw [fed_usable]
      exact h1
  · refine pendingEvent_feedChannel (pendingEvent_feedChannel_stuck ?_ ?_) _ _ _
    · rwa [feedChannel_corner]
    · rw [fed_usable, feedChannel_corner, feedChannel_params]
      exact h1
  · refine pendingEvent_feedChannel_stuck ?_ ?_
    · rwa [feedChannel_corner, feedChannel_corner]
    · rw [fed_usable, feedChannel_corner, feedChannel_corner, feedChannel_params, feedChannel_params]
      exact h1

theorem sampledPart_corner : (sampledPart c x p).corner c =
    updatedCorner p.params x (channelsAfter p.params x (p.corner c).stuck) (p.corner c) := by
  rw [sampledPart, Part.corner_modCorner_self, feedChannels_corner]
  simp [feedChannels_params, countCorner, updatedCorner, sampledCorner]

theorem sampledPart_corner_of_ne {d : Corner} (hd : d ≠ c) : (sampledPart c x p).corner d = p.corner d := by
  simp [sampledPart, Part.corner_modCorner_of_ne hd, feedChannels_corner_of_ne c x _ hd, countCorner_corner_of_ne c _ hd]

/-- A fresh computation ends with the supervisor's act and the demand (R39, R125). -/
theorem freshComputation_eq : ∃ sky ground,
    freshComputation c x p = demandStep c sky ground (supervise c (sampledPart c x p)) :=
  ⟨_, _, rfl⟩

theorem freshComputation_kept : EstimateKept c (sampledPart c x p) (freshComputation c x p) := by
  obtain ⟨sky, ground, heq⟩ := freshComputation_eq c x p
  rw [heq]
  exact (supervise_kept c _).trans (demandStep_kept c _ _ _)

theorem freshComputation_tracker : (freshComputation c x p).tracker =
    { p.tracker with record := { p.tracker.record with
      computed := p.tracker.record.computed.set c true, fresh := p.tracker.record.fresh.set c true } } := by
  simp [freshComputation, addComputed]

end FreshComputation

section UpdatedCorner

variable (params : Params) (x : Sample) (y : Channels) (k : CornerPart)

theorem updatedCorner_stuck : (updatedCorner params x y k).stuck = y :=
  (sampleUpdate_frame params x _ _ (sampledCorner y k)).1

theorem updatedCorner_sensor : (updatedCorner params x y k).reasons.sensor =
    if k.stuck.h.stuck = y.h.stuck then k.reasons.sensor else y.h.stuck := by
  obtain ⟨-, hsensor, -⟩ := sampleUpdate_frame params x (drops k.stuck.ab.stuck y.ab.stuck x.abInvalid)
    (drops k.stuck.aw.stuck y.aw.stuck x.awInvalid) (sampledCorner y k)
  change sensorAfter _ _ _ = _
  rw [hsensor]
  rfl

theorem updatedCorner_fresh : (updatedCorner params x y k).counters.fresh = min 4294967295 (k.counters.fresh + 1) := by
  obtain ⟨-, -, hfresh⟩ := sampleUpdate_frame params x (drops k.stuck.ab.stuck y.ab.stuck x.abInvalid)
    (drops k.stuck.aw.stuck y.aw.stuck x.awInvalid) (sampledCorner y k)
  exact hfresh

theorem updatedCorner_held : (updatedCorner params x y k).counters.held =
    if x.hInvalid then min 4294967295 (k.counters.held + 1) else k.counters.held :=
  sampleUpdate_held params x _ _ (sampledCorner y k)

theorem updatedCorner_heightClamp : (updatedCorner params x y k).counters.heightClamp =
    if x.hInvalid = false ∧ clampHeight x.h ≠ x.h then min 4294967295 (k.counters.heightClamp + 1)
    else k.counters.heightClamp :=
  sampleUpdate_heightClamp params x _ _ (sampledCorner y k)

/-- With a usable height the record is that of R29 to R31, and STALE is cleared where it was primed. -/
theorem updatedCorner_of_usable (h : x.hInvalid = false) :
    (updatedCorner params x y k).motion = k.motion.fresh params (clampHeight x.h) x.ab x.aw
        (drops k.stuck.ab.stuck y.ab.stuck x.abInvalid) (drops k.stuck.aw.stuck y.aw.stuck x.awInvalid) ∧
      (updatedCorner params x y k).reasons.stale = if k.motion.primed then false else k.reasons.stale := by
  unfold updatedCorner
  rw [sampleUpdate_of_usable params x _ _ _ h]
  exact ⟨rfl, freshUpdate_stale params _ _ (sampledCorner y k) _ _ _⟩

/-- With an invalid height the corner that is STALE or crosses the hold limit is unprimed and STALE (R32). -/
theorem updatedCorner_of_invalid_stale (h : x.hInvalid = true)
    (hs : k.reasons.stale = true ∨ params.holdLimit < k.motion.held + 1) :
    (updatedCorner params x y k).motion = .unprimed ∧ (updatedCorner params x y k).reasons.stale = true := by
  unfold updatedCorner
  rw [sampleUpdate_of_invalid params x _ _ _ h]
  exact heldUpdate_stale (sampledCorner y k) params _ _ hs

/-- With an invalid height below the hold limit the record is held on (R32). -/
theorem updatedCorner_of_invalid_heldOn (h : x.hInvalid = true) (hs : k.reasons.stale = false)
    (hl : k.motion.held + 1 ≤ params.holdLimit) :
    (updatedCorner params x y k).motion = k.motion.heldOn params (drops k.stuck.ab.stuck y.ab.stuck x.abInvalid)
        (drops k.stuck.aw.stuck y.aw.stuck x.awInvalid) ∧
      (updatedCorner params x y k).reasons.stale = false := by
  unfold updatedCorner
  rw [sampleUpdate_of_invalid params x _ _ _ h]
  exact heldUpdate_heldOn (sampledCorner y k) params _ _ hs hl

end UpdatedCorner

theorem takeSample_of_fresh (c : Corner) (x : Sample) (p : Part) (hu : p.tracker.state ≠ .unlocked)
    (hopen : p.tracker.record.closed = false) (hnew : p.tracker.record.fresh.get c = false) (htag : x.tag = currentTag p) :
    takeSample c x p = freshComputation c x p := by
  rw [takeSample, classify_current hu htag, hopen, hnew]
  rfl

@[simp] theorem placeChassisBound_wheelBound (f : Frame) (p : Part) :
    (placeChassisBound f p).link.wheelBound = p.link.wheelBound := by
  unfold placeChassisBound arbitrateS
  split
  · split
    · rfl
    · split <;> rfl
  · rfl

/-- Settles O10: the fresh computation updates the corner as `updatedCorner` says, and what follows keeps its estimate. -/
theorem freshSample : Obligations.FreshSample := by
  rintro c dst payload x k y dropB dropW h s hx hcomp hu hopen hnew htag rfl hh hy rfl rfl
  have htaken := takeSample_of_fresh c x (goodFrame .w s.part) hu hopen hnew htag
  have hoffer := (offerSample_of_computes hx (goodFrame .w s.part) hcomp).trans htaken
  have hclamp : clampHeight x.h = h := by rw [hh, clampHeight, clampInt_eq_max_min (by decide)]
  have hy' : y = channelsAfter s.part.params x (s.part.corner c).stuck := hy
  have hkept := freshComputation_kept c x (goodFrame .w s.part)
  have hsame := hkept.same
  rw [sampledPart_corner, goodFrame_corner, goodFrame_params, ← hy'] at hsame
  refine ⟨_, exec_sampleArrival c dst payload s, rfl, ?_⟩
  simp only [afterSample, show afterGood .w s.part = goodFrame .w s.part from rfl, hoffer, placeChassisBound_tracker,
    placeChassisBound_corner, placeChassisBound_context, placeChassisBound_wheelBound, pendingEvent,
    placeChassisBound_events]
  refine ⟨freshComputation_tracker c x _, hsame.stuck.trans (updatedCorner_stuck ..), fun hstuck => ?_,
    hsame.sensor.trans (updatedCorner_sensor ..), hsame.fresh.trans (updatedCorner_fresh ..),
    hsame.held.trans (updatedCorner_held ..), ?_, fun hi => ?_, fun hi => ⟨fun hs => ?_, fun hs hl => ?_⟩,
    fun d hd => ?_, ?_, ?_, ?_⟩
  · refine hkept.events _ (pendingEvent_feedChannels c x _ y ?_ ?_)
    · simpa using hy'
    · simpa using hstuck
  · rw [← hclamp]
    exact hsame.heightClamp.trans (updatedCorner_heightClamp ..)
  · obtain ⟨hmotion, hstale⟩ := updatedCorner_of_usable s.part.params x y (s.part.corner c) hi
    refine ⟨hsame.motion.trans ?_, hsame.stale.trans hstale⟩
    rw [hmotion, motion_fresh_eq, hclamp]
  · obtain ⟨hmotion, hstale⟩ := updatedCorner_of_invalid_stale s.part.params x y (s.part.corner c) hi hs
    exact ⟨hsame.motion.trans hmotion, hsame.stale.trans hstale⟩
  · obtain ⟨hmotion, hstale⟩ := updatedCorner_of_invalid_heldOn s.part.params x y (s.part.corner c) hi hs hl
    exact ⟨hsame.motion.trans hmotion, hsame.stale.trans hstale⟩
  · rw [hkept.others d hd, sampledPart_corner_of_ne c x _ hd, goodFrame_corner]
  · rw [freshComputation_context, goodFrame_context]
  · rw [freshComputation_link, goodFrame_link]
  · simp [cycleFrame]

/-! ## Writes that act at once (R34, R87, R171) -/

/-- Operations of the four corners that each leave the other corners: a corner ends as its own operation takes it from a part
at which it still stands as it stood, and at which every property the operations keep holds. -/
theorem forCorners_corner_of_keeps {f : Corner → Part → Part} {P : Part → Prop} (keeps : ∀ d q, P q → P (f d q))
    (others : ∀ d c q, c ≠ d → (f d q).corner c = q.corner c) (p : Part) (hp : P p) (c : Corner) :
    ∃ q, P q ∧ q.corner c = p.corner c ∧ (forCorners f p).corner c = (f c q).corner c := by
  unfold forCorners
  cases c with
  | fl =>
    refine ⟨p, hp, rfl, ?_⟩
    rw [others _ _ _ (by decide), others _ _ _ (by decide), others _ _ _ (by decide)]
  | fr =>
    refine ⟨f .fl p, keeps _ _ hp, others _ _ _ (by decide), ?_⟩
    rw [others _ _ _ (by decide), others _ _ _ (by decide)]
  | rl =>
    refine ⟨f .fr (f .fl p), keeps _ _ (keeps _ _ hp), ?_, others _ _ _ (by decide)⟩
    rw [others _ _ _ (by decide), others _ _ _ (by decide)]
  | rr =>
    refine ⟨f .rl (f .fr (f .fl p)), keeps _ _ (keeps _ _ (keeps _ _ hp)), ?_, rfl⟩
    rw [others _ _ _ (by decide), others _ _ _ (by decide), others _ _ _ (by decide)]

/-- The duty bounds act on a corner's regulator (R87). -/
def reboundCorner (p : Part) (k : CornerPart) : CornerPart := { k with reg := k.reg.rebound p.params }

def reboundAt (c : Corner) (p : Part) : Part := p.modCorner c (reboundCorner p)

theorem reboundAt_corner_self (c : Corner) (p : Part) : (reboundAt c p).corner c = reboundCorner p (p.corner c) :=
  Part.corner_modCorner_self _ _ _

theorem reboundAt_corner_of_ne (c d : Corner) (p : Part) (h : d ≠ c) : (reboundAt c p).corner d = p.corner d :=
  Part.corner_modCorner_of_ne h _ _

theorem reboundCorner_reboundAt (c : Corner) (p : Part) (k : CornerPart) :
    reboundCorner (reboundAt c p) k = reboundCorner p k := rfl

/-- The duty bounds act on every regulator (R87, R171). -/
def reboundAll (p : Part) : Part := forCorners reboundAt p

theorem reboundAll_eq (p : Part) : reboundAll p = { p with corners := (reboundAll p).corners } := rfl

theorem reboundAll_corner (c : Corner) (p : Part) : (reboundAll p).corner c = reboundCorner p (p.corner c) :=
  forCorners_corner reboundAt_corner_self reboundAt_corner_of_ne reboundCorner_reboundAt c p

theorem rebound_of_disabled {r : Regulator} (h : r.enabled = false) (params : Params) : r.rebound params = r := by
  simp [Regulator.rebound, h]

theorem rebound_of_enabled {r : Regulator} (h : r.enabled = true) (params : Params) :
    r.rebound params = { r with u := params.boundU r.u, duty := (params.boundU r.u / 65536).toNat } := by
  simp [Regulator.rebound, h, dutyOf]

theorem boundU_eq (params : Params) (u : Int) :
    params.boundU u = clampInt (65536 * params.dutyMin) (65536 * params.dutyMax) u := by
  rw [Params.boundU, Int.mul_comm, Int.mul_comm (params.dutyMax : Int)]

/-- A new HOLD_LIMIT touches the corners and the events only. -/
theorem holdWritten_eq (c : Corner) (p : Part) :
    holdWritten c p = { p with corners := (holdWritten c p).corners, events := (holdWritten c p).events } := by
  unfold holdWritten
  split
  · rw [putReason, supervise_eq]
    rfl
  · rfl

theorem holdWritten_corner_of_ne (d c : Corner) (p : Part) (h : c ≠ d) : (holdWritten d p).corner c = p.corner c := by
  unfold holdWritten
  split
  · rw [putReason_corner_of_ne _ _ d h, unprime_corner_of_ne d h]
  · rfl

theorem holdWritten_of_le {c : Corner} {p : Part} (h : (p.corner c).motion.held ≤ p.params.holdLimit) :
    holdWritten c p = p := if_neg (Nat.not_lt.mpr h)

theorem holdWritten_of_lt {c : Corner} {p : Part} (h : p.params.holdLimit < (p.corner c).motion.held) :
    holdWritten c p = putReason .stale true c (unprime c p) := if_pos h

/-- A corner held beyond the new limit is unprimed and STALE, and PASSIVE if it regulated in ENGAGED (R34, R122). -/
theorem holdWritten_corner_of_lt {c : Corner} {p : Part} (h : p.params.holdLimit < (p.corner c).motion.held) :
    ((holdWritten c p).corner c).motion = .unprimed ∧
      ((holdWritten c p).corner c).reasons = { (p.corner c).reasons with stale := true } ∧
      ((holdWritten c p).corner c).banks = (p.corner c).banks ∧ ((holdWritten c p).corner c).stuck = (p.corner c).stuck ∧
      (p.control = .engaged → (p.corner c).state = .control → ((holdWritten c p).corner c).state = .passive false) := by
  rw [holdWritten_of_lt h]
  refine ⟨?_, ?_, ?_, ?_, fun hc hs => ?_⟩
  · simp [unprime]
  · rw [putReason, supervise_corner_reasons, Part.corner_modCorner_self, unprime_corner_reasons]
    rfl
  · simp
  · simp
  · rw [putReason, supervise_eq_enterPassive (by simpa using hc), enterPassive_corner_state]
    · exact .inl (by simpa using hs)
    · simp [Reasons.none, Reasons.put]

/-- What the operations of a HOLD_LIMIT write keep: corners and events aside, the part is as it stood. -/
def cornersAndEventsOnly (p q : Part) : Prop := q = { p with corners := q.corners, events := q.events }

theorem holdWritten_keeps (p : Part) (d : Corner) (q : Part) (h : cornersAndEventsOnly p q) :
    cornersAndEventsOnly p (holdWritten d q) := by
  unfold cornersAndEventsOnly at *
  rw [holdWritten_eq, h]

theorem writeEffect_address (x : ParamId) (p : Part) : (writeEffect x p).address = p.address := by
  unfold writeEffect
  split
  case h_3 => exact forCorners_same Part.address (fun c q => by rw [holdWritten_eq]; rfl) p
  all_goals rfl

/-- A WRITE_PARAM of a parameter that is not static, taken: the value is stored with its effect and answered (R169, R171). -/
theorem exec_writeParam {o : OrderIn} {id v3 v2 v1 v0 : Byte} {x : ParamId} {v : Nat} {s : State} (ht : takesOrders s.part)
    (ho : o.args = [id, v3, v2, v1, v0]) (hx : ParamId.ofCode id.toNat = some x) (hstatic : x.static = false)
    (hv : v = s.part.params.settled (largest s.part) x (nat32 v3 v2 v1 v0)) :
    exec (.writeParam o) s = .next ⟨afterOrder o 0x03 (if v = nat32 v3 v2 v1 v0 then 0 else 1) 0 (id :: u32 v)
      (fun q => writeEffect x (storeParam x v q)) s.part, s.pending⟩ := by
  obtain ⟨hslot, hplace⟩ := ht
  have hsettled : (goodFrame .s s.part).params.settled (goodFrame .s s.part).largestSetpoint x (nat32 v3 v2 v1 v0) = v :=
    hv.symm
  have haddress : (writeEffect x (storeParam x v (goodFrame .s s.part))).address = s.part.address :=
    writeEffect_address x _
  change Host.Outcome.next (State.mk (orderArrival o 0x03 writeParam s.part) s.pending) = _
  rw [orderArrival_taken o _ _ _ hslot hplace, ho]
  simp only [writeParam, hx, hstatic, Bool.false_and, Bool.false_eq_true, if_false, hsettled]
  split <;> exact congrArg (fun a => Host.Outcome.next (State.mk (placeReply ⟨o.src, a, 0x11, _⟩ _) s.pending)) haddress

section AfterOrder

variable (o : OrderIn) (code result reason : Byte) (data : List Byte) (effect : Part → Part) (p : Part)

theorem afterOrder_corners : (afterOrder o code result reason data effect p).corners = (effect (goodFrame .s p)).corners :=
  placeReply_corners _ _

theorem afterOrder_corner (c : Corner) :
    (afterOrder o code result reason data effect p).corner c = (effect (goodFrame .s p)).corner c := placeReply_corner _ _ _

theorem afterOrder_params : (afterOrder o code result reason data effect p).params = (effect (goodFrame .s p)).params :=
  placeReply_params _ _

theorem afterOrder_events : (afterOrder o code result reason data effect p).events = (effect (goodFrame .s p)).events :=
  placeReply_events _ _

variable {effect} {effect' : Part → Part} {p}

theorem afterOrder_congr (h : effect (goodFrame .s p) = effect' (goodFrame .s p)) :
    afterOrder o code result reason data effect p = afterOrder o code result reason data effect' p :=
  congrArg (placeReply _) h

end AfterOrder

theorem writeEffect_of_duty {x : ParamId} (h : x = .dutyMin ∨ x = .dutyMax) (p : Part) : writeEffect x p = reboundAll p := by
  rcases h with rfl | rfl <;> rfl

theorem static_of_duty {x : ParamId} (h : x = .dutyMin ∨ x = .dutyMax) : x.static = false := by
  rcases h with rfl | rfl <;> rfl

/-- The write of HOLD_LIMIT at a corner: the corner's own operation, from the part with the new limit. -/
theorem writeEffect_holdLimit_corner (c : Corner) (p : Part) : ∃ q : Part, q.control = p.control ∧ q.params = p.params ∧
    q.corner c = p.corner c ∧ (writeEffect .holdLimit p).corner c = (holdWritten c q).corner c := by
  obtain ⟨q, hq, hcorner, heq⟩ := forCorners_corner_of_keeps (holdWritten_keeps p) holdWritten_corner_of_ne p rfl c
  exact ⟨q, by rw [hq], by rw [hq], hcorner, heq⟩

theorem writeEffect_holdLimit_eq (p : Part) : cornersAndEventsOnly p (writeEffect .holdLimit p) :=
  have hself : cornersAndEventsOnly p p := rfl
  forCorners_keeps (holdWritten_keeps p) hself

/-- Settles O27: the duty bounds act through `reboundAll`, HOLD_LIMIT through `holdWritten` at each corner. -/
theorem writeActsAtOnce : Obligations.WriteActsAtOnce := by
  intro o id v3 v2 v1 v0 x v s ht ho hx hv
  refine ⟨fun hduty => ⟨_, exec_writeParam ht ho hx (static_of_duty hduty) hv, rfl, ?_, fun c => ?_⟩, ?_⟩
  · dsimp only
    refine afterOrder_congr _ _ _ _ _ ?_
    rw [afterOrder_corners, writeEffect_of_duty hduty]
    exact reboundAll_eq _
  · simp only [afterOrder_corner, afterOrder_params, writeEffect_of_duty hduty, reboundAll_corner, reboundCorner]
    refine ⟨rfl, fun hd => rebound_of_disabled hd _, fun he => ⟨_, rfl, ?_⟩⟩
    rw [← boundU_eq]
    exact rebound_of_enabled he _
  · rintro rfl
    refine ⟨_, exec_writeParam ht ho hx rfl hv, rfl, ?_, fun c => ?_⟩
    · dsimp only
      refine afterOrder_congr _ _ _ _ _ ?_
      rw [afterOrder_corners, afterOrder_events]
      exact writeEffect_holdLimit_eq _
    · obtain ⟨q, hcontrol, hparams, hcorner, heq⟩ :=
        writeEffect_holdLimit_corner c (storeParam .holdLimit v (goodFrame .s s.part))
      have hlimit : q.params.holdLimit = v := by rw [hparams]; rfl
      have hold : q.corner c = s.part.corner c := hcorner.trans (goodFrame_corner .s c s.part)
      rw [afterOrder_corner, heq, ← hold]
      refine ⟨fun hle => by rw [holdWritten_of_le (by rwa [hlimit])], fun hlt => ?_⟩
      have hlt' : q.params.holdLimit < (q.corner c).motion.held := by rwa [hlimit]
      obtain ⟨hmotion, hreasons, hbanks, hstuck, hpassive⟩ := holdWritten_corner_of_lt hlt'
      exact ⟨hmotion, hreasons, hbanks, hstuck, fun hc => hpassive (hcontrol.trans hc)⟩

end Sys2Proof.Estimation

/-! # The gain schedule (chapter 3)

The schedule read after a write and the tests of R44, then the forms of R43 and R44 kept, then the two orders. -/

namespace Sys2Proof.GainSchedule

open Sys2Proof Sys2Proof.Machine Sys2Proof.Claims

/-! ## The gain schedule (R43, R44) -/

theorem get_setBands (x : Schedule) (m m' : Mode) (b : Bands) : (x.set m b).get m' = if m' = m then b else x.get m' := by
  cases m <;> cases m' <;> rfl

theorem get_setBand (b : Bands) {n : Nat} (hn : n ≤ 7) (n' : Nat) (x : BandEntry) :
    (b.set n x).get n' = if n' = n then x else b.get n' := by
  interval_cases n <;> rcases n' with _ | _ | _ | _ | _ | _ | _ | _ | n' <;> rfl

/-- The tests of R44, as the model computes them. -/
theorem admits_iff (b : Bands) (n : Nat) (x : BandEntry) : b.admits n x = true ↔ admissible b n x := by
  simp only [Bands.admits, admissible, Bool.and_eq_true, Bool.or_eq_true, decide_eq_true_eq, Bool.not_eq_true', ne_eq]
  constructor
  · rintro ⟨⟨⟨⟨⟨⟨⟨hn, hbase⟩, hsky⟩, hgnd⟩, hbound⟩, hfirst⟩, hbelow⟩, habove⟩
    exact ⟨hn, hbase, hsky, hgnd, hbound, by tauto, fun h => hbelow.resolve_left (by omega),
      fun h hp => habove.resolve_left (by simp [hp]; omega)⟩
  · rintro ⟨hn, hbase, hsky, hgnd, hbound, hfirst, hbelow, habove⟩
    refine ⟨⟨⟨⟨⟨⟨⟨hn, hbase⟩, hsky⟩, hgnd⟩, hbound⟩, by tauto⟩, ?_⟩, ?_⟩
    · exact (Nat.eq_zero_or_pos n).imp_right hbelow
    · cases hp : (b.get (n + 1)).present with
      | false => exact .inl (.inr rfl)
      | true => exact (eq_or_lt_of_le hn).imp .inl fun h => habove (by omega) hp

theorem sound_absent : Bands.absent.sound where
  run n hn hp := by
    interval_cases n <;> exact nomatch hp
  first hp := nomatch hp
  limits n hp := by
    rcases n with _ | _ | _ | _ | _ | _ | _ | _ | n <;> exact nomatch hp

/-- A band written under the tests of R44 leaves an unbroken run with rising bounds. -/
theorem sound_setBand {b : Bands} (h : b.sound) {n : Nat} {x : BandEntry} (hx : x.present = true) (ha : admissible b n x) :
    (b.set n x).sound := by
  obtain ⟨hn, hbase, hsky, hgnd, hbound, hfirst, hbelow, habove⟩ := ha
  refine ⟨fun k hk => ?_, ?_, fun k => ?_⟩
  · rw [get_setBand b hn, get_setBand b hn]
    rcases lt_trichotomy (k + 1) n with hlt | rfl | hgt
    · rw [if_neg (by omega), if_neg (by omega)]
      exact h.run k hk
    · rw [if_pos rfl, if_neg (by omega)]
      exact fun _ => hbelow (by omega)
    · rw [if_neg (by omega)]
      split
      · rename_i hkn
        subst hkn
        exact fun hp => ⟨hx, habove (by omega) hp⟩
      · exact h.run k hk
  · rw [get_setBand b hn]
    split
    · rename_i h0
      exact fun _ => hfirst h0.symm
    · exact h.first
  · rw [get_setBand b hn]
    split
    · exact fun _ => ⟨hbound, hbase, hsky, hgnd⟩
    · exact h.limits k

theorem sound_setBands {x : Schedule} (h : x.sound) {b : Bands} (hb : b.sound) (m : Mode) : (x.set m b).sound := by
  intro m'
  rw [get_setBands]
  split
  · exact hb
  · exact h m'

/-! ## The schedule's orders (R44 to R46) -/

/-- An order taken and answered at once leaves its effect and its reply. -/
theorem answers_of_handler {o : OrderIn} {i : Instr} {code result reason : Byte} {data : List Byte} {handler : Handler}
    {s : State} {effect : Part → Part} (hexec : exec i s = s.onPart (orderArrival o code handler)) (ht : takesOrders s.part)
    (hh : handler o.args (goodFrame .s s.part) = (effect (goodFrame .s s.part), .reply result reason data))
    (ha : ∀ p, (effect p).straps = p.straps) : answers i s (afterOrder o code result reason data effect s.part) := by
  have haddress : (effect (goodFrame .s s.part)).address = s.part.address :=
    congrArg Config.ownAddress ((ha _).trans (goodFrame_straps .s s.part))
  unfold answers
  rw [hexec, State.onPart_eq, orderArrival_taken o code handler s.part ht.1 ht.2, hh, settleOrder_reply, haddress]
  rfl

theorem mode_ofCode_of_lt {n : Nat} (h : 2 < n) : Mode.ofCode n = none := by
  unfold Mode.ofCode
  split
  · omega
  · omega
  · omega
  · rfl

section GainWrite

variable {mode band n1 n0 b1 b0 s1 s0 g1 g0 : Byte} {m : Mode} {x : BandEntry} {p : Part}
  (hx : x = ⟨true, nat16 n1 n0, nat16 b1 b0, nat16 s1 s0, nat16 g1 g0⟩) (hm : Mode.ofCode mode.toNat = some m)

include hx hm

theorem gainWrite_of_admissible (ha : admissible (p.schedule.get m) band.toNat x) :
    gainWrite [mode, band, n1, n0, b1, b0, s1, s0, g1, g0] p =
      (judgeLoaded (p.setSchedule (p.schedule.set m ((p.schedule.get m).set band.toNat x))),
        .done [mode, band, u8 ((p.schedule.get m).set band.toNat x).presentCount]) := by
  have hadmits := (admits_iff _ _ _).mpr ha
  simp only [gainWrite, hm, ← hx, hadmits, if_true]

theorem gainWrite_of_not_admissible (ha : ¬ admissible (p.schedule.get m) band.toNat x) :
    gainWrite [mode, band, n1, n0, b1, b0, s1, s0, g1, g0] p = (p, .refusedArgument []) := by
  have hadmits : ¬ (p.schedule.get m).admits band.toNat x = true := fun h => ha ((admits_iff _ _ _).mp h)
  simp only [gainWrite, hm, ← hx, if_neg hadmits]

end GainWrite

theorem gainWrite_of_malformed {args : List Byte}
    (h : args.length ≠ 10 ∨ ∃ mode rest, args = mode :: rest ∧ 2 < mode.toNat)
    (p : Part) : gainWrite args p = (p, .refusedArgument []) := by
  unfold gainWrite
  split
  · rcases h with h | ⟨mode, rest, heq, hlt⟩
    · exact absurd rfl h
    · obtain ⟨rfl, -⟩ := List.cons.inj heq
      rw [mode_ofCode_of_lt hlt]
  · rfl

theorem gainClear_of_malformed {args : List Byte}
    (h : args.length ≠ 1 ∨ ∃ mode rest, args = mode :: rest ∧ 2 < mode.toNat)
    (p : Part) : gainClear args p = (p, .refusedArgument []) := by
  unfold gainClear
  split
  · rcases h with h | ⟨mode, rest, heq, hlt⟩
    · exact absurd rfl h
    · obtain ⟨rfl, -⟩ := List.cons.inj heq
      rw [mode_ofCode_of_lt hlt]
  · rfl

theorem gainClear_of_engaged {mode : Byte} {m : Mode} (hm : Mode.ofCode mode.toNat = some m) {p : Part}
    (h : p.control = .engaging ∨ p.control = .engaged) : gainClear [mode] p = (p, .refusedState []) := by
  rcases h with h | h <;> simp only [gainClear, hm, h]

theorem gainClear_of_not_engaged {mode : Byte} {m : Mode} (hm : Mode.ofCode mode.toNat = some m) {p : Part}
    (h : p.control ≠ .engaging) (h' : p.control ≠ .engaged) :
    gainClear [mode] p =
      (judgeLoaded ((p.setSchedule (p.schedule.set m .absent)).setSelection none), .done [mode, 0]) := by
  simp only [gainClear, hm]

/-- Settles O29: the schedule's own laws, then each case of the two orders by what its handler comes to. -/
theorem gainScheduleOrders : Obligations.GainScheduleOrders := by
  refine ⟨get_setBands, fun b n n' x hn => get_setBand b hn n' x, fun o s ht => ⟨?_, ?_, ?_, ?_⟩⟩
  · intro mode band n1 n0 b1 b0 s1 s0 g1 g0 m x ho hx hm
    refine ⟨fun ha => answers_of_handler rfl ht ?_ fun p => ?_, fun ha => answers_of_handler rfl ht ?_ fun p => rfl⟩
    · rw [ho]
      exact gainWrite_of_admissible hx hm ha
    · exact judgeLoaded_straps _
    · rw [ho]
      exact gainWrite_of_not_admissible hx hm ha
  · intro h
    exact answers_of_handler rfl ht (gainWrite_of_malformed h _) fun p => rfl
  · intro mode m ho hm
    refine ⟨fun h => answers_of_handler rfl ht ?_ fun p => rfl, fun h h' => answers_of_handler rfl ht ?_ fun p => ?_⟩
    · rw [ho]
      exact gainClear_of_engaged hm h
    · rw [ho]
      exact gainClear_of_not_engaged hm h h'
    · exact judgeLoaded_straps _
  · intro h
    exact answers_of_handler rfl ht (gainClear_of_malformed h _) fun p => rfl

end Sys2Proof.GainSchedule

/-! # What every step keeps: structures and supervision

A step is built from few kinds of change. `KeptBut` says that the six forms of the two statements are kept from one part to
another, save for what is still owed: the judgment of the loaded condition (R113), and a corner supervisor's act on a reason set
(R121). Each kind of change comes first, with what it owes or pays; then every operation of the model by its parts, once. -/

namespace Sys2Proof.Upkeep

open Sys2Proof Sys2Proof.Machine Sys2Proof.Estimation Sys2Proof.GainSchedule

/-! ## What the six forms read -/

/-- What the forms of the map store, the events, the schedule and the supervisor read of a part. -/
structure Forms where
  corners : Quad (Banks × CornerState × Reasons)
  control : ControlState
  schedule : Schedule
  events : List Entry

def cornerForms (k : CornerPart) : Banks × CornerState × Reasons := (k.banks, k.state, k.reasons)

def forms (p : Part) : Forms := ⟨p.corners.map cornerForms, p.control, p.schedule, p.events⟩

/-- What the form of the queues reads of a part. -/
def queueForms (p : Part) : List Frame × List Frame × List Frame × Option HeldOrder :=
  (p.link.wheelBound, p.link.chassisBound, p.link.replies, p.slot)

theorem cornerForms_of_forms {p q : Part} (h : forms q = forms p) (c : Corner) :
    cornerForms (q.corner c) = cornerForms (p.corner c) := by
  have hget : (q.corners.map cornerForms).get c = (p.corners.map cornerForms).get c :=
    congrArg (fun x : Forms => x.corners.get c) h
  rwa [Quad.get_map, Quad.get_map] at hget

theorem forms_modCorner {f : CornerPart → CornerPart} (hf : ∀ k, cornerForms (f k) = cornerForms k) (c : Corner) (p : Part) :
    forms (p.modCorner c f) = forms p := by
  have hcorners : (p.modCorner c f).corners.map cornerForms = p.corners.map cornerForms := by
    refine Quad.ext_get fun d => ?_
    rw [Quad.get_map, Quad.get_map]
    change cornerForms ((p.modCorner c f).corner d) = cornerForms (p.corner d)
    rw [Part.corner_modCorner]
    split
    · rename_i hd
      rw [hf, hd]
    · rfl
  exact congrArg (Forms.mk · p.control p.schedule p.events) hcorners

theorem forms_modPort (r : Port) (f : PortPart → PortPart) (p : Part) : forms (p.modPort r f) = forms p := by
  cases r <;> rfl

theorem queueForms_modPort (r : Port) (f : PortPart → PortPart) (p : Part) : queueForms (p.modPort r f) = queueForms p := by
  cases r <;> rfl

/-! ## The loaded condition -/

theorem loaded_congr {p q : Part} (hu : ∀ c, (q.corner c).banks.inUse.isSome = (p.corner c).banks.inUse.isSome)
    (hs : q.schedule = p.schedule) : q.loaded = p.loaded := by
  rw [Bool.eq_iff_iff, loaded_iff, loaded_iff, hs]
  simp only [← inUse_isSome_iff, hu]

/-- The loaded condition as the control state has it, where `judged` says that nothing has moved it since it was judged. -/
structure LoadedBut (judged : Bool) (p : Part) : Prop where
  complete : p.control = .engaging ∨ p.control = .engaged → p.schedule.complete = true
  standby : judged = true → p.control = .standby → p.loaded = true
  unloaded : judged = true → p.control = .unloaded → p.loaded = false

theorem loadedBut_iff (p : Part) : LoadedBut true p ↔ p.loadSound :=
  ⟨fun h => ⟨h.standby rfl, h.unloaded rfl, h.complete⟩,
    fun h => ⟨h.complete, fun _ => h.standby, fun _ => h.unloaded⟩⟩

theorem LoadedBut.congr {judged judged' : Bool} {p q : Part} (h : LoadedBut judged p) (hc : q.control = p.control)
    (hs : q.schedule = p.schedule) (hl : judged' = true → judged = true ∧ q.loaded = p.loaded) : LoadedBut judged' q where
  complete hq := by
    rw [hs]
    exact h.complete (by rwa [← hc])
  standby hj hq := by
    obtain ⟨hj', heq⟩ := hl hj
    rw [heq]
    exact h.standby hj' (by rwa [← hc])
  unloaded hj hq := by
    obtain ⟨hj', heq⟩ := hl hj
    rw [heq]
    exact h.unloaded hj' (by rwa [← hc])

/-! ## The supervisor -/

/-- Every corner fits the control state, but one whose supervisor still owes its act in ENGAGED. -/
def SupervisedBut (owed : Option Corner) (p : Part) : Prop :=
  ∀ c, (owed = some c → p.control ≠ .engaged) → (p.corner c).supervised p.control

theorem supervisedBut_none (p : Part) : SupervisedBut none p ↔ p.supervised :=
  ⟨fun h c => h c (fun hc => nomatch hc), fun h c _ => h c⟩

/-- Outside ENGAGED and RELEASING every corner is in a state of a part that is not engaged (R120). -/
theorem unengaged_of_supervisedBut {q : Part}
    (hc : q.control = .unloaded ∨ q.control = .standby ∨ q.control = .engaging)
    (hq : SupervisedBut none q) (d : Corner) : (q.corner d).state.unengaged = true := by
  have hd := hq d nofun
  rcases hc with hc | hc | hc <;> rw [hc] at hd <;> exact hd

/-- The corner states of a part that is not engaged fit every control state. -/
theorem supervised_of_unengaged {k : CornerPart} (h : k.state.unengaged = true) (x : ControlState) : k.supervised x := by
  have hneeds : k.state.needsNoReason = true → k.reasons.none = true := by
    intro hn
    cases hs : k.state with
    | calibrating purpose b => cases purpose <;> simp_all [CornerState.unengaged, CornerState.needsNoReason]
    | _ => simp_all [CornerState.unengaged, CornerState.needsNoReason]
  cases x with
  | engaged => exact hneeds
  | releasing => trivial
  | _ => exact h

/-- From a corner state that regulates or retries, every corner state is allowed that leaves the reasons. -/
theorem supervised_of_needs {k k' : CornerPart} (hn : k.state.needsNoReason = true) (hr : k'.reasons = k.reasons)
    {x : ControlState} (h : k.supervised x) : k'.supervised x := by
  have hnot : k.state.unengaged ≠ true := by
    cases hs : k.state with
    | calibrating purpose b => cases purpose <;> simp_all [CornerState.unengaged, CornerState.needsNoReason]
    | _ => simp_all [CornerState.unengaged, CornerState.needsNoReason]
  cases x with
  | engaged => exact fun _ => hr ▸ h hn
  | releasing => trivial
  | _ => exact absurd h hnot

/-- A PASSIVE corner that stays PASSIVE fits as before. -/
theorem supervised_of_passive {k k' : CornerPart} {a b : Bool} (hk : k.state = .passive a) (hk' : k'.state = .passive b)
    {x : ControlState} (h : k.supervised x) : k'.supervised x := by
  cases x with
  | engaged => exact fun hn => by simp [hk', CornerState.needsNoReason] at hn
  | releasing => trivial
  | _ => simp [CornerPart.supervised, hk, CornerState.unengaged] at h

theorem supervised_of_forms {k k' : CornerPart} (hs : k'.state = k.state) (hr : k'.reasons = k.reasons) {x : ControlState}
    (h : k.supervised x) : k'.supervised x := by
  cases x with
  | releasing => trivial
  | _ => simpa [CornerPart.supervised, hs, hr] using h

/-- Where the control state is not ENGAGED the reasons are not looked at. -/
theorem supervised_of_state {k k' : CornerPart} (hs : k'.state = k.state) {x : ControlState} (hx : x ≠ .engaged)
    (h : k.supervised x) : k'.supervised x := by
  cases x with
  | engaged => exact absurd rfl hx
  | releasing => trivial
  | _ => exact (congrArg CornerState.unengaged hs).trans h

/-! ## The queues -/

/-- The places of the reply queue that are occupied or reserved (R154, R163). -/
def placesTaken (p : Part) : Nat := p.link.replies.length + (if p.slot.isSome then 1 else 0)

/-- The forwarding queues stay within their depth, and no more reply places are taken. -/
structure QueuesKept (p q : Part) : Prop where
  wheelBound : p.link.wheelBound.length ≤ Config.queueDepth → q.link.wheelBound.length ≤ Config.queueDepth
  chassisBound : p.link.chassisBound.length ≤ Config.queueDepth → q.link.chassisBound.length ≤ Config.queueDepth
  places : placesTaken q ≤ placesTaken p

theorem QueuesKept.trans {p q r : Part} (h : QueuesKept p q) (h' : QueuesKept q r) : QueuesKept p r :=
  ⟨h'.wheelBound ∘ h.wheelBound, h'.chassisBound ∘ h.chassisBound, h'.places.trans h.places⟩

theorem QueuesKept.of_eq {p q : Part} (h : queueForms q = queueForms p) : QueuesKept p q := by
  simp only [queueForms, Prod.mk.injEq] at h
  obtain ⟨hw, hc, hr, hs⟩ := h
  exact ⟨by rw [hw]; exact id, by rw [hc]; exact id, by rw [placesTaken, placesTaken, hr, hs]⟩

theorem QueuesKept.sound {p q : Part} (h : QueuesKept p q) (hp : p.queuesSound) : q.queuesSound :=
  ⟨h.wheelBound hp.wheelBound, h.chassisBound hp.chassisBound, h.places.trans hp.replies⟩

/-! ## The pending events (R177 to R179) -/

/-- The pair that a kind code and a subject name. -/
def eventOfCodes (kind subject : Nat) : Option Event :=
  let atCorner (e : Corner → Event) : Option Event := (Corner.ofIndex subject).map e
  let atPort (e : Port → Event) : Option Event := some (e (if subject = 0 then .s else .w))
  match kind with
  | 1 => atCorner .valveFault
  | 2 => some .supply
  | 3 => atCorner .mapParity
  | 4 => atCorner .cornerPassive
  | 5 => atPort .linkLos
  | 6 => some .cycleHoldover
  | 7 => some .cycleLocal
  | 8 => atCorner .sensorStuck
  | 9 => atCorner .valveRecovered
  | 10 => atPort .linkQuality
  | 11 => atCorner .overcurrentLimit
  | 12 => some .orderDropped
  | 13 => some .restarted
  | 14 => atCorner .mapSwapped
  | _ => none

theorem eventOfCodes_codes (e : Event) : eventOfCodes e.kindCode e.subject = some e := by
  cases e with
  | linkLos r => cases r <;> rfl
  | linkQuality r => cases r <;> rfl
  | _ => simp [eventOfCodes, Event.kindCode, Event.subject, ofIndex_index]

theorem subject_lt (e : Event) : e.subject < 4 := by
  cases e with
  | linkLos r => cases r <;> decide
  | linkQuality r => cases r <;> decide
  | supply | cycleHoldover | cycleLocal | orderDropped | restarted => decide
  | _ c => cases c <;> decide

/-- The place in the priority order names the pair (R179). -/
theorem rank_injective {e e' : Event} (h : e.rank = e'.rank) : e = e' := by
  have hsubject := subject_lt e
  have hsubject' := subject_lt e'
  have hcodes : e.kindCode = e'.kindCode ∧ e.subject = e'.subject := by
    unfold Event.rank at h
    omega
  have heq := eventOfCodes_codes e
  rw [hcodes.1, hcodes.2, eventOfCodes_codes e'] at heq
  exact (Option.some.inj heq).symm

/-- Raising an event brings in no pair but its own. -/
theorem event_of_mem_raiseIn {e : Event} {first : Word} {b : Byte} {l : List Entry} {y : Entry} (hy : y ∈ raiseIn e first b l) :
    y.event = e ∨ ∃ z ∈ l, z.event = y.event := by
  induction l with
  | nil => exact .inl (by rw [List.mem_singleton.mp hy])
  | cons x xs ih =>
    unfold raiseIn at hy
    split at hy
    · rcases List.mem_cons.mp hy with rfl | hy
      · exact .inl (by assumption)
      · exact .inr ⟨y, List.mem_cons_of_mem _ hy, rfl⟩
    · split at hy
      · rcases List.mem_cons.mp hy with rfl | hy
        · exact .inl rfl
        · exact .inr ⟨y, hy, rfl⟩
      · rcases List.mem_cons.mp hy with rfl | hy
        · exact .inr ⟨y, List.mem_cons_self, rfl⟩
        · exact (ih hy).imp_right fun ⟨z, hz, he⟩ => ⟨z, List.mem_cons_of_mem _ hz, he⟩

theorem pairwise_raiseIn (e : Event) (first : Word) (b : Byte) {l : List Entry}
    (h : l.Pairwise (fun x y => x.event.rank < y.event.rank)) :
    (raiseIn e first b l).Pairwise (fun x y => x.event.rank < y.event.rank) := by
  induction l with
  | nil => exact List.pairwise_singleton _ _
  | cons x xs ih =>
    obtain ⟨hx, hxs⟩ := List.pairwise_cons.mp h
    unfold raiseIn
    split
    · exact List.pairwise_cons.mpr ⟨hx, hxs⟩
    · rename_i hne
      split
      · rename_i hlt
        refine List.pairwise_cons.mpr ⟨fun y hy => ?_, h⟩
        rcases List.mem_cons.mp hy with rfl | hy
        · exact hlt
        · exact hlt.trans (hx y hy)
      · rename_i hge
        have hlt : x.event.rank < e.rank := lt_of_le_of_ne (not_lt.mp hge) fun heq => hne (rank_injective heq)
        refine List.pairwise_cons.mpr ⟨fun y hy => ?_, ih hxs⟩
        rcases event_of_mem_raiseIn hy with he | ⟨z, hz, he⟩
        · rwa [he]
        · rw [← he]
          exact hx z hz

theorem count_raiseIn (e : Event) (first : Word) (b : Byte) {l : List Entry}
    (h : ∀ x ∈ l, 1 ≤ x.count ∧ x.count ≤ 255) :
    ∀ x ∈ raiseIn e first b l, 1 ≤ x.count ∧ x.count ≤ 255 := by
  induction l with
  | nil => exact fun x hx => by simp [List.mem_singleton.mp hx]
  | cons y ys ih =>
    have hys : ∀ x ∈ ys, 1 ≤ x.count ∧ x.count ≤ 255 := fun x hx => h x (List.mem_cons_of_mem _ hx)
    unfold raiseIn
    split
    · refine List.forall_mem_cons.mpr ⟨?_, hys⟩
      have hy := h y List.mem_cons_self
      simp only [satAdd]
      omega
    · split
      · exact List.forall_mem_cons.mpr ⟨by simp, h⟩
      · exact List.forall_mem_cons.mpr ⟨h y List.mem_cons_self, ih hys⟩

/-- Raising an event keeps the order, one entry a pair, and the bounds of the counts (R178, R179). -/
theorem eventsSound_raiseIn (e : Event) (first : Word) (b : Byte) {l : List Entry} (h : eventsSound l) :
    eventsSound (raiseIn e first b l) := ⟨pairwise_raiseIn e first b h.1, count_raiseIn e first b h.2⟩

theorem eventsSound_tail {x : Entry} {l : List Entry} (h : eventsSound (x :: l)) : eventsSound l :=
  ⟨h.1.of_cons, fun y hy => h.2 y (List.mem_cons_of_mem _ hy)⟩

theorem eventsSound_single (e : Event) (first : Word) (b : Byte) : eventsSound [⟨e, 1, first, b⟩] :=
  ⟨List.pairwise_singleton _ _, by simp⟩

/-! ## Each form holds of all parts that it reads the same of -/

section OfForms

variable {p q : Part} (hf : forms q = forms p)

include hf

theorem corner_of_forms (c : Corner) : (q.corner c).banks = (p.corner c).banks ∧ (q.corner c).state = (p.corner c).state ∧
    (q.corner c).reasons = (p.corner c).reasons := by
  simpa only [cornerForms, Prod.mk.injEq] using cornerForms_of_forms hf c

theorem storeCanonical_of_forms (h : p.storeCanonical) : q.storeCanonical := by
  intro c
  rw [(corner_of_forms hf c).1]
  exact h c

theorem eventsSound_of_forms (h : eventsSound p.events) : eventsSound q.events := by
  have hevents : q.events = p.events := congrArg Forms.events hf
  rwa [hevents]

theorem scheduleSound_of_forms (h : p.schedule.sound) : q.schedule.sound := by
  have hschedule : q.schedule = p.schedule := congrArg Forms.schedule hf
  rwa [hschedule]

theorem supervisedBut_of_forms {owed : Option Corner} (h : SupervisedBut owed p) : SupervisedBut owed q := by
  intro c hc
  obtain ⟨-, hstate, hreasons⟩ := corner_of_forms hf c
  have hcontrol : q.control = p.control := congrArg Forms.control hf
  rw [hcontrol] at hc ⊢
  exact supervised_of_forms hstate hreasons (h c hc)

theorem loadedBut_of_forms {judged : Bool} (h : LoadedBut judged p) : LoadedBut judged q := by
  have hschedule : q.schedule = p.schedule := congrArg Forms.schedule hf
  exact h.congr (congrArg Forms.control hf) hschedule fun hj =>
    ⟨hj, loaded_congr (fun c => by rw [(corner_of_forms hf c).1]) hschedule⟩

end OfForms

/-! ## The forms kept, and what is owed -/

/-- From one part to another the six forms are kept. -/
structure FormsKept (p q : Part) : Prop where
  store : p.storeCanonical → q.storeCanonical
  queues : p.queuesSound → q.queuesSound
  events : eventsSound p.events → eventsSound q.events
  schedule : p.schedule.sound → q.schedule.sound
  supervised : p.supervised → q.supervised
  load : p.loadSound → q.loadSound

theorem FormsKept.trans {p q r : Part} (h : FormsKept p q) (h' : FormsKept q r) : FormsKept p r :=
  ⟨h'.store ∘ h.store, h'.queues ∘ h.queues, h'.events ∘ h.events, h'.schedule ∘ h.schedule,
    h'.supervised ∘ h.supervised, h'.load ∘ h.load⟩

theorem FormsKept.of_forms {p q : Part} (hf : forms q = forms p) (hq : p.queuesSound → q.queuesSound) : FormsKept p q where
  store := storeCanonical_of_forms hf
  queues := hq
  events := eventsSound_of_forms hf
  schedule := scheduleSound_of_forms hf
  supervised hp := (supervisedBut_none q).mp (supervisedBut_of_forms hf ((supervisedBut_none p).mpr hp))
  load hp := (loadedBut_iff q).mp (loadedBut_of_forms hf ((loadedBut_iff p).mpr hp))

/-- From one part to another the forms are kept and no reply place is taken, where the loaded condition may wait to be judged and
one corner's supervisor may owe its act. -/
structure KeptBut (judged : Bool) (owed : Option Corner) (p q : Part) : Prop where
  store : p.storeCanonical → q.storeCanonical
  queues : QueuesKept p q
  events : eventsSound p.events → eventsSound q.events
  schedule : p.schedule.sound → q.schedule.sound
  supervised : p.supervised → SupervisedBut owed q
  load : p.loadSound → LoadedBut judged q

/-- The forms are kept and nothing is owed. -/
abbrev Kept (p q : Part) : Prop := KeptBut true none p q

theorem Kept.refl (p : Part) : Kept p p :=
  ⟨id, .of_eq rfl, id, id, (supervisedBut_none p).mpr, (loadedBut_iff p).mpr⟩

theorem KeptBut.formsKept {p q : Part} (h : Kept p q) : FormsKept p q :=
  ⟨h.store, h.queues.sound, h.events, h.schedule, fun hp => (supervisedBut_none q).mp (h.supervised hp),
    fun hp => (loadedBut_iff q).mp (h.load hp)⟩

/-! ## The kinds of change -/

namespace KeptBut

variable {judged : Bool} {owed : Option Corner} {c : Corner} {p q r : Part}

/-- A change of the queues and of what no form reads. -/
theorem andQueues (h : KeptBut judged owed p q) (hf : forms r = forms q) (hq : QueuesKept q r) :
    KeptBut judged owed p r :=
  ⟨fun hp => storeCanonical_of_forms hf (h.store hp), h.queues.trans hq, fun hp => eventsSound_of_forms hf (h.events hp),
    fun hp => scheduleSound_of_forms hf (h.schedule hp), fun hp => supervisedBut_of_forms hf (h.supervised hp),
    fun hp => loadedBut_of_forms hf (h.load hp)⟩

/-- A change of what no form reads. -/
theorem andSame (h : KeptBut judged owed p q) (hf : forms r = forms q) (hq : queueForms r = queueForms q) :
    KeptBut judged owed p r := h.andQueues hf (.of_eq hq)

theorem andModPort (h : KeptBut judged owed p q) (x : Port) (f : PortPart → PortPart) : KeptBut judged owed p (q.modPort x f) :=
  h.andSame (forms_modPort x f q) (queueForms_modPort x f q)

/-- A change of the pending events. -/
theorem andEvents (h : KeptBut judged owed p q) {l : List Entry} (hl : eventsSound q.events → eventsSound l) :
    KeptBut judged owed p (q.setEvents l) :=
  ⟨h.store, h.queues.trans (.of_eq rfl), hl ∘ h.events, h.schedule, h.supervised,
    fun hp => (h.load hp).congr rfl rfl fun hj => ⟨hj, rfl⟩⟩

theorem andRaise (h : KeptBut judged owed p q) (e : Event) (b : Byte) : KeptBut judged owed p (raise e b q) :=
  h.andEvents (eventsSound_raiseIn e _ b)

/-- A change of the schedule; the loaded condition then waits to be judged. -/
theorem andSchedule (h : KeptBut judged owed p q) {x : Schedule} (hs : q.schedule.sound → x.sound)
    (hc : q.control = .engaging ∨ q.control = .engaged → q.schedule.complete = true → x.complete = true) :
    KeptBut false owed p (q.setSchedule x) :=
  ⟨h.store, h.queues.trans (.of_eq rfl), h.events, hs ∘ h.schedule, h.supervised,
    fun hp => ⟨fun hq => hc hq ((h.load hp).complete hq), nofun, nofun⟩⟩

/-- A change of the control state. -/
theorem andControl (h : KeptBut judged owed p q) {x : ControlState} {judged' : Bool}
    (hs : SupervisedBut owed q → ∀ d, (q.corner d).supervised x)
    (hl : LoadedBut judged q → LoadedBut judged' (q.setControl x)) : KeptBut judged' owed p (q.setControl x) :=
  ⟨h.store, h.queues.trans (.of_eq rfl), h.events, h.schedule, fun hp d _ => hs (h.supervised hp) d, fun hp => hl (h.load hp)⟩

/-- A change at one corner, by what it does to the corner's banks and to its fit with the control state. -/
theorem andCornerBut (h : KeptBut judged owed p q) {f : CornerPart → CornerPart} {judged' : Bool}
    (hb : (q.corner c).banks.canonical → (f (q.corner c)).banks.canonical)
    (hs : (owed = some c → q.control ≠ .engaged) → (q.corner c).supervised q.control →
      (f (q.corner c)).supervised q.control)
    (hu : judged' = true → judged = true ∧ (f (q.corner c)).banks.inUse.isSome = (q.corner c).banks.inUse.isSome) :
    KeptBut judged' owed p (q.modCorner c f) := by
  refine ⟨fun hp d => ?_, h.queues.trans (.of_eq rfl), h.events, h.schedule, fun hp d hd => ?_, fun hp => ?_⟩
  · rw [Part.corner_modCorner]
    split
    · exact hb (h.store hp c)
    · exact h.store hp d
  · rw [Part.corner_modCorner]
    split
    · rename_i hdc
      subst hdc
      exact hs hd (h.supervised hp d hd)
    · exact h.supervised hp d hd
  · refine (h.load hp).congr rfl rfl fun hj => ⟨(hu hj).1, loaded_congr (fun d => ?_) rfl⟩
    rw [Part.corner_modCorner]
    split
    · rename_i hdc
      rw [(hu hj).2, hdc]
    · rfl

/-- A change at one corner that leaves its banks. -/
theorem andCorner (h : KeptBut judged owed p q) {f : CornerPart → CornerPart} (hb : (f (q.corner c)).banks = (q.corner c).banks)
    (hs : (q.corner c).supervised q.control → (f (q.corner c)).supervised q.control) :
    KeptBut judged owed p (q.modCorner c f) :=
  h.andCornerBut (by rw [hb]; exact id) (fun _ => hs) fun hj => ⟨hj, by rw [hb]⟩

/-- A change at one corner that leaves banks, state and reasons. -/
theorem andQuiet (h : KeptBut judged owed p q) {f : CornerPart → CornerPart} (hf : ∀ k, cornerForms (f k) = cornerForms k) :
    KeptBut judged owed p (q.modCorner c f) := h.andSame (forms_modCorner hf c q) rfl

/-- A change at one corner to a state of a part that is not engaged. -/
theorem andUnengaged (h : KeptBut judged owed p q) {f : CornerPart → CornerPart}
    (hb : (f (q.corner c)).banks = (q.corner c).banks) (hs : (f (q.corner c)).state.unengaged = true) :
    KeptBut judged owed p (q.modCorner c f) := h.andCorner hb fun _ => supervised_of_unengaged hs _

/-- A change of one corner's banks that leaves whether the part is loaded. -/
theorem andBanks (h : KeptBut judged owed p q) {f : Banks → Banks} (hb : ∀ k : Banks, k.canonical → (f k).canonical)
    (hu : (f (q.corner c).banks).inUse.isSome = (q.corner c).banks.inUse.isSome) :
    KeptBut judged owed p (q.modCorner c (CornerPart.modBanks f)) :=
  h.andCornerBut (hb _) (fun _ => supervised_of_forms rfl rfl) fun hj => ⟨hj, hu⟩

/-- A corner's supervisor may come to owe its act. -/
theorem owing (h : KeptBut judged none p q) (c : Corner) : KeptBut judged (some c) p q :=
  ⟨h.store, h.queues, h.events, h.schedule, fun hp d _ => h.supervised hp d nofun, h.load⟩

/-- A change of one corner's reasons, on which its supervisor has then to act. -/
theorem andReasons (h : KeptBut judged (some c) p q) {f : CornerPart → CornerPart}
    (hb : (f (q.corner c)).banks = (q.corner c).banks) (hs : (f (q.corner c)).state = (q.corner c).state) :
    KeptBut judged (some c) p (q.modCorner c f) :=
  h.andCornerBut (by rw [hb]; exact id) (fun hc => supervised_of_state hs (hc rfl)) fun hj => ⟨hj, by rw [hb]⟩

/-- A change of one corner's banks and reasons, after which the supervisor has to act and the loaded condition to be judged. -/
theorem andReload (h : KeptBut judged (some c) p q) {f : CornerPart → CornerPart}
    (hb : (q.corner c).banks.canonical → (f (q.corner c)).banks.canonical) (hs : (f (q.corner c)).state = (q.corner c).state) :
    KeptBut false (some c) p (q.modCorner c f) :=
  h.andCornerBut hb (fun hc => supervised_of_state hs (hc rfl)) nofun

/-- The supervisor's act is owed no longer where the corner fits the control state. -/
theorem paid (h : KeptBut judged (some c) p q) (hs : SupervisedBut (some c) q → (q.corner c).supervised q.control) :
    KeptBut judged none p q := by
  refine ⟨h.store, h.queues, h.events, h.schedule, fun hp d _ => ?_, h.load⟩
  by_cases hd : d = c
  · rw [hd]
    exact hs (h.supervised hp)
  · exact h.supervised hp d fun heq => absurd (Option.some.inj heq).symm hd

end KeptBut

/-! ## Transmitters and queues (chapter 9) -/

theorem forms_arbitrateS (p : Part) : forms (arbitrateS p) = forms p := by
  unfold arbitrateS
  split
  · rfl
  · split <;> rfl

theorem forms_arbitrateW (p : Part) : forms (arbitrateW p) = forms p := by
  unfold arbitrateW
  split
  · rfl
  · split <;> rfl

/-- An arbiter only takes from the queues. -/
theorem queuesKept_arbitrateS (p : Part) : QueuesKept p (arbitrateS p) := by
  unfold arbitrateS
  split
  · exact .of_eq rfl
  · split
    · rename_i hr
      exact ⟨id, id, by simp [placesTaken, hr]⟩
    · rename_i hc
      exact ⟨id, fun h => by simp [hc] at h ⊢; omega, by simp [placesTaken]⟩
    · exact .of_eq rfl
    · exact .of_eq rfl

theorem queuesKept_arbitrateW (p : Part) : QueuesKept p (arbitrateW p) := by
  unfold arbitrateW
  split
  · exact .of_eq rfl
  · split
    · exact .of_eq rfl
    · rename_i hw
      exact ⟨fun h => by simp [hw] at h ⊢; omega, id, by simp [placesTaken]⟩
    · exact .of_eq rfl

/-- A reply placed where a place is left keeps the queues sound. -/
theorem queuesSound_placeReply {p : Part} (f : Frame) (h : p.queuesSound) (hp : placesTaken p < Config.replyPlaces) :
    (placeReply f p).queuesSound := by
  have hplaced : placesTaken (p.modLink fun k => { k with replies := k.replies ++ [f] }) = placesTaken p + 1 := by
    change (p.link.replies ++ [f]).length + (if p.slot.isSome then 1 else 0) = _
    rw [List.length_append, Nat.add_right_comm]
    rfl
  exact (queuesKept_arbitrateS _).sound ⟨h.wheelBound, h.chassisBound, hplaced.trans_le hp⟩

namespace KeptBut

variable {judged : Bool} {owed : Option Corner} {p q : Part}

theorem andArbitrateS (h : KeptBut judged owed p q) : KeptBut judged owed p (arbitrateS q) :=
  h.andQueues (forms_arbitrateS q) (queuesKept_arbitrateS q)

theorem andArbitrateW (h : KeptBut judged owed p q) : KeptBut judged owed p (arbitrateW q) :=
  h.andQueues (forms_arbitrateW q) (queuesKept_arbitrateW q)

theorem andCountPort (h : KeptBut judged owed p q) (x : Port) (f : PortCounters → PortCounters) :
    KeptBut judged owed p (countPort x f q) := h.andModPort x _

theorem andCountCorner (h : KeptBut judged owed p q) (c : Corner) (f : CornerCounters → CornerCounters) :
    KeptBut judged owed p (countCorner c f q) := h.andQuiet fun _ => rfl

theorem andGoodFrame (h : KeptBut judged owed p q) (x : Port) : KeptBut judged owed p (goodFrame x q) := h.andModPort x _

theorem andPlaceWheelBound (h : KeptBut judged owed p q) (f : Frame) : KeptBut judged owed p (placeWheelBound f q) := by
  unfold placeWheelBound
  split
  · rename_i hlt
    have hplaced : QueuesKept q (q.modLink fun k => { k with wheelBound := k.wheelBound ++ [f] }) :=
      ⟨fun _ => by simpa using hlt, id, le_rfl⟩
    exact KeptBut.andArbitrateW (h.andQueues rfl hplaced)
  · exact h.andCountPort .w _

theorem andPlaceChassisBound (h : KeptBut judged owed p q) (f : Frame) : KeptBut judged owed p (placeChassisBound f q) := by
  unfold placeChassisBound
  split
  · rename_i hlt
    have hplaced : QueuesKept q (q.modLink fun k => { k with chassisBound := k.chassisBound ++ [f] }) :=
      ⟨id, fun _ => by simpa using hlt, le_rfl⟩
    exact KeptBut.andArbitrateS (h.andQueues rfl hplaced)
  · exact h.andCountPort .s _

theorem andPlaceReport (h : KeptBut judged owed p q) (f : Frame) : KeptBut judged owed p (placeReport f q) := by
  unfold placeReport
  split
  · exact KeptBut.andArbitrateS (h.andSame rfl rfl)
  · exact KeptBut.andArbitrateS (h.andSame rfl rfl)

theorem andSetSubstitute (h : KeptBut judged owed p q) (f : Frame) : KeptBut judged owed p (setSubstitute f q) :=
  KeptBut.andArbitrateW (h.andSame rfl rfl)

/-- The reply of a held order stands in the place reserved for it (R154, R164). -/
theorem andAnswerHeld (h : KeptBut judged owed p q) (result reason : Byte) (data : List Byte) :
    KeptBut judged owed p (answerHeld result reason data q) := by
  unfold answerHeld
  split
  · exact h
  · rename_i held hslot
    refine KeptBut.andArbitrateS (h.andQueues rfl ⟨id, id, ?_⟩)
    simp [placesTaken, hslot]

/-! ## The supervisor's operations (7.4, 7.5) -/

theorem andUnprime (h : KeptBut judged owed p q) (c : Corner) : KeptBut judged owed p (unprime c q) := h.andQuiet fun _ => rfl

theorem andTurnOff (h : KeptBut judged owed p q) (c : Corner) : KeptBut judged owed p (q.modCorner c CornerPart.turnOff) :=
  h.andUnengaged rfl rfl

/-- In ENGAGED any corner may enter PASSIVE. -/
theorem andEnterPassive (h : KeptBut judged owed p q) {c : Corner} (hc : q.control = .engaged) :
    KeptBut judged owed p (enterPassive c q) := by
  refine KeptBut.andRaise (h.andCorner rfl fun _ => ?_) _ _
  rw [hc]
  exact nofun

/-- In ENGAGED a corner without a reason may enter CONTROL. -/
theorem andReturnToControl (h : KeptBut judged owed p q) {c : Corner} (hc : q.control = .engaged)
    (hr : (q.corner c).reasons.none = true) : KeptBut judged owed p (returnToControl c q) := by
  refine h.andCorner rfl fun _ => ?_
  rw [hc]
  exact fun _ => hr

/-- The supervisor's act pays what it owes (R122, R124). -/
theorem andSupervise {c : Corner} (h : KeptBut judged (some c) p q) : KeptBut judged none p (supervise c q) := by
  have hself (hn : q.control = .engaged → (q.corner c).state.needsNoReason = true → (q.corner c).reasons.none = true) :
      KeptBut judged none p q := by
    refine h.paid fun hs => ?_
    by_cases hc : q.control = .engaged
    · rw [hc]
      exact hn hc
    · exact hs c fun _ => hc
  have hpassive (hc : q.control = .engaged) : KeptBut judged none p (enterPassive c q) := by
    refine (h.andEnterPassive hc).paid fun _ => ?_
    simp [CornerPart.supervised, hc, enterPassive_corner_state, CornerState.needsNoReason]
  unfold supervise
  split
  case h_4 hc hs =>
    split
    · rename_i hr
      refine (h.andReturnToControl hc hr).paid fun _ => ?_
      simp [CornerPart.supervised, hc, hr]
    · exact hself fun _ hn => by simp [hs, CornerState.needsNoReason] at hn
  case h_5 hcontrol hsuspended hrecal hpass =>
    refine hself fun hc hn => ?_
    cases hs : (q.corner c).state with
    | calibrating purpose b => cases purpose <;> simp_all [CornerState.needsNoReason]
    | _ => simp_all [CornerState.needsNoReason]
  all_goals
    rename_i hc hs
    split
    · rename_i hr
      exact hself fun _ _ => hr
    · exact hpassive hc

theorem andPutReason (h : KeptBut judged none p q) (which : Reason) (present : Bool) (c : Corner) :
    KeptBut judged none p (putReason which present c q) := KeptBut.andSupervise ((h.owing c).andReasons rfl rfl)

/-! ## The loaded condition (R113) -/

/-- Where the control state is as the loaded condition has it, no judgment is owed. -/
theorem judgedNow (h : KeptBut judged owed p q) (hs : q.control = .standby → q.loaded = true)
    (hu : q.control = .unloaded → q.loaded = false) : KeptBut true owed p q :=
  ⟨h.store, h.queues, h.events, h.schedule, h.supervised, fun hp => ⟨(h.load hp).complete, fun _ => hs, fun _ => hu⟩⟩

theorem andEnterUnloaded (h : KeptBut judged owed p q) (hs : SupervisedBut owed q → ∀ d, (q.corner d).state.unengaged = true)
    (hl : q.loaded = false) : KeptBut true owed p (enterUnloaded q) := by
  have hset : KeptBut true owed p (q.setControl .unloaded) :=
    h.andControl (fun hq d => hs hq d) fun _ => ⟨by simp, nofun, fun _ _ => hl⟩
  exact forCorners_keeps (fun c _ hq => hq.andUnprime c) hset

theorem andEnterStandby (h : KeptBut judged owed p q) (hs : SupervisedBut owed q → ∀ d, (q.corner d).state.unengaged = true)
    (hl : q.loaded = true) : KeptBut true owed p (q.setControl .standby) :=
  h.andControl (fun hq d => hs hq d) fun _ => ⟨by simp, fun _ _ => hl, nofun⟩

/-- The loaded condition is judged (R113). -/
theorem andJudgeLoaded (h : KeptBut judged none p q) : Kept p (judgeLoaded q) := by
  unfold judgeLoaded
  split
  · rename_i hc
    have hs := unengaged_of_supervisedBut (q := q) (.inl hc)
    split
    · exact h.andEnterStandby hs (by assumption)
    · exact h.judgedNow (by simp [hc]) fun _ => by simp_all
  · rename_i hc
    have hs := unengaged_of_supervisedBut (q := q) (.inr (.inl hc))
    split
    · exact h.judgedNow (fun _ => by assumption) (by simp [hc])
    · exact h.andEnterUnloaded hs (by simp_all)
  · rename_i hu hs
    exact h.judgedNow (fun hc => absurd hc hs) fun hc => absurd hc hu

theorem andSettleUnengaged (h : KeptBut judged owed p q)
    (hs : SupervisedBut owed q → ∀ d, (q.corner d).state.unengaged = true) : KeptBut true owed p (settleUnengaged q) := by
  unfold settleUnengaged
  split
  · exact h.andEnterStandby hs (by assumption)
  · exact h.andEnterUnloaded hs (by simp_all)

theorem andJudgeReleased (h : Kept p q) : Kept p (judgeReleased q) := by
  unfold judgeReleased
  split
  · rename_i hr
    refine h.andSettleUnengaged fun _ d => ?_
    have hd := (Quad.all_toList _ _).mp hr.2 d
    rcases (Bool.or_eq_true _ _).mp hd with hd | hd
    · exact congrArg CornerState.unengaged (of_decide_eq_true hd)
    · exact congrArg CornerState.unengaged (of_decide_eq_true hd)
  · exact h

end KeptBut

/-! ## The bank in use (R62, R133) -/

theorem inUse_modBank {k : Banks} {id : BankId} {f : Bank → Bank}
    (hf : (f (k.get id)).state = .active ↔ (k.get id).state = .active) : (k.modBank id f).inUse = k.inUse := by
  have hget (id' : BankId) : ((k.modBank id f).get id').state = .active ↔ (k.get id').state = .active := by
    cases id <;> cases id' <;> first | exact hf | exact Iff.rfl
  have hactive : (k.modBank id f).active = k.active := by cases id <;> rfl
  unfold Banks.inUse
  rw [hactive]
  cases k.active with
  | none => rfl
  | some id' => simp only [hget]

/-- What is done to the shadow leaves the bank in use. -/
theorem inUse_modBank_shadow (k : Banks) (f : Bank → Bank) : (k.modBank k.shadow f).inUse = k.inUse := by
  obtain ⟨a, b, active, pending⟩ := k
  cases active with
  | none => rfl
  | some id => cases id <;> rfl

theorem inUse_opened (k : Banks) (named : Bool) : (k.opened named).inUse = k.inUse := by
  cases named with
  | true => exact inUse_modBank_shadow k _
  | false =>
    have hdrop (b : Bank) :
        (if b.state = .loading then { b with state := .empty } else b : Bank).state = .active ↔ b.state = .active := by
      split <;> simp_all
    exact (inUse_modBank (k := k.modBank .a _) (id := .b) (hdrop _)).trans (inUse_modBank (hdrop _))

theorem inUse_reset (k : Banks) : k.reset.inUse = k.inUse := by
  have hreset (b : Bank) : b.reset.state = .active ↔ b.state = .active := by
    unfold Bank.reset
    split <;> simp_all
  exact (inUse_modBank (k := k.modBank .a Bank.reset) (id := .b) (hreset _)).trans (inUse_modBank (hreset _))

namespace KeptBut

variable {judged : Bool} {c : Corner} {p q : Part}

/-! ## The map store (chapters 4 and 8) -/

theorem andCorruptActive (h : Kept p q) (c : Corner) (id : BankId) : Kept p (corruptActive c id q) := by
  have hcanonical (hk : (q.corner c).banks.canonical) :
      ((q.corner c).banks.modBank id fun b => { b with state := .corrupt }).canonical :=
    Banks.canonical_modBank hk (fun b => by rfl) id
  exact andJudgeLoaded (andSupervise (andRaise ((h.owing c).andReload hcanonical rfl) _ _))

theorem andScrubCorner (h : Kept p q) (c : Corner) : Kept p (scrubCorner c q) := by
  unfold scrubCorner
  split
  · exact h
  · split
    · exact h
    · exact h.andCorruptActive c _

theorem andScrub (h : Kept p q) : Kept p (scrub q) :=
  have hscrubbed : Kept p (forCorners scrubCorner q) := forCorners_keeps (fun c _ hq => hq.andScrubCorner c) h
  hscrubbed.andSame rfl rfl

theorem andSwapEffect (h : Kept p q) (c : Corner) : Kept p (swapEffect c q) :=
  andJudgeLoaded (andRaise (andSupervise (andReasons ((h.owing c).andReload Banks.canonical_swap rfl) rfl rfl)) _ _)

theorem andSwapIfPending (h : Kept p q) (c : Corner) : Kept p (swapIfPending c q) := by
  unfold swapIfPending
  split
  · exact h.andSwapEffect c
  · exact h

theorem andMapOpen (h : Kept p q) (args : List Byte) : Kept p (mapOpen args q).1 := by
  unfold mapOpen
  split
  · rename_i m
    have hopened : Kept p (forCorners (fun c r => r.modCorner c (CornerPart.modBanks (Banks.opened ((cornersOf m).get c)))) q) :=
      forCorners_keeps (fun c _ hr => hr.andBanks (fun _ hk => Banks.canonical_opened hk _) (by rw [inUse_opened])) h
    split
    · dsimp only
      split
      · exact h
      · split
        · exact h
        · exact hopened.andSame rfl rfl
    · exact h
  · exact h

theorem andMapData (h : Kept p q) (args : List Byte) : Kept p (mapData args q).1 := by
  unfold mapData
  split
  · rename_i start count bytes
    split
    · exact h
    · rename_i hcount
      split
      · exact h
      · split
        · exact h
        · split
          · exact h
          · rename_i hwithin
            have hwords : start.toNat + (wordsOf bytes).length ≤ Config.imageWords := by
              rw [wordsOf_length count.toNat bytes (by omega)]
              omega
            have hloaded (c : Corner) (r : Part) (hr : Kept p r) :
                Kept p (if r.store.group.get c then
                  r.modCorner c (CornerPart.modBanks (Banks.load start.toNat (wordsOf bytes))) else r) := by
              split
              · exact hr.andBanks (fun _ hk => Banks.canonical_load hk hwords) (congrArg _ (inUse_modBank_shadow _ _))
              · exact hr
            exact (forCorners_keeps hloaded h).andSame rfl rfl
  · exact h

theorem andMapClose (h : Kept p q) (args : List Byte) : Kept p (mapClose args q).1 := by
  unfold mapClose
  split
  · rename_i k1 k0
    split
    · exact h
    · split
      · exact h
      · have hclosed (c : Corner) (r : Part) (hr : Kept p r) :
            Kept p (if r.store.group.get c then r.modCorner c (CornerPart.modBanks (Banks.closed (wordOf k1 k0))) else r) := by
          split
          · exact hr.andBanks (fun _ hk => Banks.canonical_closed hk _) (congrArg _ (inUse_modBank_shadow _ _))
          · exact hr
        exact (forCorners_keeps hclosed h).andSame rfl rfl
  · exact h

theorem andJudgeBank (h : Kept p q) (c : Corner) (rest : List Corner) (x : MapOutcome) (outcomes : Quad MapOutcome) :
    Kept p (judgeBank c rest x outcomes q) := by
  have hjudged : Kept p (q.modCorner c (CornerPart.modBanks (Banks.judged x))) :=
    h.andBanks (fun _ hk => Banks.canonical_judged hk x) (congrArg _ (inUse_modBank_shadow _ _))
  unfold judgeBank
  cases rest with
  | nil =>
    dsimp only
    refine andAnswerHeld ?_ _ _ _
    exact hjudged.andSame rfl rfl
  | cons d ds => exact hjudged.andSame rfl rfl

theorem andValidationReading (h : Kept p q) : Kept p (validationReading q) := by
  unfold validationReading
  split
  · exact h
  · exact h
  · split
    · exact h.andSame rfl rfl
    · exact h.andJudgeBank _ _ _ _

theorem andSwapAct (h : Kept p q) (o : SwapOutcome) (c : Corner) : Kept p (swapAct o c q) := by
  unfold swapAct
  split
  · exact h.andSwapEffect c
  · exact h.andBanks (fun _ hk => hk) rfl
  · exact h

theorem andMapSwap (h : Kept p q) (args : List Byte) : Kept p (mapSwap args q).1 := by
  unfold mapSwap
  split
  · split
    · dsimp only
      split
      · have hacted (o : Corner → SwapOutcome) : Kept p (forCorners (fun c => swapAct (o c) c) q) :=
          forCorners_keeps (fun c _ hq => hq.andSwapAct (o c) c) h
        dsimp only
        exact hacted _
      · exact h
    · exact h
  · exact h

theorem andReadFailure (h : Kept p q) (c : Corner) (id : BankId) : Kept p (readFailure c id q) := by
  unfold readFailure
  split
  · exact h.andCorruptActive c id
  · rename_i hready
    have hcanonical (k : Banks) (hk : k.canonical) : (k.modBank id fun b => { b with state := .empty }).canonical :=
      Banks.canonical_modBank hk (fun b => by rfl) id
    have hinUse : ((q.corner c).banks.modBank id fun b => { b with state := .empty }).inUse = (q.corner c).banks.inUse :=
      inUse_modBank (by simp [hready])
    exact h.andBanks hcanonical (congrArg Option.isSome hinUse)
  · exact h

theorem andMapRead (h : Kept p q) (args : List Byte) : Kept p (mapRead args q).1 := by
  unfold mapRead
  split
  · split
    · split
      · exact h
      · dsimp only
        split
        · exact h
        · split
          · exact h
          · exact h.andReadFailure _ _
    · exact h
  · exact h

end KeptBut

/-! ## What an update of a corner leaves for the supervisor -/

theorem heldUpdate_banks_state (k : CornerPart) (params : Params) (dropB dropW : Bool) :
    (k.heldUpdate params dropB dropW).banks = k.banks ∧ (k.heldUpdate params dropB dropW).state = k.state := by
  unfold CornerPart.heldUpdate
  dsimp only
  split
  · exact ⟨rfl, rfl⟩
  · split <;> exact ⟨rfl, rfl⟩

theorem sampleUpdate_banks_state (params : Params) (x : Sample) (dropB dropW : Bool) (k : CornerPart) :
    (sampleUpdate params x dropB dropW k).banks = k.banks ∧ (sampleUpdate params x dropB dropW k).state = k.state := by
  unfold sampleUpdate
  split
  · exact heldUpdate_banks_state k params dropB dropW
  · exact ⟨rfl, rfl⟩

/-- A suspicion counted (R100), before the corner is retried, recalibrated or faulted. -/
def suspected (c : Corner) (kind : FaultKind) (p : Part) : Part :=
  p.modCorner c (fun k => { k with
    diag := ((p.corner c).diag.inEpisode p.params.retryLimit p.tracker.record.number).suspect kind
    counters := { k.counters with retry := inc k.counters.retry } })

theorem judged_regulating {k : CornerPart} (h : k.judged = .regulating) : k.state = .control := by
  unfold CornerPart.judged at h
  split at h
  · assumption
  · exact nomatch h
  · exact nomatch h
  · split at h <;> exact nomatch h
  · exact nomatch h

namespace KeptBut

variable {c : Corner} {p q : Part}

/-- What comes about only under a condition. -/
theorem andWhen (h : Kept p q) (condition : Prop) [Decidable condition] {f : Part → Part} (hf : Kept p q → Kept p (f q)) :
    Kept p (if condition then f q else q) := by
  split
  · exact hf h
  · exact h

/-! ## Motion estimation and demand (chapters 2 and 3) -/

theorem andFeedChannel (h : Kept p q) (c : Corner) (ch : Channel) (v : Option Int) :
    Kept p (feedChannel c ch v q) := by
  have hfed : Kept p (q.modCorner c fun k => { k with stuck := k.stuck.set ch (q.fed c ch v) }) :=
    h.andQuiet fun _ => by rfl
  unfold feedChannel
  dsimp only
  split
  · exact hfed.andRaise _ _
  · exact hfed

theorem andFormTarget (h : Kept p q) (c : Corner) (demand : Nat) (apply : Bool) : Kept p (formTarget c demand apply q) := by
  unfold formTarget
  dsimp only
  split
  · exact h.andQuiet fun _ => by rfl
  · split
    · exact h.andQuiet fun _ => by rfl
    · refine andCorruptActive ?_ c _
      exact h.andQuiet fun _ => by rfl

theorem andFormDemand (h : Kept p q) (c : Corner) (sky ground apply : Bool) : Kept p (formDemand c sky ground apply q) := by
  have hselected : Kept p (q.setSelection (some q.selectBand)) := h.andSame rfl rfl
  exact andFormTarget (hselected.andQuiet fun _ => by rfl) c _ apply

theorem andDemandStep (h : Kept p q) (c : Corner) (sky ground : Bool) : Kept p (demandStep c sky ground q) := by
  unfold demandStep
  split
  · exact h.andFormDemand c sky ground true
  · exact h.andFormDemand c sky ground false
  · exact h.andQuiet fun _ => by rfl

theorem andAddComputed (h : Kept p q) (c : Corner) (fresh : Bool) : Kept p (addComputed c fresh q) := h.andSame rfl rfl

theorem andHeldComputation (h : Kept p q) (c : Corner) : Kept p (heldComputation c q) := by
  obtain ⟨hbanks, hstate⟩ := heldUpdate_banks_state (q.corner c) q.params false false
  have hheld : KeptBut true (some c) p (heldPart c q) := ((h.andAddComputed c false).owing c).andReasons hbanks hstate
  rw [heldComputation_eq]
  exact hheld.andSupervise.andDemandStep c _ _

theorem andFreshComputation (h : Kept p q) (c : Corner) (x : Sample) : Kept p (freshComputation c x q) := by
  have hcounted : Kept p (addComputed c true (countCorner c (fun k => { k with fresh := inc k.fresh }) q)) :=
    andAddComputed (h.andCountCorner c _) c true
  have hfed : Kept p (feedChannels c x (addComputed c true (countCorner c (fun k => { k with fresh := inc k.fresh }) q))) :=
    ((hcounted.andFeedChannel c .ab _).andFeedChannel c .aw _).andFeedChannel c .h _
  have hsampled : KeptBut true (some c) p (sampledPart c x q) := by
    unfold sampledPart
    dsimp only
    refine (hfed.owing c).andReasons ?_ ?_
    · exact (sampleUpdate_banks_state _ x _ _ _).1
    · exact (sampleUpdate_banks_state _ x _ _ _).2
  obtain ⟨sky, ground, heq⟩ := freshComputation_eq c x q
  rw [heq]
  exact hsampled.andSupervise.andDemandStep c sky ground

theorem andTakeSample (h : Kept p q) (c : Corner) (x : Sample) : Kept p (takeSample c x q) := by
  unfold takeSample
  split
  · exact h.andSame rfl rfl
  · exact h.andCountCorner c _
  · exact h.andCountCorner c _
  · exact h.andCountCorner c _
  · exact h.andFreshComputation c x

theorem andOfferSample (h : Kept p q) (c : Corner) (payload : List Byte) : Kept p (offerSample c payload q) := by
  unfold offerSample
  dsimp only
  split
  · exact h.andCountCorner c _
  · split
    · exact h.andCountCorner c _
    · split
      · exact h.andTakeSample c _
      · exact h

theorem andFeedAndSettle (h : Kept p q) (c : Corner) (ch : Channel) (v : Int) : Kept p (feedAndSettle c ch v q) :=
  (h.andFeedChannel c ch (some v)).andWhen _ fun hq => hq.andPutReason .sensor _ c

/-! ## Valve diagnosis and supply (chapter 6) -/

theorem andEndTest (h : Kept p q) (c : Corner) (x : TestOutcome) (r : TestRecord) : Kept p (endTest c x r q) :=
  (h.andTurnOff c).andAnswerHeld _ _ _

theorem andEnterFault (h : Kept p q) (c : Corner) (kind : FaultKind) : Kept p (enterFault c kind q) :=
  andJudgeReleased (andRaise (h.andUnengaged rfl rfl) _ _)

/-- A suspicion at a corner that regulates: a retry or a recalibration needs no reason either (R100, R122). -/
theorem andSuspicion (h : Kept p q) (c : Corner) (kind : FaultKind) (hs : (q.corner c).state = .control) :
    Kept p (suspicion c kind q) := by
  have hsuspected : Kept p (suspected c kind q) := h.andQuiet fun _ => by rfl
  have hneeds : ((suspected c kind q).corner c).state.needsNoReason = true := by
    rw [suspected, Part.corner_modCorner_self]
    exact congrArg CornerState.needsNoReason hs
  unfold suspicion
  dsimp only
  split
  · exact hsuspected.andCorner rfl (supervised_of_needs hneeds (by rfl))
  · split
    · exact hsuspected.andCorner rfl (supervised_of_needs hneeds (by rfl))
    · exact hsuspected.andEnterFault c kind

theorem andHandoffRegulating (h : Kept p q) (c : Corner) (im : Int) (hs : (q.corner c).state = .control) :
    Kept p (handoffRegulating c im q) := by
  have hruns (o s l : Nat) : Kept p (q.modCorner c fun k => k.setRuns o s l) := h.andQuiet fun _ => by rfl
  have hstate (o s l : Nat) : ((q.modCorner c fun k => k.setRuns o s l).corner c).state = .control := by
    rw [Part.corner_modCorner_self]
    exact hs
  unfold handoffRegulating
  dsimp only
  split
  · exact andSuspicion (hruns _ _ _) c _ (hstate _ _ _)
  · split
    · exact andSuspicion (hruns _ _ _) c _ (hstate _ _ _)
    · exact hruns _ _ _

theorem andHandoffTesting (h : Kept p q) (c : Corner) (im : Int) (r : TestRecord) : Kept p (handoffTesting c im r q) := by
  have hruns (o s l : Nat) (r : TestRecord) : Kept p (q.modCorner c fun k => { k.setRuns o s l with state := .test .drive r }) :=
    h.andUnengaged rfl rfl
  unfold handoffTesting
  dsimp only
  split
  · exact (hruns _ _ _ _).andEndTest c _ _
  · split
    · exact (hruns _ _ _ _).andEndTest c _ _
    · exact hruns _ _ _ _

theorem andHandoff (h : Kept p q) (c : Corner) (im : Int) : Kept p (handoff c im q) := by
  unfold handoff
  split
  · rename_i hj
    exact h.andHandoffRegulating c im (judged_regulating hj)
  · exact h.andHandoffTesting c im _
  · unfold handoffLeak
    split
    · exact h.andEnterFault c _
    · exact h.andQuiet fun _ => by rfl
  · exact h.andQuiet fun _ => by rfl

theorem andCountWindow (h : Kept p q) (c : Corner) (e : Episode) (w : Nat) : Kept p (countWindow c e w q) := by
  unfold countWindow
  split
  · exact andRaise (h.andQuiet fun _ => by rfl) _ _
  · exact h.andQuiet fun _ => by rfl

theorem andEpisodeAtCycleStart (h : Kept p q) (c : Corner) : Kept p (episodeAtCycleStart c q) := by
  unfold episodeAtCycleStart
  split
  · rename_i hs
    exact h.andCorner rfl (supervised_of_needs (congrArg CornerState.needsNoReason hs) (by rfl))
  · exact h.andCountWindow c _ _
  · exact h

theorem andAssertSupply (h : Kept p q) (detector : Byte) : Kept p (assertSupply detector q) :=
  forCorners_keeps (fun c _ hq => hq.andPutReason .supply true c) (h.andRaise .supply detector)

theorem andSupplySample (h : Kept p q) (mv : Nat) : Kept p (supplySample mv q) := by
  have hset : Kept p (q.setSupply (q.supply.step q.params mv)) := h.andSame rfl rfl
  exact ((hset.andWhen _ fun hq => hq.andAssertSupply 0).andWhen _ fun hq => hq.andAssertSupply 1).andWhen _ fun hq =>
    forCorners_keeps (fun c _ hr => hr.andPutReason .supply false c) hq

end KeptBut

theorem cornerAtEngaged_control (c : Corner) (p : Part) : (cornerAtEngaged c p).control = p.control := by
  unfold cornerAtEngaged
  split
  · split <;> simp
  · rfl

namespace KeptBut

variable {c : Corner} {p q : Part}

/-! ## The cycle tracker (chapter 1) -/

theorem andModTracker (h : Kept p q) (f : Tracker → Tracker) : Kept p (q.modTracker f) := h.andSame rfl rfl

theorem andModContext (h : Kept p q) (f : Context → Context) : Kept p (q.modContext f) := h.andSame rfl rfl

theorem andModGlobals (h : Kept p q) (f : GlobalCounters → GlobalCounters) : Kept p (q.modGlobals f) := h.andSame rfl rfl

theorem andReach (h : Kept p q) (t : Nat) : Kept p (q.reach t) := h.andSame rfl rfl

theorem andComputeHeld (h : Kept p q) (c : Corner) : Kept p (computeHeld c q) := by
  unfold computeHeld
  split
  · exact h.andHeldComputation c
  · exact h

theorem andCloseCycle (h : Kept p q) : Kept p (closeCycle q) := by
  have hcomputed : Kept p (forCorners computeHeld (q.modTracker Tracker.shut)) :=
    forCorners_keeps (fun c _ hq => hq.andComputeHeld c) (h.andModTracker Tracker.shut)
  have hstopped (r : Part) (hr : Kept p r) :
      Kept p (forCorners (fun c p => p.modCorner c fun k => { k with reg := k.reg.stopMean }) r) :=
    forCorners_keeps (fun c _ hr => hr.andQuiet fun _ => by rfl) hr
  unfold closeCycle
  exact hstopped _ (hcomputed.andPlaceReport _)

theorem andCloseOpen (h : Kept p q) : Kept p (closeOpen q) := by
  unfold closeOpen
  split
  · exact h
  · exact h.andCloseCycle

theorem andCornerAtCycleStart (h : Kept p q) (c : Corner) : Kept p (cornerAtCycleStart c q) := by
  have hstarted : Kept p (q.modCorner c fun k => { k with reg := k.reg.startMean }) := h.andQuiet fun _ => by rfl
  exact (hstarted.andSwapIfPending c).andEpisodeAtCycleStart c

theorem andCycleStart (h : Kept p q) (kind : StartKind) (number : Word) : Kept p (cycleStart kind number q) :=
  forCorners_keeps (fun c _ hq => hq.andCornerAtCycleStart c) (h.andModTracker _)

theorem andAdopt (h : Kept p q) (x : CycPayload) : Kept p (adopt x q) := (h.andModContext _).andModGlobals _

theorem andTakeCyc (h : Kept p q) (dst src : Byte) (x : CycPayload) : Kept p (takeCyc dst src x q) := by
  unfold takeCyc
  split
  · exact ((h.andAdopt x).andModTracker _).andModGlobals _
  · exact (((h.andCloseOpen.andAdopt x).andModTracker _).andCycleStart _ _).andPlaceWheelBound _

theorem andEnterUnlocked (h : Kept p q) : Kept p (enterUnlocked q) := by
  have hunprimed : Kept p (forCorners unprime (q.modTracker Tracker.unlock)) :=
    forCorners_keeps (fun c _ hq => hq.andUnprime c) (h.andModTracker Tracker.unlock)
  exact forCorners_keeps (fun c _ hq => hq.andPutReason .stale true c) hunprimed

theorem andEnterLocal (h : Kept p q) (cause : Byte) : Kept p (enterLocal cause q) :=
  ((h.andModTracker _).andModContext _).andRaise _ _

theorem andEnterHoldover (h : Kept p q) : Kept p (enterHoldover q) :=
  andModContext ((h.andModTracker _).andRaise _ _) _

theorem andOriginate (h : Kept p q) : Kept p (originate q) :=
  ((h.andCloseOpen.andCycleStart _ _).andModGlobals _).andSetSubstitute _

theorem andMissExpiry (h : Kept p q) : Kept p (missExpiry q) := by
  unfold missExpiry
  split
  · exact h
  · split
    · exact (h.andEnterHoldover.andModTracker _).andOriginate
    · exact h.andEnterUnlocked
  · split
    · exact (h.andModTracker _).andOriginate
    · exact (h.andEnterLocal 0).andOriginate
  · exact h.andOriginate

theorem andStopSubstitution (h : Kept p q) : Kept p (stopSubstitution q) := by
  unfold stopSubstitution
  split
  · exact h.andCloseOpen.andEnterUnlocked
  · exact h.andCloseOpen.andEnterUnlocked
  · exact h

/-- What the expiry of a timer does is kept where its effect is. -/
theorem andExpire (h : Kept p q) (timer : Option Nat) {f : Part → Part} (hf : ∀ r, Kept p r → Kept p (f r)) :
    Kept p (expire timer f q) := by
  unfold expire
  split
  · exact h
  · exact hf _ (h.andReach _)

/-! ## Engagement and release (chapter 7) -/

theorem andCornerAtEngaged (h : Kept p q) (hc : q.control = .engaged) (c : Corner) : Kept p (cornerAtEngaged c q) := by
  unfold cornerAtEngaged
  split
  · split
    · exact h.andReturnToControl hc (by assumption)
    · exact h.andEnterPassive hc
  · exact h

/-- From ENGAGING every corner fits ENGAGED, and the schedule is complete already. -/
theorem andEnterEngaged (h : Kept p q) (hc : q.control = .engaging) : Kept p (enterEngaged q) := by
  have hset : Kept p (q.setControl .engaged) :=
    h.andControl (fun hs d => supervised_of_unengaged (unengaged_of_supervisedBut (.inr (.inr hc)) hs d) _)
      fun hl => ⟨fun _ => hl.complete (.inl hc), nofun, nofun⟩
  have hcorners : Kept p (enterEngaged q) ∧ (enterEngaged q).control = .engaged :=
    forCorners_keeps (P := fun r => Kept p r ∧ r.control = .engaged)
      (fun c _ hr => ⟨hr.1.andCornerAtEngaged hr.2 c, (cornerAtEngaged_control c _).trans hr.2⟩) ⟨hset, rfl⟩
  exact hcorners.1

theorem andJudgeEngaged (h : Kept p q) : Kept p (judgeEngaged q) := by
  unfold judgeEngaged
  split
  · rename_i he
    exact h.andEnterEngaged he.1
  · exact h

theorem andCalibrationOutcome (h : Kept p q) (c : Corner) (sum : Nat) : Kept p (calibrationOutcome c sum q) := by
  have hconcluded : Kept p (q.modCorner c fun k => { k with reg := k.reg.conclude (candidateOf sum) }) :=
    h.andQuiet fun _ => by rfl
  unfold calibrationOutcome
  dsimp only
  split
  · refine andJudgeEngaged ?_
    split
    · exact hconcluded.andUnengaged rfl rfl
    · exact hconcluded.andEnterFault c _
  · rename_i hs
    split
    · refine hconcluded.andCorner rfl (supervised_of_needs ?_ (by rfl))
      rw [Part.corner_modCorner_self]
      exact congrArg CornerState.needsNoReason hs
    · exact hconcluded.andEnterFault c _
  · split
    · exact hconcluded.andUnengaged rfl rfl
    · exact hconcluded.andEndTest c _ _
  · exact hconcluded

theorem andRest (h : Kept p q) {b : Bool} (hs : (q.corner c).state = .passive b) : Kept p (q.modCorner c CornerPart.rest) :=
  h.andCorner rfl (supervised_of_passive hs (by rfl))

theorem andRampDone (h : Kept p q) (c : Corner) : Kept p (rampDone c q) := by
  unfold rampDone
  split
  · exact (h.andTurnOff c).andJudgeReleased
  · exact (h.andTurnOff c).andJudgeReleased
  · exact h.andRest (by assumption)
  · exact h.andQuiet fun _ => by rfl

theorem andLatchReport (h : Kept p q) (c : Corner) : Kept p (latchReport c q) := by
  unfold latchReport
  split
  · rename_i hs
    refine andSuspicion (h.andQuiet fun _ => by rfl) c _ ?_
    rw [Part.corner_modCorner_self]
    exact hs
  · exact (h.andTurnOff c).andJudgeReleased
  · exact (h.andTurnOff c).andJudgeReleased
  · exact h.andRest (by assumption)
  · exact h.andEndTest c _ _
  · exact h

theorem andBeginEngage (h : Kept p q) (c : Corner) : Kept p (q.modCorner c CornerPart.beginEngage) := h.andUnengaged rfl rfl

/-- STANDBY is loaded, so that the schedule is complete when ENGAGING begins (R43, R114). -/
theorem andEngaging (h : Kept p q) (hc : q.control = .standby) : Kept p (q.setControl .engaging) := by
  refine h.andControl (fun hs => unengaged_of_supervisedBut (.inr (.inl hc)) hs) fun hl => ⟨fun _ => ?_, nofun, nofun⟩
  have hloaded := hl.standby rfl hc
  exact (complete_iff _).mpr ((loaded_iff q).mp hloaded).2

theorem andEngage (h : Kept p q) (args : List Byte) : Kept p (engage args q).1 := by
  unfold engage
  split
  · split
    · exact h
    · rename_i hc
      split
      · exact h
      · have hset : Kept p ((q.setControl .engaging).setSelection none) :=
          andSame (h.andEngaging (not_not.mp hc)) rfl rfl
        refine andJudgeEngaged (forCorners_keeps (fun c r hr => ?_) hset)
        exact hr.andWhen _ fun hr => hr.andBeginEngage c
  · exact h

theorem andDropEngage (h : Kept p q) (c : Corner) : Kept p (q.modCorner c CornerPart.dropEngage) := by
  have hdrop (k : CornerPart) : k.dropEngage = k.turnOff ∨ k.dropEngage = k := ite_eq_or_eq _ _ _
  rcases hdrop (q.corner c) with hk | hk
  · exact h.andUnengaged (by rw [hk]; rfl) (by rw [hk]; rfl)
  · exact h.andCorner (by rw [hk]) (by rw [hk]; exact id)

theorem andReleaseCorner (h : Kept p q) (c : Corner) : Kept p (q.modCorner c CornerPart.release) := by
  have hrelease (k : CornerPart) : k.release = k.turnOff ∨ cornerForms k.release = cornerForms k := by
    unfold CornerPart.release
    split
    · exact .inr rfl
    · exact .inl rfl
    · exact .inl rfl
    · exact .inl rfl
    · exact .inr rfl
  rcases hrelease (q.corner c) with hk | hk
  · exact h.andUnengaged (by rw [hk]; rfl) (by rw [hk]; rfl)
  · simp only [cornerForms, Prod.mk.injEq] at hk
    obtain ⟨hbanks, hstate, hreasons⟩ := hk
    exact h.andCorner hbanks (supervised_of_forms hstate hreasons)

theorem andReleasing (h : Kept p q) : Kept p (q.setControl .releasing) :=
  h.andControl (fun _ _ => trivial) fun _ => ⟨by simp, nofun, nofun⟩

theorem andRelease (h : Kept p q) (args : List Byte) : Kept p (release args q).1 := by
  unfold release
  split
  · split
    · rename_i hc
      have hdropped : Kept p (forCorners (fun c r => r.modCorner c CornerPart.dropEngage) q) :=
        forCorners_keeps (fun c _ hr => hr.andDropEngage c) h
      exact hdropped.andSettleUnengaged (unengaged_of_supervisedBut (.inr (.inr hc)))
    · have hreleased : Kept p (forCorners (fun c r => r.modCorner c CornerPart.release) (q.setControl .releasing)) :=
        forCorners_keeps (fun c _ hr => hr.andReleaseCorner c) h.andReleasing
      exact (forCorners_keeps (fun c _ hr => hr.andUnprime c) hreleased).andStopSubstitution.andJudgeReleased
    · exact h
  · exact h

theorem andValveTest (h : Kept p q) (args : List Byte) : Kept p (valveTest args q).1 := by
  have hbegun (c : Corner) (r : TestRecord) : Kept p (q.modCorner c fun k => k.beginTest r) := h.andUnengaged rfl rfl
  unfold valveTest
  split
  · split
    · exact h
    · split
      · exact h
      · split
        · exact h
        · exact hbegun _ _
  · exact h

theorem andLeaveFault (h : Kept p q) (c : Corner) : Kept p (leaveFault c q) := by
  unfold leaveFault
  split
  · exact h.andBeginEngage c
  · rename_i hc
    split
    · exact h.andReturnToControl hc (by assumption)
    · exact h.andEnterPassive hc
  · exact h.andTurnOff c

theorem andClearFault (h : Kept p q) (args : List Byte) : Kept p (clearFault args q).1 := by
  unfold clearFault
  split
  · split
    · exact h
    · split
      · exact h
      · exact andLeaveFault (h.andQuiet fun _ => by rfl) _
  · exact h

/-! ## The valve regulators (chapter 5) -/

theorem andRegulatorPeriodStart (h : Kept p q) (c : Corner) : Kept p (regulatorPeriodStart c q) := by
  have hadvanced : Kept p (q.modCorner c fun k => { k with reg := k.reg.advance q.params }) := h.andQuiet fun _ => by rfl
  unfold regulatorPeriodStart
  refine andQuiet ?_ fun _ => by rfl
  exact hadvanced.andWhen _ fun hr => hr.andRampDone c

theorem andPeriodStart (h : Kept p q) (mv : Nat) : Kept p (periodStart mv q) := by
  have hstarted : Kept p ((q.modPwm fun w => w.start q.params).modPins fun x => { x with supplyMv := mv }) := h.andSame rfl rfl
  have hregulated := forCorners_keeps (fun c _ hr => hr.andRegulatorPeriodStart c) hstarted
  exact (hregulated.andScrub.andSupplySample mv).andValidationReading

theorem andConcludeCalibration (h : Kept p q) (c : Corner) : Kept p (concludeCalibration c q) := by
  unfold concludeCalibration
  split
  · split
    · exact h.andCalibrationOutcome c _
    · exact h
  · exact h

theorem andPass (h : Kept p q) (w : Pwm) : Kept p (q.pass w) := h.andSame rfl rfl

theorem andModPins (h : Kept p q) (f : Pins → Pins) : Kept p (q.modPins f) := h.andSame rfl rfl

theorem andCurrentSample (h : Kept p q) (c : Corner) (raw : BitVec 12) : Kept p (currentSample c raw q) := by
  unfold currentSample
  refine andConcludeCalibration (andHandoff ?_ c _) c
  exact ((h.andPass _).andModPins _).andQuiet fun _ => by rfl

theorem andLatchTrip (h : Kept p q) (c : Corner) : Kept p (latchTrip c q) :=
  andLatchReport (h.andQuiet fun _ => by rfl) c

theorem andLimitTrip (h : Kept p q) (c : Corner) : Kept p (limitTrip c q) := by
  unfold limitTrip
  split
  · exact h
  · exact andRaise (h.andQuiet fun _ => by rfl) _ _

theorem andOvercurrentTrip (h : Kept p q) (c : Corner) (raw : BitVec 12) : Kept p (overcurrentTrip c raw q) := by
  have hreached : Kept p (reachTrip c raw q) := (h.andModPins _).andPass _
  have htripped : Kept p ((reachTrip c raw q).modCorner c fun k => { k with reg := k.reg.trip }) :=
    hreached.andQuiet fun _ => by rfl
  unfold overcurrentTrip
  dsimp only
  split
  · exact (htripped.andCountCorner c _).andLatchTrip c
  · exact (htripped.andCountCorner c _).andLimitTrip c

theorem andEndByCause (h : Kept p q) (c : Corner) (cause : TestEndCause) : Kept p (endByCause c cause q) := by
  cases cause with
  | handoff im => exact h.andHandoff c im
  | trip => exact h.andLatchTrip c
  | calibration raw => exact h.andCalibrationOutcome c _

end KeptBut

/-! ## The resets (chapter 7, R131, R160) -/

/-- A slot that a link reset leaves HELD was HELD. -/
theorem abandonedSlot_le (slot : Option HeldOrder) :
    (if (abandonedSlot slot).isSome then 1 else 0) ≤ (if slot.isSome then 1 else 0) := by
  unfold abandonedSlot
  split
  · split <;> simp
  · exact le_rfl

namespace KeptBut

variable {c : Corner} {p q r : Part}

/-- After a reset every corner is OFF, and the control state is judged on the banks as they stand. -/
theorem andReset (h : Kept p q) (hstate : ∀ c, (r.corner c).state = .off)
    (hbanks : ∀ c, (q.corner c).banks.canonical → (r.corner c).banks.canonical)
    (hcontrol : r.control = if r.loaded then .standby else .unloaded) (hschedule : q.schedule.sound → r.schedule.sound)
    (hevents : eventsSound r.events) (hqueues : QueuesKept q r) : Kept p r where
  store hp c := hbanks c (h.store hp c)
  queues := h.queues.trans hqueues
  events _ := hevents
  schedule hp := hschedule (h.schedule hp)
  supervised _ c _ := supervised_of_unengaged (by rw [hstate]; rfl) _
  load _ := by
    cases hl : r.loaded with
    | true =>
      have hc : r.control = .standby := by simpa [hl] using hcontrol
      exact ⟨by simp [hc], fun _ _ => hl, by simp [hc]⟩
    | false =>
      have hc : r.control = .unloaded := by simpa [hl] using hcontrol
      exact ⟨by simp [hc], by simp [hc], fun _ _ => hl⟩

theorem andSoftResetWith (h : Kept p q) (cause : Byte) : Kept p (softResetWith cause q) := by
  have hcorner (c : Corner) : (softResetWith cause q).corner c = (q.corner c).softReset q.supply := Quad.get_map _ _ _
  refine h.andReset (fun c => ?_) (fun c hk => ?_) rfl id (eventsSound_single _ _ _) ⟨?_, ?_, ?_⟩
  · rw [hcorner]
    rfl
  · rw [hcorner]
    exact Banks.canonical_reset hk
  · exact fun _ => Nat.zero_le _
  · exact fun _ => Nat.zero_le _
  · exact Nat.zero_le _

theorem andLinkResetStore (h : Kept p q) : Kept p (linkResetStore q) := by
  have hbanks : Kept p (forCorners (fun c r => r.modCorner c (CornerPart.modBanks Banks.reset)) q) :=
    forCorners_keeps (fun c _ hr => hr.andBanks (fun _ hk => Banks.canonical_reset hk) (by rw [inUse_reset])) h
  exact hbanks.andQueues rfl ⟨id, id, Nat.add_le_add_left (abandonedSlot_le q.slot) _⟩

theorem andClearLink (h : Kept p q) : Kept p (clearLink q) := by
  have hflushed : Kept p (q.modLink Link.flush) := h.andQueues rfl ⟨fun _ => Nat.zero_le _, fun _ => Nat.zero_le _, le_rfl⟩
  have hcleared := (hflushed.andModPort .s PortPart.clearSupervision).andModPort .w PortPart.clearSupervision
  unfold clearLink
  split
  · exact forCorners_keeps (fun c _ hr => hr.andPutReason .link false c) hcleared
  · exact hcleared

theorem andTakeLinkReset (h : Kept p q) (f : Frame) : Kept p (takeLinkReset f q) := by
  unfold takeLinkReset
  refine andPlaceWheelBound (andClearLink ?_) f
  split
  · exact h.andSoftResetWith 2
  · exact h.andLinkResetStore

theorem andPowerOn (h : Kept p q) (straps : BitVec 2) (pins : Pins) : Kept p (.powerOn straps pins) := by
  have hcorner (c : Corner) : (Part.powerOn straps pins).corner c = .powerOn := Quad.get_fill _ _
  refine h.andReset (fun c => ?_) (fun c _ => ?_) rfl (fun _ m => ?_) (eventsSound_single _ _ _) ⟨?_, ?_, ?_⟩
  · rw [hcorner]
    rfl
  · rw [hcorner]
    exact ⟨rfl, rfl⟩
  · cases m <;> exact sound_absent
  · exact fun _ => Nat.zero_le _
  · exact fun _ => Nat.zero_le _
  · exact Nat.zero_le _

theorem andHoldWritten (h : Kept p q) (c : Corner) : Kept p (holdWritten c q) := by
  unfold holdWritten
  split
  · exact (h.andUnprime c).andPutReason .stale true c
  · exact h

theorem andWriteEffect (h : Kept p q) (id : ParamId) : Kept p (writeEffect id q) := by
  have hrebound : Kept p (reboundAll q) := forCorners_keeps (fun c _ hr => hr.andQuiet fun _ => by rfl) h
  unfold writeEffect
  split
  · exact hrebound
  · exact hrebound
  · exact forCorners_keeps (P := Kept p) (fun c _ hr => hr.andHoldWritten c) h
  · exact h

end KeptBut

/-! ## The orders (chapter 10) -/

/-- What an order does before it is answered keeps the forms and takes no reply place. -/
def HandlerKept (handler : Handler) : Prop := ∀ (p : Part) (args : List Byte), Kept p (handler args p).1

theorem handlerKept_queryStatus : HandlerKept queryStatus := by
  intro p args
  unfold queryStatus
  split
  · split
    · exact .refl p
    · split
      · split <;> exact .refl p
      · exact .refl p
  · exact .refl p

theorem handlerKept_readParam : HandlerKept readParam := by
  intro p args
  unfold readParam
  split
  · split <;> exact .refl p
  · exact .refl p

theorem handlerKept_writeParam : HandlerKept writeParam := by
  intro p args
  have hstored (id : ParamId) (v : Nat) : Kept p (storeParam id v p) := (Kept.refl p).andSame rfl rfl
  unfold writeParam
  split
  · split
    · exact .refl p
    · split
      · exact .refl p
      · exact (hstored _ _).andWriteEffect _
  · exact .refl p

/-- A band written in a mode's schedule leaves complete a schedule that was. -/
theorem complete_setBand {x : Schedule} (h : x.complete = true) (m : Mode) {n : Nat} (hn : n ≤ 7) {e : BandEntry}
    (he : e.present = true) : (x.set m ((x.get m).set n e)).complete = true := by
  refine (complete_iff _).mpr fun m' => ?_
  have hm := (complete_iff x).mp h
  rw [get_setBands]
  split
  · rw [get_setBand _ hn]
    split
    · exact he
    · exact hm m
  · exact hm m'

theorem handlerKept_gainWrite : HandlerKept gainWrite := by
  intro p args
  unfold gainWrite
  split
  · split
    · exact .refl p
    · rename_i m _
      dsimp only
      split
      · rename_i ha
        have hadmissible := (admits_iff _ _ _).mp ha
        have hwritten := (Kept.refl p).andSchedule (fun hs => sound_setBands hs (sound_setBand (hs m) rfl hadmissible) m)
          fun _ hcomplete => complete_setBand hcomplete m hadmissible.1 rfl
        exact hwritten.andJudgeLoaded
      · exact .refl p
  · exact .refl p

theorem handlerKept_gainClear : HandlerKept gainClear := by
  intro p args
  unfold gainClear
  split
  · split
    · exact .refl p
    · rename_i m _
      split
      · exact .refl p
      · exact .refl p
      · rename_i hengaging hengaged
        have hcleared := (Kept.refl p).andSchedule (fun hs => sound_setBands hs sound_absent m)
          fun hc _ => absurd hc (not_or.mpr ⟨hengaging, hengaged⟩)
        exact KeptBut.andJudgeLoaded (q := (p.setSchedule _).setSelection none) (hcleared.andSame rfl rfl)
  · exact .refl p

theorem handlerKept_fetchEvent : HandlerKept fetchEvent := by
  intro p args
  unfold fetchEvent
  split
  · split
    · exact .refl p
    · rename_i hevents
      exact (Kept.refl p).andEvents fun hs => eventsSound_tail (hevents ▸ hs)
  · exact .refl p

theorem handlerKept_readCounters : HandlerKept readCounters := by
  have hclear (p : Part) (g : CounterGroup) : Kept p (g.clear p) := by
    cases g with
    | port x => exact (Kept.refl p).andCountPort x fun _ => .zero
    | corner c => exact (Kept.refl p).andCountCorner c fun _ => .zero
    | whole => exact (Kept.refl p).andModGlobals fun _ => .zero
  intro p args
  unfold readCounters
  split
  · split
    · exact .refl p
    · split
      · exact .refl p
      · split
        · exact hclear p _
        · exact .refl p
  · exact .refl p

theorem handlerKept_softReset : HandlerKept softReset := by
  intro p args
  unfold softReset
  split
  · exact (Kept.refl p).andSoftResetWith 1
  · exact .refl p

theorem handlerKept_mapOpen : HandlerKept mapOpen := fun p => (Kept.refl p).andMapOpen

theorem handlerKept_mapData : HandlerKept mapData := fun p => (Kept.refl p).andMapData

theorem handlerKept_mapClose : HandlerKept mapClose := fun p => (Kept.refl p).andMapClose

theorem handlerKept_mapSwap : HandlerKept mapSwap := fun p => (Kept.refl p).andMapSwap

theorem handlerKept_mapRead : HandlerKept mapRead := fun p => (Kept.refl p).andMapRead

theorem handlerKept_engage : HandlerKept engage := fun p => (Kept.refl p).andEngage

theorem handlerKept_release : HandlerKept release := fun p => (Kept.refl p).andRelease

theorem handlerKept_valveTest : HandlerKept valveTest := fun p => (Kept.refl p).andValveTest

theorem handlerKept_clearFault : HandlerKept clearFault := fun p => (Kept.refl p).andClearFault

theorem handlerKept_unknownOrder : HandlerKept unknownOrder := fun p _ => .refl p

theorem HandlerKept.ite {f g : Handler} (hf : HandlerKept f) (condition : Prop) [Decidable condition] (hg : HandlerKept g) :
    HandlerKept (if condition then f else g) := by
  split
  · exact hf
  · exact hg

/-- Every order keeps the forms, whatever its code. -/
theorem handlerKept_orderHandler (code : Byte) : HandlerKept (orderHandler code) :=
  handlerKept_queryStatus.ite _ <| handlerKept_readParam.ite _ <| handlerKept_writeParam.ite _ <|
  handlerKept_gainWrite.ite _ <| handlerKept_gainClear.ite _ <| handlerKept_mapOpen.ite _ <| handlerKept_mapData.ite _ <|
  handlerKept_mapClose.ite _ <| handlerKept_mapSwap.ite _ <| handlerKept_mapRead.ite _ <| handlerKept_engage.ite _ <|
  handlerKept_release.ite _ <| handlerKept_valveTest.ite _ <| handlerKept_clearFault.ite _ <|
  handlerKept_fetchEvent.ite _ <| handlerKept_readCounters.ite _ <| handlerKept_softReset.ite _ handlerKept_unknownOrder

theorem forms_settleOrder (o : OrderIn) (code : Byte) (r : Part × Answer) : forms (settleOrder o code r) = forms r.1 := by
  unfold settleOrder
  split
  · exact forms_arbitrateS _
  · rfl

/-- An order is settled into a place that is left: its reply takes it, or its reservation does (R154, R164). -/
theorem queuesSound_settleOrder (o : OrderIn) (code : Byte) {r : Part × Answer} (h : r.1.queuesSound)
    (hp : placesTaken r.1 < Config.replyPlaces) : (settleOrder o code r).queuesSound := by
  unfold settleOrder
  split
  · exact queuesSound_placeReply _ h hp
  · exact ⟨h.wheelBound, h.chassisBound, (Nat.add_le_add_right (Nat.le_add_right _ _) 1).trans hp⟩

theorem formsKept_settleOrder (o : OrderIn) (code : Byte) {p : Part} {r : Part × Answer} (h : Kept p r.1)
    (hp : placesTaken p < Config.replyPlaces) : FormsKept p (settleOrder o code r) :=
  h.formsKept.trans <| .of_forms (forms_settleOrder o code r) fun hq =>
    queuesSound_settleOrder o code hq (h.queues.places.trans_lt hp)

theorem placesTaken_lt {p : Part} (h : availablePlaces p ≠ 0) : placesTaken p < Config.replyPlaces := by
  unfold availablePlaces at h
  unfold placesTaken
  omega

theorem formsKept_takeOrder (o : OrderIn) (code : Byte) {handler : Handler} (hh : HandlerKept handler) (p : Part) :
    FormsKept p (takeOrder o code handler p) := by
  unfold takeOrder
  split
  · exact (((Kept.refl p).andModGlobals _).andRaise _ _).formsKept
  · rename_i hplaces
    have hp := placesTaken_lt hplaces
    split
    · exact formsKept_settleOrder o code (.refl p) hp
    · exact formsKept_settleOrder o code (hh p o.args) hp

theorem formsKept_orderArrival (o : OrderIn) (code : Byte) {handler : Handler} (hh : HandlerKept handler) (p : Part) :
    FormsKept p (orderArrival o code handler p) :=
  ((Kept.refl p).andGoodFrame .s).formsKept.trans (formsKept_takeOrder o code hh _)

namespace KeptBut

variable {p q : Part}

/-! ## The ports (chapter 9) -/

theorem andRouteW (h : Kept p q) (f : Frame) : Kept p (routeW f q) := by
  have hoffered : Kept p (offerBySource f q) := by
    unfold offerBySource
    split
    · exact h.andOfferSample _ _
    · exact h
  unfold routeW
  split
  · exact hoffered.andPlaceChassisBound f
  · split
    · exact h.andCountPort .w _
    · exact h.andPlaceChassisBound f

theorem andRouteCyc (h : Kept p q) (f : Frame) : Kept p (routeCyc f q) := by
  unfold routeCyc
  split
  · exact h.andTakeCyc _ _ _
  · exact h.andPlaceWheelBound f

theorem andCompleteSending (h : Kept p q) (x : Port) (f : Sending) : Kept p (completeSending x f q) := by
  have hidle : Kept p ((q.reach f.doneAt).modPort x fun k => { k with sending := none }) := (h.andReach _).andModPort x _
  cases x with
  | s => exact hidle.andArbitrateS
  | w => exact hidle.andArbitrateW

theorem andLosAsserted (h : Kept p q) (x : Port) : Kept p (losAsserted x q) := by
  cases x with
  | s =>
    unfold losAsserted
    dsimp only
    split
    · exact (h.andRaise _ _).andEnterLocal 1
    · exact h.andRaise _ _
  | w => exact forCorners_keeps (fun c _ hr => hr.andPutReason .link true c) (h.andRaise (.linkLos .w) 0)

theorem andLosCleared (h : Kept p q) (x : Port) : Kept p (losCleared x q) := by
  cases x with
  | s => exact h
  | w => exact forCorners_keeps (fun c _ hr => hr.andPutReason .link false c) h

theorem andJudgeLos (h : Kept p q) (x : Port) : Kept p (judgeLos x q) := by
  have hjudged : Kept p (q.modPort x fun _ => (q.port x).judge q.params.losTime) := h.andModPort x _
  unfold judgeLos
  dsimp only
  split
  · exact hjudged.andLosAsserted x
  · split
    · exact hjudged.andLosCleared x
    · exact hjudged

theorem andWindowEnd (h : Kept p q) (x : Port) : Kept p (windowEnd x q) := by
  have hended : Kept p (q.modPort x fun k => k.endWindow q.params) := h.andModPort x _
  unfold windowEnd
  dsimp only
  split
  · exact hended.andRaise _ _
  · exact hended

theorem andIntervalEnd (h : Kept p q) (x : Port) : Kept p (intervalEnd x q) := by
  have hmarked : Kept p ((judgeLos x q).modPort x fun k => { k with goodMark := false }) := (h.andJudgeLos x).andModPort x _
  unfold intervalEnd windowStep
  split
  · exact hmarked.andWindowEnd x
  · exact hmarked.andModPort x _

end KeptBut

theorem formsKept_routeS (f : Frame) (p : Part) : FormsKept p (routeS f p) := by
  unfold routeS
  split
  · exact ((Kept.refl p).andRouteCyc f).formsKept
  · split
    · exact ((Kept.refl p).andTakeLinkReset f).formsKept
    · split
      · split
        · exact formsKept_takeOrder _ _ (handlerKept_orderHandler _) p
        · exact ((Kept.refl p).andCountPort .s _).formsKept
      · exact ((Kept.refl p).andPlaceWheelBound f).formsKept

theorem formsKept_goodArrival (x : Port) (f : Frame) (p : Part) : FormsKept p (goodArrival x f p) := by
  cases x with
  | s => exact ((Kept.refl p).andGoodFrame .s).formsKept.trans (formsKept_routeS f _)
  | w => exact (((Kept.refl p).andGoodFrame .w).andRouteW f).formsKept

theorem formsKept_receiveRun (x : Port) (run : List Byte) (p : Part) : FormsKept p (receiveRun x run p) := by
  unfold receiveRun
  split
  · exact (((Kept.refl p).andModPort x _).andCountPort x _).formsKept
  · exact (((Kept.refl p).andModPort x _).andCountPort x _).formsKept
  · exact formsKept_goodArrival x _ p

/-! ## Every step -/

/-- What comes about only under a condition keeps the forms where its effect does. -/
theorem formsKept_onlyWhen (condition : Part → Bool) {f : Part → Part} {p : Part} (hf : Kept p p → Kept p (f p)) :
    FormsKept p (onlyWhen condition f p) :=
  (onlyWhen_keeps (P := Kept p) (.refl p) fun _ h => hf h).formsKept

theorem formsKept_of_next {p q : Part} {l : List Instr} {t : State} (hq : FormsKept p q)
    (h : Host.Outcome.next (⟨q, l⟩ : State) = (.next t : Host.Outcome State Fault Refusal)) : FormsKept p t.part := by
  cases h
  exact hq

/-- Every command keeps the forms. -/
theorem formsKept_exec (i : Instr) {s t : State} (h : exec i s = .next t) : FormsKept s.part t.part := by
  have hrefl : Kept s.part s.part := .refl s.part
  cases i with
  | powerOnReset straps => exact formsKept_of_next (hrefl.andPowerOn straps _).formsKept h
  | cycArrival instant dst src cyc =>
    exact formsKept_of_next (((hrefl.andReach instant).andGoodFrame .s).andTakeCyc dst src cyc).formsKept h
  | missTimerExpiry => exact formsKept_of_next (hrefl.andExpire _ fun _ hr => hr.andMissExpiry).formsKept h
  | deadlineExpiry =>
    have hclosed (r : Part) (hr : Kept s.part r) : Kept s.part
        (if r.tracker.record.closed then r.modTracker (fun t => { t with deadlineAt := none }) else closeCycle r) := by
      split
      · exact hr.andModTracker _
      · exact hr.andCloseCycle
    exact formsKept_of_next (hrefl.andExpire _ hclosed).formsKept h
  | holdLimitCrossed c => exact formsKept_of_next (formsKept_onlyWhen _ fun hp => hp.andHeldComputation c) h
  | sampleArrival dst src payload => exact formsKept_of_next ((hrefl.andGoodFrame .w).andRouteW _).formsKept h
  | channelStuck c ch v => exact formsKept_of_next (formsKept_onlyWhen _ fun hp => hp.andFeedAndSettle c ch v) h
  | channelRelease c ch v => exact formsKept_of_next (formsKept_onlyWhen _ fun hp => hp.andFeedAndSettle c ch v) h
  | linkReset dst src payload => exact formsKept_of_next ((hrefl.andGoodFrame .s).andTakeLinkReset _).formsKept h
  | frameReceived instant x run =>
    exact formsKept_of_next ((hrefl.andReach instant).formsKept.trans (formsKept_receiveRun x run _)) h
  | transmissionComplete x =>
    refine formsKept_of_next ?_ h
    dsimp only
    split
    · exact hrefl.formsKept
    · exact (hrefl.andCompleteSending x _).formsKept
  | queryStatus o => exact formsKept_of_next (formsKept_orderArrival o _ handlerKept_queryStatus _) h
  | readParam o => exact formsKept_of_next (formsKept_orderArrival o _ handlerKept_readParam _) h
  | writeParam o => exact formsKept_of_next (formsKept_orderArrival o _ handlerKept_writeParam _) h
  | gainWrite o => exact formsKept_of_next (formsKept_orderArrival o _ handlerKept_gainWrite _) h
  | gainClear o => exact formsKept_of_next (formsKept_orderArrival o _ handlerKept_gainClear _) h
  | mapOpen o => exact formsKept_of_next (formsKept_orderArrival o _ handlerKept_mapOpen _) h
  | mapData o => exact formsKept_of_next (formsKept_orderArrival o _ handlerKept_mapData _) h
  | mapClose o => exact formsKept_of_next (formsKept_orderArrival o _ handlerKept_mapClose _) h
  | validationBankJudged => exact formsKept_of_next (formsKept_onlyWhen _ fun hp => hp.andValidationReading) h
  | mapSwap o => exact formsKept_of_next (formsKept_orderArrival o _ handlerKept_mapSwap _) h
  | mapRead o => exact formsKept_of_next (formsKept_orderArrival o _ handlerKept_mapRead _) h
  | engage o => exact formsKept_of_next (formsKept_orderArrival o _ handlerKept_engage _) h
  | release o => exact formsKept_of_next (formsKept_orderArrival o _ handlerKept_release _) h
  | valveTest o => exact formsKept_of_next (formsKept_orderArrival o _ handlerKept_valveTest _) h
  | valveTestEnd c cause => exact formsKept_of_next (formsKept_onlyWhen _ fun hp => hp.andEndByCause c cause) h
  | clearFault o => exact formsKept_of_next (formsKept_orderArrival o _ handlerKept_clearFault _) h
  | fetchEvent o => exact formsKept_of_next (formsKept_orderArrival o _ handlerKept_fetchEvent _) h
  | readCounters o => exact formsKept_of_next (formsKept_orderArrival o _ handlerKept_readCounters _) h
  | softReset o => exact formsKept_of_next (formsKept_orderArrival o _ handlerKept_softReset _) h
  | unknownOrder o code => exact formsKept_of_next (formsKept_orderArrival o code handlerKept_unknownOrder _) h
  | pwmPeriodStart mv => exact formsKept_of_next (hrefl.andPeriodStart mv).formsKept h
  | supplyLowAssert mv => exact formsKept_of_next (formsKept_onlyWhen _ fun hp => hp.andSupplySample mv) h
  | supplyLowClear mv => exact formsKept_of_next (formsKept_onlyWhen _ fun hp => hp.andSupplySample mv) h
  | rampComplete c =>
    exact formsKept_of_next (formsKept_onlyWhen _ fun hp => KeptBut.andRampDone (hp.andQuiet fun _ => by rfl) c) h
  | currentSample c raw => exact formsKept_of_next (formsKept_onlyWhen _ fun hp => hp.andCurrentSample c raw) h
  | openCondition c im => exact formsKept_of_next (formsKept_onlyWhen _ fun hp => hp.andHandoff c im) h
  | shortSuspicion c im => exact formsKept_of_next (formsKept_onlyWhen _ fun hp => hp.andHandoff c im) h
  | leakFault c im => exact formsKept_of_next (formsKept_onlyWhen _ fun hp => hp.andHandoff c im) h
  | calibrationComplete c raw =>
    have hdone := formsKept_onlyWhen (p := s.part) (completionDue c)
      (f := fun p => calibrationOutcome c ((p.corner c).reg.calibrationSum + raw.toNat) p) fun hp => hp.andCalibrationOutcome c _
    exact formsKept_of_next hdone h
  | overcurrentTrip c raw ticks => exact formsKept_of_next (formsKept_onlyWhen _ fun hp => hp.andOvercurrentTrip c raw) h
  | episodeRecovered c => exact formsKept_of_next (formsKept_onlyWhen _ fun hp => hp.andEpisodeAtCycleStart c) h
  | supervisionIntervalEnd =>
    have hset : Kept s.part ((s.part.reach s.part.intervalAt).setIntervalAt (s.part.intervalAt + Config.supervisionTicks)) :=
      hrefl.andSame rfl rfl
    exact formsKept_of_next ((hset.andIntervalEnd .s).andIntervalEnd .w).formsKept h
  | losAssert x => exact formsKept_of_next (formsKept_onlyWhen _ fun hp => hp.andJudgeLos x) h
  | losClear x => exact formsKept_of_next (formsKept_onlyWhen _ fun hp => hp.andJudgeLos x) h
  | qualityWindowEnd x => exact formsKept_of_next (formsKept_onlyWhen _ fun hp => hp.andWindowEnd x) h
  | wordUpset c id word value =>
    have hcanonical (k : Banks) (hk : k.canonical) : (k.modBank id fun b => b.upset word value).canonical :=
      Banks.canonical_upset hk id word value
    exact formsKept_of_next (hrefl.andBanks hcanonical (congrArg Option.isSome (inUse_modBank Iff.rfl))).formsKept h

/-- Every step keeps the forms: a command, or a tick, which moves only the clock, the counter and the comparators. -/
theorem formsKept_step {s t : State} (h : step s = .next t) : FormsKept s.part t.part := by
  unfold step at h
  split at h
  · cases h
    exact ((Kept.refl s.part).andSame (r := s.part.tick) rfl rfl).formsKept
  · have hkept := formsKept_exec _ h
    exact hkept

/-- Settles O55: the structures are four of the forms every step keeps. -/
theorem structuresKept : Obligations.StructuresKept := by
  intro s t h
  have hkept := formsKept_step h
  exact ⟨hkept.store, hkept.queues, hkept.events, hkept.schedule⟩

/-- Settles O58: supervision and the loaded condition are two of the forms every step keeps. -/
theorem supervisionKept : Obligations.SupervisionKept := by
  intro s t h
  have hkept := formsKept_step h
  exact ⟨hkept.supervised, hkept.load⟩

end Sys2Proof.Upkeep

/-! # Damper maps and interpolation (chapters 4 and 8, and the period start of chapter 5) -/

namespace Sys2Proof.DamperMaps

open Sys2Proof Sys2Proof.Machine Sys2Proof.Claims

/-! ## The stored words (R69) -/

@[simp] theorem get_modBank_self (k : Banks) (id : BankId) (f : Bank → Bank) : (k.modBank id f).get id = f (k.get id) := by
  cases id <;> rfl

theorem get_modBank_of_ne {id id' : BankId} (h : id' ≠ id) (k : Banks) (f : Bank → Bank) :
    (k.modBank id f).get id' = k.get id' := by
  cases id <;> cases id' <;> first | rfl | exact absurd rfl h

/-- An update of a bank is what it makes of the bank as it stands. -/
theorem modBank_congr {k : Banks} {id : BankId} {f g : Bank → Bank} (h : f (k.get id) = g (k.get id)) :
    k.modBank id f = k.modBank id g := by
  cases id
  · exact congrArg (fun b : Bank => { k with a := b }) h
  · exact congrArg (fun b : Bank => { k with b := b }) h

/-- A word that is not blank reads back from any store, canonical or not, and no other word reads differently. -/
theorem memRead_memWrite_of_ne_blank {w : StoredWord} (hw : w ≠ blankWord) (n k : Nat) (m : WordMem) :
    memRead (memWrite m n w) k = if k = n then w else memRead m k := by
  induction m with
  | nil => simp [memWrite, hw, memRead, eq_comm]
  | cons x rest ih =>
    obtain ⟨i, y⟩ := x
    simp only [memWrite, if_neg hw]
    split
    · rename_i hin
      subst hin
      simp only [memRead, eq_comm (a := k)]
      split <;> rfl
    · split
      · simp only [memRead, eq_comm (a := k)]
      · rw [memRead, ih, memRead]
        split <;> split <;> simp_all

/-- Settles O53: an upset word is never the blank word, so it reads back whatever the store. -/
theorem wordUpset : Obligations.WordUpset := by
  intro c id word value s
  have hread := memRead_memWrite_of_ne_blank (w := ⟨value, false⟩) (by simp [blankWord]) word
  have hbank : ((s.part.modCorner c (CornerPart.modBanks (Banks.modBank id (·.upset word value)))).corner c).banks.get id =
      ((s.part.corner c).banks.get id).upset word value := by
    simp [CornerPart.modBanks]
  have hbanks : (s.part.corner c).banks.modBank id (·.upset word value) = (s.part.corner c).banks.modBank id
      (fun b => { b with words := (((s.part.corner c).banks.get id).upset word value).words }) := modBank_congr rfl
  refine ⟨_, rfl, rfl, ?_⟩
  dsimp only
  rw [hbank, ← hbanks]
  refine ⟨rfl, ?_, fun n hn => ?_⟩
  · rw [Bank.upset, hread, if_pos rfl]
  · rw [Bank.upset, hread, if_neg hn]

/-! ## Interpolation (R63 to R68) -/

/-- The largest index below a bound at which a test holds, or 0. -/
theorem lastIndex_spec (test : Nat → Bool) (n : Nat) :
    lastIndex test (n + 1) ≤ n ∧ (lastIndex test (n + 1) = 0 ∨ test (lastIndex test (n + 1)) = true) ∧
      ∀ k, lastIndex test (n + 1) < k → k ≤ n → test k = false := by
  induction n with
  | zero =>
    rw [lastIndex, lastIndex]
    split <;> exact ⟨le_rfl, .inl rfl, fun k hk hk' => absurd hk' (by omega)⟩
  | succ n ih =>
    obtain ⟨hle, htest, hlast⟩ := ih
    rw [lastIndex]
    split
    · exact ⟨le_rfl, .inr (by assumption), fun k hk hk' => absurd hk' (by omega)⟩
    · rename_i hn
      refine ⟨by omega, htest, fun k hk hk' => ?_⟩
      rcases Nat.lt_or_ge k (n + 1) with h | h
      · exact hlast k hk (by omega)
      · rw [show k = n + 1 by omega]
        exact Bool.eq_false_iff.mpr hn

theorem indexOn_segment (axis : Nat → Nat) (x : Nat) : indexOn axis x (segment axis x) := by
  obtain ⟨hle, htest, hlast⟩ := lastIndex_spec (fun k => decide (axis k ≤ x)) 6
  exact ⟨hle, htest.imp_right of_decide_eq_true,
    fun k hk hk' => not_le.mp (of_decide_eq_false (hlast k hk hk'))⟩

/-- The fraction of an input that does not pass the end of its axis is at most 256, and 256 only at that end (R64, R65). -/
theorem fractionOn_le {axis : Nat → Nat} {x i : Nat} (hi : indexOn axis x i) (hx : x ≤ axis 7) :
    fractionOn axis x i ≤ 256 ∧ (fractionOn axis x i = 256 → i = 6 ∧ x = axis 7) := by
  obtain ⟨hle, hstart, hlast⟩ := hi
  unfold fractionOn
  rcases Nat.lt_or_ge i 6 with h6 | h6
  · have hnext : x < axis (i + 1) := hlast (i + 1) (by omega) (by omega)
    have hlt : (x - axis i) * 256 / (axis (i + 1) - axis i) < 256 := by
      rcases Nat.eq_zero_or_pos (axis (i + 1) - axis i) with h0 | hpos
      · simp [h0]
      · refine (Nat.div_lt_iff_lt_mul hpos).mpr ?_
        omega
    exact ⟨hlt.le, fun h => absurd h hlt.ne⟩
  · obtain rfl : i = 6 := by omega
    have hbelow : axis 6 ≤ x := hstart.resolve_left (by decide)
    change (x - axis 6) * 256 / (axis 7 - axis 6) ≤ 256 ∧ ((x - axis 6) * 256 / (axis 7 - axis 6) = 256 → _)
    rcases Nat.eq_zero_or_pos (axis 7 - axis 6) with h0 | hpos
    · simp [h0]
    · refine ⟨Nat.div_le_of_le_mul (by omega), fun h => ⟨rfl, ?_⟩⟩
      have hmul := (Nat.le_div_iff_mul_le hpos).mp h.ge
      omega

/-- A move by a fraction of at most 256 stays between its two ends (R66, R68). -/
theorem moved_mem {a b low high : Int} {f : Nat} (hf : f ≤ 256) (ha : low ≤ a ∧ a ≤ high) (hb : low ≤ b ∧ b ≤ high) :
    low ≤ moved a b f ∧ moved a b f ≤ high := by
  unfold moved
  rcases le_total a b with hab | hab
  · have h0 : 0 ≤ (b - a) * (f : Int) := mul_nonneg (by omega) (by omega)
    have h1 : (b - a) * (f : Int) ≤ (b - a) * 256 := mul_le_mul_of_nonneg_left (by omega) (by omega)
    omega
  · have h0 : (b - a) * (f : Int) ≤ 0 := mul_nonpos_of_nonpos_of_nonneg (by omega) (by omega)
    have h1 : (b - a) * 256 ≤ (b - a) * (f : Int) := mul_le_mul_of_nonpos_left (by omega) (by omega)
    omega

/-- The moves of R66 stay between the smallest and the largest of their four cells (R68). -/
theorem moved_moved_mem (a b c d : Int) {fx fy : Nat} (hfx : fx ≤ 256) (hfy : fy ≤ 256) :
    min (min a b) (min c d) ≤ moved (moved a b fy) (moved c d fy) fx ∧
      moved (moved a b fy) (moved c d fy) fx ≤ max (max a b) (max c d) :=
  moved_mem hfx (moved_mem hfy (by omega) (by omega)) (moved_mem hfy (by omega) (by omega))

/-- Settles O43: the fractions are at most 256, so that each of the three moves stays between its ends. -/
theorem interpolationBounds : Obligations.InterpolationBounds := by
  rintro b vf demand limit x y half cell rfl rfl rfl rfl
  have hi := indexOn_segment b.velocityAxis (b.inputX vf)
  have hj := indexOn_segment b.demandAxis (b.inputY demand)
  obtain ⟨hfx, hfx'⟩ := fractionOn_le hi (min_le_right _ _)
  obtain ⟨hfy, hfy'⟩ := fractionOn_le hj (min_le_right _ _)
  obtain ⟨hlow, hhigh⟩ := moved_moved_mem _ _ _ _ hfx hfy
  exact ⟨_, _, hi, hj, _, _, _, _, rfl, hfx, hfx', rfl, hfy, hfy', rfl, rfl, rfl, hlow, hhigh, min_le_right _ _,
    fun h => ⟨le_min hlow h, (min_le_left _ _).trans hhigh⟩⟩

end Sys2Proof.DamperMaps

/-! # Operations of the supervisor on corners, events and control state

Regulators, scrub, supply monitor and MAP_READ act through the supervisor. `OnlySupervisory` says once what such an operation
leaves of the part, `Beside` what it leaves of a corner that it is not about, and `reaction` what it makes of its own corner. -/

namespace Sys2Proof.Supervisory

open Sys2Proof Sys2Proof.Machine Sys2Proof.Claims Sys2Proof.Estimation

/-! ## What the operations leave of the part -/

/-- From one part to another only corners, pending events and control state change; ENGAGED is neither entered nor left, and no
pending event is lost. -/
structure OnlySupervisory (p q : Part) : Prop where
  frame : q = { p with corners := q.corners, events := q.events, control := q.control }
  engaged : q.control = .engaged ↔ p.control = .engaged
  events : ∀ e, pendingEvent p e → pendingEvent q e

/-- A part without what supervisory operations change. -/
def outside (p : Part) : Part := { p with corners := .fill .powerOn, events := [], control := .unloaded }

namespace OnlySupervisory

variable {p q r : Part}

theorem refl (p : Part) : OnlySupervisory p p := ⟨rfl, Iff.rfl, fun _ h => h⟩

theorem trans (h : OnlySupervisory p q) (h' : OnlySupervisory q r) : OnlySupervisory p r where
  frame := by
    obtain ⟨hq, -, -⟩ := h
    obtain ⟨hr, -, -⟩ := h'
    rw [hq] at hr
    exact hr
  engaged := h'.engaged.trans h.engaged
  events e he := h'.events e (h.events e he)

/-- Outside the supervisor's reach the two parts agree. -/
theorem outside (h : OnlySupervisory p q) : outside q = outside p := by
  rw [h.frame]
  rfl

theorem straps (h : OnlySupervisory p q) : q.straps = p.straps := (congrArg Part.straps h.outside :)

theorem params (h : OnlySupervisory p q) : q.params = p.params := (congrArg Part.params h.outside :)

theorem supply (h : OnlySupervisory p q) : q.supply = p.supply := (congrArg Part.supply h.outside :)

theorem store (h : OnlySupervisory p q) : q.store = p.store := (congrArg Part.store h.outside :)

theorem modCorner (c : Corner) (f : CornerPart → CornerPart) (p : Part) : OnlySupervisory p (p.modCorner c f) :=
  ⟨rfl, Iff.rfl, fun _ h => h⟩

theorem raise (e : Event) (b : Byte) (p : Part) : OnlySupervisory p (raise e b p) :=
  ⟨rfl, Iff.rfl, fun _ h => pendingEvent_raise h e b⟩

theorem setControl {p : Part} (hp : p.control ≠ .engaged) {x : ControlState} (hx : x ≠ .engaged) :
    OnlySupervisory p (p.setControl x) := ⟨rfl, ⟨fun h => absurd h hx, fun h => absurd h hp⟩, fun _ h => h⟩

theorem forCorners {f : Corner → Part → Part} (hf : ∀ c q, OnlySupervisory q (f c q)) (p : Part) :
    OnlySupervisory p (forCorners f p) := forCorners_keeps (fun c q hq => hq.trans (hf c q)) (refl p)

theorem supervise (c : Corner) (p : Part) : OnlySupervisory p (supervise c p) := by
  unfold Machine.supervise
  split
  case h_4 =>
    split
    · exact modCorner c _ p
    · exact refl p
  case h_5 => exact refl p
  all_goals
    split
    · exact refl p
    · exact (modCorner c _ p).trans (raise _ _ _)

theorem putReason (which : Reason) (present : Bool) (c : Corner) (p : Part) :
    OnlySupervisory p (putReason which present c p) := (modCorner c _ p).trans (supervise c _)

theorem enterUnloaded {p : Part} (hp : p.control ≠ .engaged) : OnlySupervisory p (enterUnloaded p) :=
  (setControl hp (by decide)).trans (forCorners (fun c q => modCorner c _ q) _)

theorem judgeLoaded (p : Part) : OnlySupervisory p (judgeLoaded p) := by
  unfold Machine.judgeLoaded
  split
  · split
    · exact setControl (by simp_all) (by decide)
    · exact refl p
  · split
    · exact refl p
    · exact enterUnloaded (by simp_all)
  · exact refl p

theorem judgeReleased (p : Part) : OnlySupervisory p (judgeReleased p) := by
  unfold Machine.judgeReleased
  split
  · rename_i h
    have hne : p.control ≠ .engaged := by simp [h.1]
    unfold settleUnengaged
    split
    · exact setControl hne (by decide)
    · exact enterUnloaded hne
  · exact refl p

theorem rampDone (c : Corner) (p : Part) : OnlySupervisory p (rampDone c p) := by
  unfold Machine.rampDone
  split
  · exact (modCorner c _ p).trans (judgeReleased _)
  · exact (modCorner c _ p).trans (judgeReleased _)
  · exact modCorner c _ p
  · exact modCorner c _ p

theorem corruptActive (c : Corner) (id : BankId) (p : Part) : OnlySupervisory p (corruptActive c id p) :=
  (((modCorner c _ p).trans (raise _ _ _)).trans (supervise c _)).trans (judgeLoaded _)

theorem readFailure (c : Corner) (id : BankId) (p : Part) : OnlySupervisory p (readFailure c id p) := by
  unfold Machine.readFailure
  split
  · exact corruptActive c id p
  · exact modCorner c _ p
  · exact refl p

theorem scrubCorner (c : Corner) (p : Part) : OnlySupervisory p (scrubCorner c p) := by
  unfold Machine.scrubCorner
  split
  · exact refl p
  · split
    · exact refl p
    · exact corruptActive c _ p

theorem regulatorPeriodStart (c : Corner) (p : Part) : OnlySupervisory p (regulatorPeriodStart c p) := by
  unfold Machine.regulatorPeriodStart
  dsimp only
  split
  · exact ((modCorner c _ p).trans (rampDone c _)).trans (modCorner c _ _)
  · exact (modCorner c _ p).trans (modCorner c _ _)

theorem assertSupply (detector : Byte) (p : Part) : OnlySupervisory p (assertSupply detector p) :=
  (raise _ _ p).trans (forCorners (fun c q => putReason .supply true c q) _)

end OnlySupervisory

/-! ## What they leave of the other corners -/

/-- A supervisory operation leaves a corner as it stands but for its motion record, which an entry to UNLOADED unprimes (R22). -/
structure Beside (c : Corner) (p q : Part) : Prop where
  only : OnlySupervisory p q
  corner : ∃ m, q.corner c = { p.corner c with motion := m }

namespace Beside

variable {c d : Corner} {p q r : Part}

theorem of_eq (h : OnlySupervisory p q) (hc : q.corner c = p.corner c) : Beside c p q := ⟨h, _, hc⟩

theorem refl (c : Corner) (p : Part) : Beside c p p := of_eq (.refl p) rfl

theorem trans (h : Beside c p q) (h' : Beside c q r) : Beside c p r := by
  obtain ⟨hpq, m, hq⟩ := h
  obtain ⟨hqr, m', hr⟩ := h'
  exact ⟨hpq.trans hqr, m', by rw [hr, hq]⟩

theorem modCorner (h : c ≠ d) (f : CornerPart → CornerPart) (p : Part) : Beside c p (p.modCorner d f) :=
  of_eq (.modCorner d f p) (Part.corner_modCorner_of_ne h f p)

theorem raise (c : Corner) (e : Event) (b : Byte) (p : Part) : Beside c p (raise e b p) :=
  of_eq (.raise e b p) (raise_corner e b c p)

theorem supervise (h : c ≠ d) (p : Part) : Beside c p (supervise d p) :=
  of_eq (.supervise d p) (supervise_corner_of_ne d h p)

theorem unprime (c d : Corner) (p : Part) : Beside c p (unprime d p) := by
  refine ⟨.modCorner d _ p, ?_⟩
  rw [Machine.unprime, Part.corner_modCorner]
  split
  · rename_i h
    exact ⟨_, by rw [h]⟩
  · exact ⟨_, rfl⟩

theorem enterUnloaded (c : Corner) {p : Part} (hp : p.control ≠ .engaged) : Beside c p (enterUnloaded p) :=
  have hset : Beside c p (p.setControl .unloaded) := of_eq (.setControl hp (by decide)) rfl
  forCorners_keeps (fun d q hq => hq.trans (unprime c d q)) hset

theorem judgeLoaded (c : Corner) (p : Part) : Beside c p (judgeLoaded p) := by
  unfold Machine.judgeLoaded
  split
  · split
    · exact of_eq (.setControl (by simp_all) (by decide)) rfl
    · exact refl c p
  · split
    · exact refl c p
    · exact enterUnloaded c (by simp_all)
  · exact refl c p

theorem judgeReleased (c : Corner) (p : Part) : Beside c p (judgeReleased p) := by
  unfold Machine.judgeReleased
  split
  · rename_i h
    have hne : p.control ≠ .engaged := by simp [h.1]
    unfold settleUnengaged
    split
    · exact of_eq (.setControl hne (by decide)) rfl
    · exact enterUnloaded c hne
  · exact refl c p

theorem rampDone (h : c ≠ d) (p : Part) : Beside c p (rampDone d p) := by
  unfold Machine.rampDone
  split
  · exact (modCorner h _ p).trans (judgeReleased c _)
  · exact (modCorner h _ p).trans (judgeReleased c _)
  · exact modCorner h _ p
  · exact modCorner h _ p

theorem corruptActive (h : c ≠ d) (id : BankId) (p : Part) : Beside c p (corruptActive d id p) :=
  (((modCorner h _ p).trans (raise c _ _ _)).trans (supervise h _)).trans (judgeLoaded c _)

theorem scrubCorner (h : c ≠ d) (p : Part) : Beside c p (scrubCorner d p) := by
  unfold Machine.scrubCorner
  split
  · exact refl c p
  · split
    · exact refl c p
    · exact corruptActive h _ p

theorem regulatorPeriodStart (h : c ≠ d) (p : Part) : Beside c p (regulatorPeriodStart d p) := by
  unfold Machine.regulatorPeriodStart
  dsimp only
  split
  · exact ((modCorner h _ p).trans (rampDone h _)).trans (modCorner h _ _)
  · exact (modCorner h _ p).trans (modCorner h _ _)

/-- Operations of the four corners in turn: those of the other corners stand beside a corner's own. -/
theorem forCorners {f : Corner → Part → Part} (hf : ∀ {c d} q, c ≠ d → Beside c q (f d q)) (c : Corner) (p : Part) :
    ∃ q, Beside c p q ∧ Beside c (f c q) (forCorners f p) := by
  unfold Machine.forCorners
  cases c with
  | fl =>
    exact ⟨p, refl _ p, ((hf _ (by decide)).trans (hf _ (by decide))).trans (hf _ (by decide))⟩
  | fr =>
    exact ⟨f .fl p, hf _ (by decide), (hf _ (by decide)).trans (hf _ (by decide))⟩
  | rl =>
    exact ⟨f .fr (f .fl p), (hf _ (by decide)).trans (hf _ (by decide)), hf _ (by decide)⟩
  | rr =>
    exact ⟨f .rl (f .fr (f .fl p)), ((hf _ (by decide)).trans (hf _ (by decide))).trans (hf _ (by decide)), refl _ _⟩

end Beside

/-! ## What the supervisor makes of its own corner (R122, R124) -/

/-- The corner after its entry to PASSIVE (R122). -/
def passivated (k : CornerPart) : CornerPart :=
  { k with
    state := .passive false
    reg := k.reg.ramp.endCalibration
    diag := k.diag.abandon
    counters := { k.counters with passiveEntry := inc k.counters.passiveEntry } }

/-- The corner after its return to CONTROL (R124). -/
def returned (k : CornerPart) : CornerPart := { k with state := .control, reg := k.reg.track }

/-- The supervisor's act on a corner, by whether the control state is ENGAGED. -/
def reaction (engaged : Bool) (k : CornerPart) : CornerPart :=
  match engaged, k.state with
  | true, .control => if k.reasons.none then k else passivated k
  | true, .suspended => if k.reasons.none then k else passivated k
  | true, .calibrating .recal _ => if k.reasons.none then k else passivated k
  | true, .passive _ => if k.reasons.none then returned k else k
  | _, _ => k

theorem supervise_corner_self (c : Corner) (p : Part) :
    (supervise c p).corner c = reaction (decide (p.control = .engaged)) (p.corner c) := by
  have hpassive : (enterPassive c p).corner c = passivated (p.corner c) := by
    rw [enterPassive, raise_corner, Part.corner_modCorner_self]
    rfl
  have hreturn : (returnToControl c p).corner c = returned (p.corner c) := Part.corner_modCorner_self _ _ _
  unfold supervise
  split
  case h_5 h1 h2 h3 h4 =>
    unfold reaction
    split <;> simp_all
  all_goals
    rename_i hc hs
    simp only [reaction, hc, hs, decide_true]
    split <;> simp only [hpassive, hreturn]

/-- The corner stays, enters PASSIVE with a reason, or returns to CONTROL from PASSIVE without one. -/
theorem reaction_cases (engaged : Bool) (k : CornerPart) :
    reaction engaged k = k ∨
      (engaged = true ∧ k.reasons.none = false ∧
        (k.state = .control ∨ k.state = .suspended ∨ ∃ b, k.state = .calibrating .recal b) ∧
        reaction engaged k = passivated k) ∨
      (engaged = true ∧ k.reasons.none = true ∧ (∃ b, k.state = .passive b) ∧ reaction engaged k = returned k) := by
  unfold reaction
  split
  case h_5 => exact .inl rfl
  all_goals
    split <;> simp_all

end Sys2Proof.Supervisory

/-! # Parity failures and MAP_READ (R70, R72, R145) -/

namespace Sys2Proof.ParityFailures

open Sys2Proof Sys2Proof.Machine Sys2Proof.Claims Sys2Proof.Estimation Sys2Proof.GainSchedule Sys2Proof.DamperMaps
  Sys2Proof.Supervisory

/-! ## A parity failure in an ACTIVE bank (R70) -/

/-- The corner whose bank has become CORRUPT, before the supervisor acts (R70). -/
def corrupted (id : BankId) (k : CornerPart) : CornerPart :=
  { k with
    banks := k.banks.modBank id (fun b => { b with state := .corrupt })
    reasons := { k.reasons with map := true } }

theorem corrupted_reasons_none (id : BankId) (k : CornerPart) : (corrupted id k).reasons.none = false := by
  simp [corrupted, Reasons.none]

theorem reaction_banks (engaged : Bool) (k : CornerPart) : (reaction engaged k).banks = k.banks := by
  rcases reaction_cases engaged k with h | ⟨-, -, -, h⟩ | ⟨-, -, -, h⟩ <;> rw [h] <;> rfl

theorem reaction_reasons (engaged : Bool) (k : CornerPart) : (reaction engaged k).reasons = k.reasons := by
  rcases reaction_cases engaged k with h | ⟨-, -, -, h⟩ | ⟨-, -, -, h⟩ <;> rw [h] <;> rfl

/-- In ENGAGED a regulating corner with a reason enters PASSIVE (R122). -/
theorem reaction_of_control {k : CornerPart} (hs : k.state = .control) (hr : k.reasons.none = false) :
    reaction true k = passivated k := by
  simp [reaction, hs, hr]

/-- The corner of the failure: its bank CORRUPT, MAP gained, and the supervisor's act on both (R70). -/
theorem corruptActive_corner_self (c : Corner) (id : BankId) (p : Part) :
    ∃ m, (corruptActive c id p).corner c =
      { reaction (decide (p.control = .engaged)) (corrupted id (p.corner c)) with motion := m } := by
  obtain ⟨-, m, hm⟩ := Beside.judgeLoaded c (supervise c (raise (.mapParity c) id.code (p.modCorner c (fun k =>
    { k.modBanks (Banks.modBank id (fun b => { b with state := .corrupt })) with reasons := k.reasons.put .map true }))))
  refine ⟨m, hm.trans ?_⟩
  rw [supervise_corner_self, raise_control, raise_corner, Part.corner_modCorner_self]
  rfl

theorem pendingEvent_corruptActive (c : Corner) (id : BankId) (p : Part) :
    pendingEvent (corruptActive c id p) (.mapParity c) :=
  ((OnlySupervisory.supervise c _).trans (.judgeLoaded _)).events _ (pendingEvent_raise_self _ _ _)

/-- A corner whose pointer names a bank that is not ACTIVE leaves the part unloaded (R113). -/
theorem loaded_eq_false {q : Part} {c : Corner} {id : BankId} (hid : (q.corner c).banks.active = some id)
    (hs : ((q.corner c).banks.get id).state ≠ .active) : q.loaded = false := by
  rw [Bool.eq_false_iff, Ne, loaded_iff]
  rintro ⟨hbanks, -⟩
  obtain ⟨id', hid', hactive⟩ := hbanks c
  rw [hid] at hid'
  obtain rfl := Option.some.inj hid'
  exact hs hactive

@[simp] theorem modBank_active (id : BankId) (f : Bank → Bank) (k : Banks) : (k.modBank id f).active = k.active := by
  cases id <;> rfl

/-- A failure in the bank that a corner uses unloads a part in STANDBY (R70, R113). -/
theorem corruptActive_unloads {c : Corner} {id : BankId} {p : Part} (hc : p.control = .standby)
    (hid : (p.corner c).banks.active = some id) : (corruptActive c id p).control = .unloaded := by
  unfold corruptActive
  rw [judgeLoaded_standby (by simpa using hc), loaded_eq_false (c := c) (id := id)]
  · rfl
  · simpa [CornerPart.modBanks] using hid
  · simp [CornerPart.modBanks]

/-! ## The arguments and the words of a MAP_READ (R145) -/

theorem index_of_ofIndex {n : Nat} {c : Corner} (h : Corner.ofIndex n = some c) : n = c.index := by
  unfold Corner.ofIndex at h
  split at h <;> cases h <;> rfl

theorem code_of_ofCode {n : Nat} {id : BankId} (h : BankId.ofCode n = some id) : n = id.code.toNat := by
  unfold BankId.ofCode at h
  split at h <;> cases h <;> rfl

theorem ofCode_code (id : BankId) : BankId.ofCode id.code.toNat = some id := by cases id <;> rfl

theorem ofIndex_byte (c : Corner) : Corner.ofIndex (BitVec.ofNat 8 c.index).toNat = some c := by cases c <;> rfl

theorem firstUpset_of_intact {b : Bank} {start count : Nat}
    (h : ∀ k, k < count → (memRead b.words (start + k)).intact = true) : b.firstUpset start count = none := by
  rw [Bank.firstUpset, List.find?_eq_none]
  intro n hn
  obtain ⟨k, hk, rfl⟩ := List.mem_map.mp hn
  simpa [Bank.intact] using h k (List.mem_range.mp hk)

theorem firstUpset_of_upset {b : Bank} {start count n : Nat} (hstart : start ≤ n) (hend : n < start + count)
    (hupset : (memRead b.words n).intact = false) (hfirst : ∀ k, start ≤ k → k < n → (memRead b.words k).intact = true) :
    b.firstUpset start count = some n := by
  obtain ⟨k, rfl⟩ := Nat.exists_eq_add_of_le hstart
  have hfind : (List.range count).find? ((fun n => !b.intact n) ∘ (start + ·)) = some k := by
    rw [List.find?_range_eq_some]
    refine ⟨by simpa [Bank.intact] using hupset, List.mem_range.mpr (by omega), fun j hj => ?_⟩
    simpa [Bank.intact] using hfirst (start + j) (by omega) (by omega)
  rw [Bank.firstUpset, List.find?_map, hfind]
  rfl

section MapReadCases

variable {args : List Byte} {c : Corner} {id : BankId} {start count : Byte}

theorem mapRead_of_malformed (h : ∀ c id start count, ¬ readArgs args c id start count) (p : Part) :
    mapRead args p = (p, .refusedArgument []) := by
  unfold mapRead
  split
  · rename_i corner bank start count
    split
    · rename_i c id hc hid
      split
      · rfl
      · rename_i hbounds
        have hcorner : corner = BitVec.ofNat 8 c.index := by
          rw [← index_of_ofIndex hc, BitVec.ofNat_toNat, BitVec.setWidth_eq]
        have hbank : bank = id.code := BitVec.eq_of_toNat_eq (code_of_ofCode hid)
        exact absurd ⟨by rw [hcorner, hbank], not_not.mp hbounds⟩ (h c id start count)
    · rfl
  · rfl

variable (h : readArgs args c id start count) (p : Part)

include h

theorem mapRead_of_checking (hs : ((p.corner c).banks.get id).state = .checking) :
    mapRead args p = (p, .refusedState []) := by
  obtain ⟨rfl, hbounds⟩ := h
  simp only [mapRead, ofIndex_byte, ofCode_code, Config.imageWords, if_neg (not_not.mpr hbounds), if_pos hs]

theorem mapRead_of_intact (hs : ((p.corner c).banks.get id).state ≠ .checking)
    (hw : ∀ k, k < count.toNat → (memRead ((p.corner c).banks.get id).words (start.toNat + k)).intact = true) :
    mapRead args p = (p, .done ([BitVec.ofNat 8 c.index, id.code, start, count, ((p.corner c).banks.get id).state.code, 0, 0] ++
      (List.range count.toNat).flatMap fun k =>
        wordBytes (memRead ((p.corner c).banks.get id).words (start.toNat + k)).value)) := by
  obtain ⟨rfl, hbounds⟩ := h
  simp only [mapRead, ofIndex_byte, ofCode_code, Config.imageWords, if_neg (not_not.mpr hbounds), if_neg hs,
    firstUpset_of_intact hw]

theorem mapRead_of_upset {n : Nat} (hs : ((p.corner c).banks.get id).state ≠ .checking) (hstart : start.toNat ≤ n)
    (hend : n < start.toNat + count.toNat) (hupset : (memRead ((p.corner c).banks.get id).words n).intact = false)
    (hfirst : ∀ k, start.toNat ≤ k → k < n → (memRead ((p.corner c).banks.get id).words k).intact = true) :
    mapRead args p = (readFailure c id p, .done ([BitVec.ofNat 8 c.index, id.code, start, count,
      ((p.corner c).banks.get id).state.code, 1, BitVec.ofNat 8 n] ++ (List.range count.toNat).flatMap fun k =>
        wordBytes (memRead ((p.corner c).banks.get id).words (start.toNat + k)).value)) := by
  obtain ⟨rfl, hbounds⟩ := h
  simp only [mapRead, ofIndex_byte, ofCode_code, Config.imageWords, if_neg (not_not.mpr hbounds), if_neg hs,
    firstUpset_of_upset hstart hend hupset hfirst]
  rfl

end MapReadCases

/-! ## What a failure found by MAP_READ does (R72, R144) -/

section ReadFailure

variable {c : Corner} {id : BankId} {p : Part}

theorem readFailure_of_active (h : ((p.corner c).banks.get id).state = .active) :
    readFailure c id p = corruptActive c id p := by
  simp only [readFailure, h]

/-- Outside an ACTIVE bank a failure at most makes a READY bank EMPTY, and takes back a pending swap (R72, R144). -/
theorem readFailure_of_not_active (h : ((p.corner c).banks.get id).state ≠ .active) :
    readFailure c id p = { p with corners := p.corners.set c { p.corner c with banks :=
      if ((p.corner c).banks.get id).state = .ready then
        { (p.corner c).banks.modBank id (fun b => { b with state := .empty }) with swapPending := false }
      else (p.corner c).banks } } := by
  unfold readFailure
  split
  · contradiction
  · rename_i hready
    rw [if_pos hready]
    rfl
  · rename_i hready
    rw [if_neg hready]
    exact (congrArg (fun x => { p with corners := x }) (Quad.set_get_self p.corners c)).symm

end ReadFailure

theorem words_modBank {f : Bank → Bank} (hf : ∀ b, (f b).words = b.words) (id id' : BankId) (k : Banks) :
    ((k.modBank id f).get id').words = (k.get id').words := by
  by_cases h : id' = id
  · rw [h, get_modBank_self, hf]
  · rw [get_modBank_of_ne h]

/-- A failure found by MAP_READ leaves every stored word. -/
theorem readFailure_words (c : Corner) (id id' : BankId) (p : Part) :
    (((readFailure c id p).corner c).banks.get id').words = ((p.corner c).banks.get id').words := by
  unfold readFailure
  split
  · obtain ⟨m, hm⟩ := corruptActive_corner_self c id p
    rw [hm]
    dsimp only
    rw [reaction_banks]
    exact words_modBank (fun _ => by rfl) id id' _
  · rw [Part.corner_modCorner_self]
    exact words_modBank (f := fun b => { b with state := .empty }) (fun _ => by rfl) id id' (p.corner c).banks
  · rfl

/-- A failure in an ACTIVE bank makes it CORRUPT, and takes its corner and the control state with it (R70, R113, R122). -/
theorem readFailure_active {c : Corner} {id : BankId} {p : Part} (h : ((p.corner c).banks.get id).state = .active) :
    ((readFailure c id p).corner c).banks = (p.corner c).banks.modBank id (fun b => { b with state := .corrupt }) ∧
      ((readFailure c id p).corner c).reasons.map = true ∧ pendingEvent (readFailure c id p) (.mapParity c) ∧
      (p.control = .standby → (p.corner c).banks.active = some id → (readFailure c id p).control = .unloaded) ∧
      (p.control = .engaged → (p.corner c).state = .control →
        ((readFailure c id p).corner c).state = .passive false) := by
  obtain ⟨m, hm⟩ := corruptActive_corner_self c id p
  rw [readFailure_of_active h, hm]
  refine ⟨reaction_banks _ _, ?_, pendingEvent_corruptActive c id p, corruptActive_unloads, fun hc hs => ?_⟩
  · dsimp only
    rw [reaction_reasons]
    rfl
  · rw [hc, decide_eq_true rfl, reaction_of_control (k := corrupted id (p.corner c)) hs (corrupted_reasons_none id _)]
    rfl

/-- MAP_READ answered with an upset word (R72, R145). -/
theorem answers_mapRead_of_upset {o : OrderIn} {c : Corner} {id : BankId} {data : List Byte} {s : State}
    (ht : takesOrders s.part)
    (hh : mapRead o.args (goodFrame .s s.part) = (readFailure c id (goodFrame .s s.part), .done data)) :
    answers (.mapRead o) s (afterOrder o 0x24 0 0 data (readFailure c id) s.part) :=
  answers_of_handler rfl ht hh fun p => (OnlySupervisory.readFailure c id p).straps

/-- Settles O35: the four answers of the handler, and an upset word's effect by the state of its bank. -/
theorem mapRead : Obligations.MapRead := by
  intro o s ht
  refine ⟨fun h => answers_of_handler rfl ht (mapRead_of_malformed h _) fun p => rfl, ?_⟩
  rintro c id start count b words hargs rfl rfl
  refine ⟨fun hs => answers_of_handler rfl ht (mapRead_of_checking hargs _ hs) fun p => rfl,
    fun hs hw => answers_of_handler rfl ht (mapRead_of_intact hargs _ hs hw) fun p => rfl, ?_⟩
  intro n hs hstart hend hupset hfirst
  have hhandler := mapRead_of_upset hargs (goodFrame .s s.part) hs hstart hend hupset hfirst
  refine ⟨_, answers_mapRead_of_upset ht hhandler, rfl, ?_⟩
  dsimp only
  simp only [afterOrder_corners, afterOrder_corner, afterOrder_events, pendingEvent,
    show ∀ data, (afterOrder o 0x24 0 0 data (readFailure c id) s.part).control =
      (readFailure c id (goodFrame .s s.part)).control from fun data => placeReply_control _ _]
  refine ⟨afterOrder_congr _ _ _ _ _ (OnlySupervisory.readFailure c id _).frame, fun id' k => ?_, fun h => ?_, fun h => ?_⟩
  · rw [readFailure_words]
    rfl
  · rw [readFailure_of_not_active (p := goodFrame .s s.part) h]
    exact ⟨rfl, rfl, rfl⟩
  · exact readFailure_active h

end Sys2Proof.ParityFailures

/-! # The reading of validation (R59 to R61, R140, R141) -/

namespace Sys2Proof.ValidationReading

open Sys2Proof Sys2Proof.Machine Sys2Proof.Claims Sys2Proof.DamperMaps

/-! ## The judgment of an image (R60) -/

theorem positionalCheck_eq (value : Nat → Nat) :
    positionalCheck value = ((List.range 144).map (fun n => (n + 1) * value n)).sum % 65536 := by
  rw [positionalCheck, List.sum_eq_foldl, List.foldl_map]
  rfl

theorem axisValid_iff (axis : Nat → Nat) (limit : Nat) :
    axisValid axis limit = true ↔ axis 0 = 0 ∧ axis 7 ≤ limit ∧ ∀ k, k < 7 → axis k < axis (k + 1) := by
  simp only [axisValid, Bool.and_eq_true, decide_eq_true_eq, List.all_eq_true, List.mem_range]
  tauto

theorem axesValid_iff (value : Nat → Nat) :
    (axisValid value 8000 && axisValid (fun k => value (8 + k)) 20000) = true ↔
      value 0 = 0 ∧ value 8 = 0 ∧ value 7 ≤ 8000 ∧ value 15 ≤ 20000 ∧
        ∀ k, k < 7 → value k < value (k + 1) ∧ value (8 + k) < value (9 + k) := by
  have hindex (k : Nat) : 8 + (k + 1) = 9 + k := by omega
  simp only [Bool.and_eq_true, axisValid_iff, hindex]
  constructor
  · rintro ⟨⟨hv, hvend, hvrise⟩, hd, hdend, hdrise⟩
    exact ⟨hv, hd, hvend, hdend, fun k hk => ⟨hvrise k hk, hdrise k hk⟩⟩
  · rintro ⟨hv, hd, hvend, hdend, hrise⟩
    exact ⟨⟨hv, hvend, fun k hk => (hrise k hk).1⟩, hd, hdend, fun k hk => (hrise k hk).2⟩

theorem cellsWithin_iff (value : Nat → Nat) (limit : Nat) :
    cellsWithin value limit = true ↔ ∀ n, 16 ≤ n → n < 144 → value n ≤ limit := by
  simp only [cellsWithin, List.all_eq_true, List.mem_range, decide_eq_true_eq]
  constructor
  · intro h n hn hn'
    rw [← Nat.add_sub_cancel' hn]
    exact h (n - 16) (by omega)
  · exact fun h k hk => h (16 + k) (by omega) (by omega)

/-- The sixteen rows of both halves are the words from 16 on, and a row goes on at every word but the eighth. -/
theorem rowsMonotone_iff (value : Nat → Nat) :
    rowsMonotone value = true ↔ ∀ n, 16 ≤ n → n < 143 → n % 8 ≠ 7 → value n ≤ value (n + 1) := by
  simp only [rowsMonotone, List.all_eq_true, List.mem_range, decide_eq_true_eq]
  constructor
  · intro h n hn hn' hrow
    have hindex : 16 + 8 * ((n - 16) / 8) + (n - 16) % 8 = n := by omega
    have hrise := h ((n - 16) / 8) (by omega) ((n - 16) % 8) (by omega)
    rwa [hindex] at hrise
  · exact fun h r hr j hj => h (16 + 8 * r + j) (by omega) (by omega) (by omega)

/-- The judgment that the statements spell out is the model's. -/
theorem judgeImage_of_outcomeOf {image : List Word} {check : Option Word} {limit : Nat} {x : MapOutcome}
    (h : outcomeOf image check limit x) : judgeImage (wordRead image) check limit = x := by
  obtain ⟨hcheck, haxis, hrange, hmonotone, hvalid⟩ := h
  simp only [judgeImage, Bool.not_eq_true', ← Bool.not_eq_true, axesValid_iff, cellsWithin_iff, rowsMonotone_iff,
    positionalCheck_eq]
  split
  · exact (hcheck (by assumption)).symm
  · rename_i h1
    have hgood := not_not.mp h1
    split
    · exact (haxis hgood (by assumption)).symm
    · rename_i h2
      have haxes := not_not.mp h2
      split
      · exact (hrange hgood haxes (by assumption)).symm
      · rename_i h3
        have hcells := not_not.mp h3
        split
        · exact (hmonotone hgood haxes hcells (by assumption)).symm
        · exact (hvalid hgood haxes hcells (not_not.mp (by assumption))).symm

/-! ## One reading (R140) -/

section Reading

variable {p : Part} {c : Corner} {read : List Word}

theorem intactRun_iff_sixteen (b : Bank) (start : Nat) :
    b.intactRun start 16 = true ↔ ∀ w ∈ sixteen b start, w.intact = true := by
  simp [Bank.intactRun, Bank.intact, sixteen]

theorem sixteen_values (b : Bank) (start : Nat) : (sixteen b start).map (·.value) = b.readRun start 16 := by
  simp [sixteen, Bank.readRun]

theorem readRun_length (b : Bank) (start count : Nat) : (b.readRun start count).length = count := by simp [Bank.readRun]

theorem readingOf_of_upset (h : ∃ w ∈ sixteen (shadowBank (p.corner c)) read.length, w.intact = false) :
    readingOf p c read = .judges .parity := by
  have hupset : ((p.corner c).banks.get (p.corner c).banks.shadow).intactRun read.length 16 = false := by
    rw [← Bool.not_eq_true, intactRun_iff_sixteen]
    obtain ⟨w, hw, hfalse⟩ := h
    exact fun hall => by simp [hall w hw] at hfalse
  simp only [readingOf, hupset, Bool.not_false, if_true]

theorem readingOf_of_short (h : ∀ w ∈ sixteen (shadowBank (p.corner c)) read.length, w.intact = true)
    (hlen : read.length + 16 < 144) :
    readingOf p c read = .goesOn (read ++ (sixteen (shadowBank (p.corner c)) read.length).map (·.value)) := by
  have hintact := (intactRun_iff_sixteen (shadowBank (p.corner c)) read.length).mpr h
  rw [sixteen_values]
  unfold shadowBank at *
  simp [readingOf, hintact, readRun_length, Config.imageWords, hlen]

theorem readingOf_of_last (h : ∀ w ∈ sixteen (shadowBank (p.corner c)) read.length, w.intact = true)
    (hlen : 144 ≤ read.length + 16) :
    readingOf p c read = .judges (judgeImage
      (wordRead (read ++ (sixteen (shadowBank (p.corner c)) read.length).map (·.value)))
      (shadowBank (p.corner c)).check p.params.currentLimit) := by
  have hintact := (intactRun_iff_sixteen (shadowBank (p.corner c)) read.length).mpr h
  rw [sixteen_values]
  unfold shadowBank at *
  simp [readingOf, hintact, readRun_length, Config.imageWords, Nat.not_lt.mpr hlen]

end Reading

/-! ## The judgment at a bank, and the reply after the last (R141) -/

theorem judgeBank_corners (c : Corner) (rest : List Corner) (x : MapOutcome) (outcomes : Quad MapOutcome) (p : Part) :
    (judgeBank c rest x outcomes p).corners = p.corners.set c { p.corner c with
      banks := (p.corner c).banks.modBank (p.corner c).banks.shadow (fun b =>
        { b with state := if x = .valid then .ready else .empty }) } := by
  cases rest with
  | nil => exact answerHeld_corners _ _ _ _
  | cons d ds => rfl

theorem judgeBank_of_more {rest : List Corner} (h : rest ≠ []) (c : Corner) (x : MapOutcome) (outcomes : Quad MapOutcome)
    (p : Part) : judgeBank c rest x outcomes p = { p with
      corners := (judgeBank c rest x outcomes p).corners
      store := { p.store with validation := some ⟨rest, [], outcomes.set c x⟩ } } := by
  cases rest with
  | nil => exact absurd rfl h
  | cons d ds => rfl

theorem judgeBank_of_last {p : Part} {o : HeldOrder} (ho : p.slot = some o) (c : Corner) (x : MapOutcome)
    (outcomes : Quad MapOutcome) : judgeBank c [] x outcomes p =
      placeReply ⟨o.src, p.address, 0x11, o.tag :: o.code :: (validationAnswer (outcomes.set c x)).1 ::
          (validationAnswer (outcomes.set c x)).2.1 :: (outcomes.set c x).toList.map (·.code)⟩
        { p with corners := (judgeBank c [] x outcomes p).corners, slot := none,
                 store := { p.store with validation := none } } := by
  have hdata : (validationAnswer (outcomes.set c x)).2.2 = (outcomes.set c x).toList.map (·.code) := by
    unfold validationAnswer
    split <;> rfl
  rw [judgeBank_corners, ← hdata]
  simp only [judgeBank, answerHeld, Part.modStore_slot, Part.modCorner_slot, ho]
  rfl

theorem firstInvalid_eq_none {q : Quad MapOutcome} (h : ∀ d, q.get d = .none ∨ q.get d = .valid) :
    firstInvalid q = none := by
  rw [firstInvalid, List.find?_eq_none]
  intro x hx
  obtain ⟨d, rfl⟩ : ∃ d, q.get d = x := by
    simp only [Quad.toList, List.mem_cons, List.not_mem_nil, or_false] at hx
    rcases hx with rfl | rfl | rfl | rfl
    exacts [⟨.fl, rfl⟩, ⟨.fr, rfl⟩, ⟨.rl, rfl⟩, ⟨.rr, rfl⟩]
  rcases h d with h | h <;> simp [h]

/-- The first corner whose outcome is neither NONE nor VALID gives the reason (R141). -/
theorem firstInvalid_eq_some {q : Quad MapOutcome} {d : Corner} (hn : q.get d ≠ .none) (hv : q.get d ≠ .valid)
    (h : ∀ e : Corner, e.index < d.index → q.get e = .none ∨ q.get e = .valid) : firstInvalid q = some (q.get d) := by
  rw [firstInvalid, List.find?_eq_some_iff_append]
  refine ⟨by simp [hn, hv], (Corner.all.take d.index).map q.get, (Corner.all.drop (d.index + 1)).map q.get,
    by cases d <;> rfl, fun x hx => ?_⟩
  obtain ⟨e, he, rfl⟩ := List.mem_map.mp hx
  have hbefore : ∀ e ∈ Corner.all.take d.index, e.index < d.index := by cases d <;> decide
  rcases h e (hbefore e he) with h | h <;> simp [h]

theorem invalidReason_eq_code {x : MapOutcome} (hn : x ≠ .none) (hv : x ≠ .valid) : x.invalidReason = x.code := by
  cases x <;> first | rfl | contradiction

theorem validationAnswer_of_valid {q : Quad MapOutcome} (h : ∀ d, q.get d = .none ∨ q.get d = .valid) :
    (validationAnswer q).1 = 0 ∧ (validationAnswer q).2.1 = 0 := by
  rw [validationAnswer, firstInvalid_eq_none h]
  exact ⟨rfl, rfl⟩

theorem validationAnswer_of_invalid {q : Quad MapOutcome} {d : Corner} (hn : q.get d ≠ .none) (hv : q.get d ≠ .valid)
    (h : ∀ e : Corner, e.index < d.index → q.get e = .none ∨ q.get e = .valid) :
    (validationAnswer q).1 = 4 ∧ (validationAnswer q).2.1 = (q.get d).code := by
  rw [validationAnswer, firstInvalid_eq_some hn hv h]
  exact ⟨rfl, invalidReason_eq_code hn hv⟩

/-! ## What a reading changes -/

/-- A reply placed changes the queues and the Port S transmitter only. -/
theorem placeReply_eq (f : Frame) (p : Part) :
    placeReply f p = { p with link := (placeReply f p).link, portS := (placeReply f p).portS } := by
  unfold placeReply arbitrateS
  split
  · rfl
  · split <;> rfl

/-- What a reading of validation leaves of the part. -/
def OnlyReading (p q : Part) : Prop :=
  q = { p with
    corners := q.corners
    store := { p.store with validation := q.store.validation }
    slot := q.slot
    link := q.link
    portS := q.portS }

theorem onlyReading_judgeBank (c : Corner) (rest : List Corner) (x : MapOutcome) (outcomes : Quad MapOutcome) (p : Part) :
    OnlyReading p (judgeBank c rest x outcomes p) := by
  unfold judgeBank
  split
  · dsimp only
    unfold answerHeld
    split
    · rfl
    · rw [OnlyReading, placeReply_eq]
      rfl
  · rfl

theorem onlyReading_validationReading (p : Part) : OnlyReading p (validationReading p) := by
  unfold validationReading
  split
  · rfl
  · rfl
  · split
    · rfl
    · exact onlyReading_judgeBank _ _ _ _ _

theorem ne_shadow_of_active {k : Banks} {id : BankId} (h : k.active = some id) : id ≠ k.shadow := by
  cases id <;> simp [Banks.shadow, h, BankId.other]

/-- What a reading of validation makes of a corner: its banks at most, and not the one its pointer names (R133, R141). -/
inductive ReadFor (k : CornerPart) : CornerPart → Prop
  | mk (b : Banks) (active : ∀ id, k.banks.active = some id → b.get id = k.banks.get id) : ReadFor k { k with banks := b }

theorem ReadFor.refl (k : CornerPart) : ReadFor k k := .mk k.banks fun _ _ => rfl

theorem readFor_judgeBank (c d : Corner) (rest : List Corner) (x : MapOutcome) (outcomes : Quad MapOutcome) (p : Part) :
    ReadFor (p.corner d) ((judgeBank c rest x outcomes p).corner d) := by
  rw [show (judgeBank c rest x outcomes p).corner d = (judgeBank c rest x outcomes p).corners.get d from rfl,
    judgeBank_corners, Quad.get_set]
  split
  · rename_i hd
    rw [hd]
    exact .mk _ fun id hid => get_modBank_of_ne (ne_shadow_of_active hid) _ _
  · exact .refl _

theorem readFor_validationReading (d : Corner) (p : Part) : ReadFor (p.corner d) ((validationReading p).corner d) := by
  unfold validationReading
  split
  · exact .refl _
  · exact .refl _
  · split
    · exact .refl _
    · exact readFor_judgeBank _ d _ _ _ p

end Sys2Proof.ValidationReading

/-! # The period start (R70, R71, R75 to R79, R82 to R84, R88)

A corner passes four stages: its regulator, the scrub, the supply sample and the reading of validation. Each stage is said once
for one corner; `Stages` puts them in their order, and the claims about a corner at a period start follow from it. -/

namespace Sys2Proof.PeriodStarts

open Sys2Proof Sys2Proof.Machine Sys2Proof.Claims Sys2Proof.Estimation Sys2Proof.DamperMaps Sys2Proof.Supervisory
  Sys2Proof.ParityFailures Sys2Proof.ValidationReading

/-! ## The regulator's enable, move and load (R76, R79, R82 to R84) -/

section Regulator

variable {r : Regulator} (params : Params)

theorem moveToward_eq (setpoint aim step : Nat) : moveToward setpoint aim step =
    if setpoint < aim then min aim (setpoint + step) else max aim (setpoint - step) := by
  unfold moveToward
  split <;> omega

theorem periodEnable_of_enabled (h : r.enabled = true) : r.periodEnable params = r := by
  simp [Regulator.periodEnable, h]

theorem periodEnable_of_pending (h : r.enabled = false) (hw : r.wanted ≠ .disabled) : r.periodEnable params =
    { r with
      enabled := true, e1 := 0, e2 := 0, u := params.dutyMin * 65536, duty := params.dutyMin, setpoint := 0
      firstTrip := false } := by
  simp [Regulator.periodEnable, h, hw]

theorem advance_of_disabled (h : r.wanted = .disabled) : r.advance params = r := by
  have henable : r.periodEnable params = r := by simp [Regulator.periodEnable, h]
  simp [Regulator.advance, henable, Regulator.move, Regulator.mode, h]

theorem periodEnable_enabled (h : r.wanted ≠ .disabled) : (r.periodEnable params).enabled = true := by
  cases he : r.enabled with
  | true => rwa [periodEnable_of_enabled params he]
  | false => rw [periodEnable_of_pending params he h]

theorem periodEnable_wanted : (r.periodEnable params).wanted = r.wanted := by
  unfold Regulator.periodEnable
  split <;> rfl

theorem advance_of_tracking (h : r.wanted = .tracking) : r.advance params =
    { r.periodEnable params with
      setpoint := moveToward (r.periodEnable params).setpoint (min (r.periodEnable params).target params.currentLimit)
        params.slew } := by
  simp [Regulator.advance, Regulator.move, Regulator.mode, periodEnable_wanted, h, periodEnable_enabled params (r := r)]

theorem advance_of_ramping (h : r.wanted = .ramping) : r.advance params =
    { r.periodEnable params with setpoint := moveToward (r.periodEnable params).setpoint 0 params.ramp } := by
  simp [Regulator.advance, Regulator.move, Regulator.mode, periodEnable_wanted, h, periodEnable_enabled params (r := r)]

/-- Neither the trip of the period that ends nor the offset is touched before the load. -/
theorem advance_tripped_offset : (r.advance params).tripped = r.tripped ∧ (r.advance params).offset = r.offset := by
  have henable : (r.periodEnable params).tripped = r.tripped ∧ (r.periodEnable params).offset = r.offset := by
    unfold Regulator.periodEnable
    split <;> exact ⟨rfl, rfl⟩
  unfold Regulator.advance Regulator.move
  split <;> exact henable

theorem rampEnds_of_ne (h : r.wanted ≠ .ramping) : r.rampEnds params = false := by simp [Regulator.rampEnds, h]

theorem rampEnds_of_ramping (h : r.wanted = .ramping) :
    r.rampEnds params = decide (r.enabled = false ∨ r.setpoint ≤ params.ramp) := by
  have hmove (x : Nat) : moveToward x 0 params.ramp = x - params.ramp := by
    rw [moveToward_eq, if_neg (Nat.not_lt_zero x), Nat.zero_max]
  simp only [Regulator.rampEnds, h, decide_true, Bool.true_and, advance_of_ramping params h, hmove]
  cases he : r.enabled with
  | true => simp [periodEnable_of_enabled params he, Nat.sub_eq_zero_iff_le]
  | false => simp [periodEnable_of_pending params he (by simp [h])]

end Regulator

/-! ## The regulator's stage -/

/-- What the supervisor makes of a corner whose ramp is complete: its driver is disabled (R84, R119, R123). -/
structure RampEnded (engaged : Prop) (k k' : CornerPart) : Prop where
  banks : k'.banks = k.banks
  reasons : k'.reasons = k.reasons
  reg : k'.reg = k.reg.disable ∨ k'.reg = k.reg.disable.endCalibration
  regulating : engaged → k.state = .control → k'.state = .control

theorem rampEnded_rampDone (c : Corner) (p : Part) :
    RampEnded (p.control = .engaged) (p.corner c) ((rampDone c p).corner c) := by
  have hoff (hr : p.control = .releasing) : RampEnded (p.control = .engaged) (p.corner c)
      ((judgeReleased (p.modCorner c CornerPart.turnOff)).corner c) := by
    obtain ⟨-, m, hm⟩ := Beside.judgeReleased c (p.modCorner c CornerPart.turnOff)
    rw [hm, Part.corner_modCorner_self]
    exact ⟨rfl, rfl, .inr rfl, fun h => by simp [hr] at h⟩
  unfold rampDone
  split
  · exact hoff (by assumption)
  · exact hoff (by assumption)
  · rename_i hs _
    rw [Part.corner_modCorner_self]
    exact ⟨rfl, rfl, .inl rfl, fun _ h => by simp [hs] at h⟩
  · rw [Part.corner_modCorner_self]
    exact ⟨rfl, rfl, .inl rfl, fun _ h => h⟩

/-- What a period start makes of a corner at its regulator; `r` is the regulator before the load. -/
structure Regulated (params : Params) (engaged : Prop) (k k' : CornerPart) (r : Regulator) : Prop where
  reg : k'.reg = r.load params
  tripped : r.tripped = k.reg.tripped
  offset : r.offset = k.reg.offset
  banks : k'.banks = k.banks
  reasons : k'.reasons = k.reasons
  goesOn : k.reg.rampEnds params = false → r = k.reg.advance params ∧ k'.state = k.state
  ends : k.reg.rampEnds params = true → r.enabled = false ∧ r.setpoint = 0 ∧ r.duty = 0
  regulating : engaged → k.state = .control → k'.state = .control

theorem regulated_regulatorPeriodStart (c : Corner) (p : Part) :
    ∃ r, Regulated p.params (p.control = .engaged) (p.corner c) ((regulatorPeriodStart c p).corner c) r := by
  obtain ⟨htripped, hoffset⟩ := advance_tripped_offset (r := (p.corner c).reg) p.params
  unfold regulatorPeriodStart
  dsimp only
  rw [Part.corner_modCorner_self]
  split
  · rename_i hends
    have hended := rampEnded_rampDone c (p.modCorner c fun k => { k with reg := k.reg.advance p.params })
    rw [Part.corner_modCorner_self] at hended
    refine ⟨_, by rw [(OnlySupervisory.rampDone c _).params]; rfl, ?_, ?_, hended.banks, hended.reasons,
      fun h => by simp [h] at hends, fun _ => ?_, hended.regulating⟩
    · rcases hended.reg with h | h <;> rw [h] <;> exact htripped
    · rcases hended.reg with h | h <;> rw [h] <;> exact hoffset
    · rcases hended.reg with h | h <;> rw [h] <;> exact ⟨rfl, rfl, rfl⟩
  · rename_i hends
    rw [Part.corner_modCorner_self]
    exact ⟨(p.corner c).reg.advance p.params, rfl, htripped, hoffset, rfl, rfl, fun _ => ⟨rfl, rfl⟩,
      fun h => absurd h hends, fun _ h => h⟩

/-! ## The scrub's stage (R71) -/

/-- What the scrub at a word makes of a corner. -/
inductive Scrubbed (engaged : Bool) (word : Nat) (k : CornerPart) : CornerPart → Prop
  | intact (m : Motion) (h : ∀ id, k.banks.inUse = some id → (k.banks.get id).intact word = true) :
    Scrubbed engaged word k { k with motion := m }
  | upset (m : Motion) (id : BankId) (hid : k.banks.inUse = some id) (h : (k.banks.get id).intact word = false) :
    Scrubbed engaged word k { reaction engaged (corrupted id k) with motion := m }

theorem scrubbed_scrubCorner (c : Corner) (p : Part) :
    Scrubbed (decide (p.control = .engaged)) p.store.scrub (p.corner c) ((scrubCorner c p).corner c) := by
  unfold scrubCorner
  split
  · rename_i hnone
    exact .intact _ fun id hid => by simp [hnone] at hid
  · rename_i id hid
    split
    · refine .intact _ fun id' hid' => ?_
      rw [hid] at hid'
      obtain rfl := Option.some.inj hid'
      assumption
    · rename_i hupset
      obtain ⟨m, hm⟩ := corruptActive_corner_self c id p
      rw [hm]
      exact .upset m id hid (Bool.eq_false_iff.mpr hupset)

/-! ## The supply sample's stage (R109 to R111) -/

theorem reaction_of_passive {k : CornerPart} {b : Bool} (engaged : Bool) (hs : k.state = .passive b)
    (hr : k.reasons.none = false) : reaction engaged k = k := by
  cases engaged <;> simp [reaction, hs, hr]

/-- A second act on the same reasons changes nothing. -/
theorem reaction_reaction (engaged : Bool) (k : CornerPart) : reaction engaged (reaction engaged k) = reaction engaged k := by
  rcases reaction_cases engaged k with h | ⟨-, hr, -, h⟩ | ⟨-, hr, -, h⟩
  · rw [h, h]
  · rw [h]
    exact reaction_of_passive engaged rfl hr
  · have hstay : reaction engaged (returned k) = returned k := by
      cases engaged
      · rfl
      · exact if_pos hr
    rw [h, hstay]

/-- The corner with the reason SUPPLY put in or taken out (R111). -/
def withSupply (present : Bool) (k : CornerPart) : CornerPart := { k with reasons := k.reasons.put .supply present }

theorem putReason_corner_self (present : Bool) (c : Corner) (p : Part) : (putReason .supply present c p).corner c =
    reaction (decide (p.control = .engaged)) (withSupply present (p.corner c)) := by
  rw [putReason, supervise_corner_self, Part.corner_modCorner_self]
  rfl

/-- A reason put at every corner acts at each alone. -/
theorem putSupply_corner (present : Bool) (c : Corner) (p : Part) : (forCorners (putReason .supply present) p).corner c =
    reaction (decide (p.control = .engaged)) (withSupply present (p.corner c)) := by
  refine forCorners_corner (f := putReason .supply present)
    (g := fun p k => reaction (decide (p.control = .engaged)) (withSupply present k))
    (putReason_corner_self present) (fun c d p h => putReason_corner_of_ne .supply present c h p) (fun c p k => ?_) c p
  rw [putReason_control]

/-- What a supply sample makes of a corner. -/
inductive Supplied (engaged : Bool) (k : CornerPart) : CornerPart → Prop
  | same : Supplied engaged k k
  | changed (present : Bool) : Supplied engaged k (reaction engaged (withSupply present k))

theorem assertSupply_corner (detector : Byte) (c : Corner) (p : Part) : (assertSupply detector p).corner c =
    reaction (decide (p.control = .engaged)) (withSupply true (p.corner c)) := by
  rw [assertSupply, putSupply_corner, raise_control, raise_corner]

/-- The second of two assertions at one sample finds the reason there already. -/
theorem withSupply_reaction (engaged present : Bool) (k : CornerPart) :
    withSupply present (reaction engaged (withSupply present k)) = reaction engaged (withSupply present k) := by
  have hreasons : (reaction engaged (withSupply present k)).reasons.put .supply present =
      (reaction engaged (withSupply present k)).reasons := by
    rw [reaction_reasons]
    rfl
  rw [withSupply, hreasons]

/-- The cases of a supply sample: one or both detectors assert, or the last of them clears, or nothing comes of it. -/
theorem supplySample_cases (mv : Nat) (p : Part) : ∃ q, q = p.setSupply (p.supply.step p.params mv) ∧
    (supplySample mv p = q ∨ (∃ x, supplySample mv p = assertSupply x q) ∨
      (∃ x y, supplySample mv p = assertSupply x (assertSupply y q)) ∨
      supplySample mv p = forCorners (putReason .supply false) q) := by
  refine ⟨_, rfl, ?_⟩
  have hclears {after before : Supply} (h : ((before.low || before.high) && !(after.low || after.high)) = true) :
      after.low = false ∧ after.high = false := by
    simpa using (Bool.and_eq_true_iff.mp h).2
  unfold supplySample
  dsimp only
  split
  · rename_i hclear
    obtain ⟨hlow, hhigh⟩ := hclears hclear
    rw [hlow, hhigh]
    exact .inr (.inr (.inr rfl))
  · split
    · split
      · exact .inr (.inr (.inl ⟨1, 0, rfl⟩))
      · exact .inr (.inl ⟨1, rfl⟩)
    · split
      · exact .inr (.inl ⟨0, rfl⟩)
      · exact .inl rfl

theorem supplied_supplySample (mv : Nat) (c : Corner) (p : Part) :
    Supplied (decide (p.control = .engaged)) (p.corner c) ((supplySample mv p).corner c) := by
  obtain ⟨q, rfl, h | ⟨x, h⟩ | ⟨x, y, h⟩ | h⟩ := supplySample_cases mv p
  · rw [h]
    exact .same
  · rw [h, assertSupply_corner]
    exact .changed true
  · rw [h, assertSupply_corner, assertSupply_corner, assertSupply_control, withSupply_reaction, reaction_reaction]
    exact .changed true
  · rw [h, putSupply_corner]
    exact .changed false

theorem onlySupervisory_supplySample (mv : Nat) (p : Part) :
    OnlySupervisory (p.setSupply (p.supply.step p.params mv)) (supplySample mv p) := by
  obtain ⟨q, rfl, h | ⟨x, h⟩ | ⟨x, y, h⟩ | h⟩ := supplySample_cases mv p
  · rw [h]
    exact .refl _
  · rw [h]
    exact .assertSupply _ _
  · rw [h]
    exact (OnlySupervisory.assertSupply _ _).trans (.assertSupply _ _)
  · rw [h]
    exact .forCorners (fun c q => .putReason .supply false c q) _

/-! ## The part at a period start -/

/-- The part at a period start once its regulators have acted. -/
def regulated (mv : Nat) (p : Part) : Part :=
  forCorners regulatorPeriodStart ((p.modPwm (fun w => w.start p.params)).modPins (fun x => { x with supplyMv := mv }))

/-- The part at a period start when only the reading of validation is left. -/
def beforeReading (mv : Nat) (p : Part) : Part := supplySample mv (scrub (regulated mv p))

theorem onlySupervisory_regulated (mv : Nat) (p : Part) : OnlySupervisory
    ((p.modPwm (fun w => w.start p.params)).modPins (fun x => { x with supplyMv := mv })) (regulated mv p) :=
  .forCorners .regulatorPeriodStart _

theorem onlySupervisory_scrubbed (p : Part) : OnlySupervisory p (forCorners scrubCorner p) := .forCorners .scrubCorner p

theorem outside_scrub (p : Part) : outside (scrub p) = (outside p).modStore (fun k =>
    { k with scrub := if k.scrub + 1 < Config.imageWords then k.scrub + 1 else 0 }) := by
  rw [← (onlySupervisory_scrubbed p).outside]
  rfl

theorem outside_supplySample (mv : Nat) (p : Part) :
    outside (supplySample mv p) = (outside p).setSupply (p.supply.step p.params mv) :=
  (onlySupervisory_supplySample mv p).outside

theorem outside_beforeReading (mv : Nat) (p : Part) : outside (beforeReading mv p) = { outside p with
    pwm := p.pwm.start p.params
    pins := { p.pins with supplyMv := mv }
    supply := p.supply.step p.params mv
    store := { p.store with scrub := if p.store.scrub + 1 < 144 then p.store.scrub + 1 else 0 } } := by
  have hregulated := onlySupervisory_regulated mv p
  have hsupply : (scrub (regulated mv p)).supply = p.supply := (scrub_supply _).trans hregulated.supply
  have hparams : (scrub (regulated mv p)).params = p.params := (scrub_params _).trans hregulated.params
  rw [beforeReading, outside_supplySample, outside_scrub, hregulated.outside, hsupply, hparams]
  rfl

/-! ## The four stages of a corner -/

theorem reaction_motion (engaged : Bool) (k : CornerPart) (m : Motion) :
    reaction engaged { k with motion := m } = { reaction engaged k with motion := m } := by
  unfold reaction
  dsimp only
  split
  case h_5 => rfl
  all_goals split <;> rfl

/-- The regulator's stage reads no motion record. -/
theorem Regulated.withMotions {params : Params} {engaged : Prop} {k k' : CornerPart} {r : Regulator} {m : Motion}
    (h : Regulated params engaged { k with motion := m } k' r) (m' : Motion) :
    Regulated params engaged k { k' with motion := m' } r :=
  ⟨h.reg, h.tripped, h.offset, h.banks, h.reasons, h.goesOn, h.ends, h.regulating⟩

/-- The scrub's stage reads no motion record. -/
theorem Scrubbed.withMotions {engaged : Bool} {word : Nat} {k k' : CornerPart} {m : Motion}
    (h : Scrubbed engaged word { k with motion := m } k') (m' : Motion) :
    Scrubbed engaged word k { k' with motion := m' } := by
  cases h with
  | intact _ h => exact .intact m' h
  | upset _ id hid h =>
    have hreaction := reaction_motion engaged (corrupted id k) m
    change Scrubbed engaged word k { reaction engaged { corrupted id k with motion := m } with motion := m' }
    rw [hreaction]
    exact .upset m' id hid h

theorem regulated_corner (mv : Nat) (c : Corner) (p : Part) :
    ∃ r, Regulated p.params (p.control = .engaged) (p.corner c) ((regulated mv p).corner c) r := by
  obtain ⟨q, ⟨hq, m, hm⟩, -, m', hm'⟩ := Beside.forCorners (f := regulatorPeriodStart)
    (fun q h => Beside.regulatorPeriodStart h q) c
    ((p.modPwm (fun w => w.start p.params)).modPins (fun x => { x with supplyMv := mv }))
  obtain ⟨r, hr⟩ := regulated_regulatorPeriodStart c q
  have hengaged : (q.control = .engaged) = (p.control = .engaged) := propext hq.engaged
  have hparams : q.params = p.params := hq.params
  rw [hm, hparams, hengaged] at hr
  rw [regulated, hm']
  exact ⟨r, hr.withMotions m'⟩

theorem scrubbed_scrub (c : Corner) (p : Part) :
    Scrubbed (decide (p.control = .engaged)) p.store.scrub (p.corner c) ((scrub p).corner c) := by
  obtain ⟨q, ⟨hq, m, hm⟩, -, m', hm'⟩ := Beside.forCorners (f := scrubCorner) (fun q h => Beside.scrubCorner h q) c p
  have hscrubbed := scrubbed_scrubCorner c q
  rw [hm, hq.store, decide_eq_decide.mpr hq.engaged] at hscrubbed
  have hcorner : (scrub p).corner c = (forCorners scrubCorner p).corner c := rfl
  rw [hcorner, hm']
  exact hscrubbed.withMotions m'

theorem scrub_engaged (p : Part) : (scrub p).control = .engaged ↔ p.control = .engaged :=
  (onlySupervisory_scrubbed p).engaged

theorem regulated_engaged (mv : Nat) (p : Part) : (regulated mv p).control = .engaged ↔ p.control = .engaged :=
  (onlySupervisory_regulated mv p).engaged

/-- A corner's stages until the reading of validation, in their order. -/
inductive FirstStages (params : Params) (engaged : Bool) (word : Nat) (k : CornerPart) : CornerPart → Prop
  | mk {r : Regulator} {k1 k2 k3 : CornerPart} (regulator : Regulated params (engaged = true) k k1 r)
    (scrub : Scrubbed engaged word k1 k2) (supply : Supplied engaged k2 k3) : FirstStages params engaged word k k3

/-- What a period start makes of a corner: the reading of validation comes last. -/
inductive Stages (params : Params) (engaged : Bool) (word : Nat) (k : CornerPart) : CornerPart → Prop
  | mk {k3 k4 : CornerPart} (first : FirstStages params engaged word k k3) (reading : ReadFor k3 k4) :
    Stages params engaged word k k4

theorem firstStages_beforeReading (mv : Nat) (c : Corner) (p : Part) : FirstStages p.params
    (decide (p.control = .engaged)) p.store.scrub (p.corner c) ((beforeReading mv p).corner c) := by
  obtain ⟨r, hr⟩ := regulated_corner mv c p
  have hscrub := scrubbed_scrub c (regulated mv p)
  have hsupply := supplied_supplySample mv c (scrub (regulated mv p))
  have hstore : (regulated mv p).store = p.store := (onlySupervisory_regulated mv p).store
  have hcontrol : (scrub (regulated mv p)).control = .engaged ↔ p.control = .engaged :=
    (scrub_engaged (regulated mv p)).trans (regulated_engaged mv p)
  rw [decide_eq_decide.mpr (regulated_engaged mv p), hstore] at hscrub
  rw [decide_eq_decide.mpr hcontrol] at hsupply
  rw [← decide_eq_true_eq (p := p.control = .engaged)] at hr
  exact .mk hr hscrub hsupply

theorem stages_periodStart (mv : Nat) (c : Corner) (p : Part) :
    Stages p.params (decide (p.control = .engaged)) p.store.scrub (p.corner c) ((periodStart mv p).corner c) :=
  .mk (firstStages_beforeReading mv c p) (readFor_validationReading c (beforeReading mv p))

/-! ## What the stages after the regulator's leave of it -/

/-- What the supervisor leaves of a regulator: all but its mode, its target and its calibration. -/
def DriverKept (r r' : Regulator) : Prop :=
  ∃ wanted target calibration, r' = { r with wanted := wanted, target := target, calibration := calibration }

theorem DriverKept.refl (r : Regulator) : DriverKept r r := ⟨_, _, _, rfl⟩

theorem DriverKept.trans {r r' r'' : Regulator} (h : DriverKept r r') (h' : DriverKept r' r'') : DriverKept r r'' := by
  obtain ⟨_, _, _, rfl⟩ := h
  obtain ⟨_, _, _, rfl⟩ := h'
  exact ⟨_, _, _, rfl⟩

theorem driverKept_reaction (engaged : Bool) (k : CornerPart) : DriverKept k.reg (reaction engaged k).reg := by
  rcases reaction_cases engaged k with h | ⟨-, -, -, h⟩ | ⟨-, -, -, h⟩ <;> rw [h] <;> exact ⟨_, _, _, rfl⟩

theorem Scrubbed.driverKept {engaged : Bool} {word : Nat} {k k' : CornerPart} (h : Scrubbed engaged word k k') :
    DriverKept k.reg k'.reg := by
  cases h with
  | intact => exact .refl _
  | upset _ id => exact driverKept_reaction engaged (corrupted id k)

theorem Supplied.driverKept {engaged : Bool} {k k' : CornerPart} (h : Supplied engaged k k') : DriverKept k.reg k'.reg := by
  cases h with
  | same => exact .refl _
  | changed present => exact driverKept_reaction engaged (withSupply present k)

theorem Stages.driverKept {params : Params} {engaged : Bool} {word : Nat} {k k' : CornerPart}
    (h : Stages params engaged word k k') :
    ∃ k1 r, Regulated params (engaged = true) k k1 r ∧ DriverKept (r.load params) k'.reg := by
  obtain ⟨⟨hr, hscrub, hsupply⟩, hread⟩ := h
  have hkept := hscrub.driverKept.trans hsupply.driverKept
  rw [hr.reg] at hkept
  obtain ⟨b, -⟩ := hread
  exact ⟨_, _, hr, hkept⟩

/-! ## What the later stages make of banks, reasons and state -/

theorem Supplied.banks_map {engaged : Bool} {k k' : CornerPart} (h : Supplied engaged k k') :
    k'.banks = k.banks ∧ k'.reasons.map = k.reasons.map := by
  cases h with
  | same => exact ⟨rfl, rfl⟩
  | changed present =>
    rw [reaction_banks, reaction_reasons]
    exact ⟨rfl, rfl⟩

/-- A PASSIVE corner that has MAP stays PASSIVE whatever the supply. -/
theorem Supplied.eq_of_passive {engaged : Bool} {k k' : CornerPart} (h : Supplied engaged k k') {b : Bool}
    (hs : k.state = .passive b) (hm : k.reasons.map = true) : k'.state = .passive b := by
  cases h with
  | same => exact hs
  | changed present =>
    rw [reaction_of_passive (k := withSupply present k) engaged hs]
    · exact hs
    · simp [withSupply, Reasons.none, Reasons.put, hm]

/-- The bank in use after the scrub's word (R70, R71). -/
theorem Scrubbed.bankInUse {engaged : Bool} {word : Nat} {k k' : CornerPart} (h : Scrubbed engaged word k k') {id : BankId}
    (hid : k.banks.inUse = some id) :
    ((k.banks.get id).intact word = true → k'.banks = k.banks) ∧
      ((k.banks.get id).intact word = false →
        k'.banks = k.banks.modBank id (fun b => { b with state := .corrupt }) ∧ k'.reasons.map = true ∧
        (engaged = true → k.state = .control → k'.state = .passive false)) := by
  cases h with
  | intact m hintact => exact ⟨fun _ => rfl, fun hupset => by simp [hintact id hid] at hupset⟩
  | upset m id' hid' hupset =>
    rw [hid] at hid'
    obtain rfl := Option.some.inj hid'
    refine ⟨fun hintact => by simp [hupset] at hintact, fun _ => ⟨reaction_banks _ _, ?_, fun he hs => ?_⟩⟩
    · dsimp only
      rw [reaction_reasons]
      rfl
    · rw [he, reaction_of_control (k := corrupted id k) hs (corrupted_reasons_none id k)]
      rfl

/-- The bank in use after a period start: ACTIVE still, or CORRUPT with what follows from it (R70, R71). -/
theorem Stages.bankInUse {params : Params} {engaged : Bool} {word : Nat} {k k' : CornerPart}
    (h : Stages params engaged word k k') {id : BankId} (hid : k.banks.active = some id)
    (hactive : (k.banks.get id).state = .active) :
    ((k.banks.get id).intact word = true → (k'.banks.get id).state = .active) ∧
      ((k.banks.get id).intact word = false → (k'.banks.get id).state = .corrupt ∧ k'.reasons.map = true ∧
        (engaged = true → k.state = .control → k'.state = .passive false)) := by
  obtain ⟨⟨hr, hscrub, hsupply⟩, hread⟩ := h
  obtain ⟨hbanks, hmap⟩ := hsupply.banks_map
  have hinUse : k.banks.inUse = some id := by simp [Banks.inUse, hid, hactive]
  have hscrubbed := hscrub.bankInUse (hr.banks ▸ hinUse)
  rw [hr.banks] at hscrubbed
  obtain ⟨b, hb⟩ := hread
  rw [hbanks] at hb
  refine ⟨fun hintact => ?_, fun hupset => ?_⟩
  · rw [hscrubbed.1 hintact] at hb
    rw [← hactive, ← hb id hid]
  · obtain ⟨hcorrupt, hscrubbedMap, hpassive⟩ := hscrubbed.2 hupset
    rw [hcorrupt] at hb
    refine ⟨?_, hmap.trans hscrubbedMap, fun he hs => hsupply.eq_of_passive (hpassive he (hr.regulating he hs)) hscrubbedMap⟩
    dsimp only
    rw [hb id (by rw [modBank_active, hid]), get_modBank_self]

/-! ## A calibration in progress (R79, R80) -/

/-- A corner that waits for its calibration goes on waiting, or in ENGAGED has entered PASSIVE from its recalibration with a
reason that it still has. -/
def StillWaits (engaged : Bool) (k k' : CornerPart) : Prop :=
  (k'.state = k.state ∧ k'.reg.calibration = k.reg.calibration) ∨
    (engaged = true ∧ (∃ b, k.state = .calibrating .recal b) ∧ (∃ b, k'.state = .passive b) ∧ k'.reasons.none = false)

/-- The corner is in a state that a calibration belongs to (R79). -/
def Waits (k : CornerPart) : Prop := (∃ purpose b, k.state = .calibrating purpose b) ∨ ∃ r, k.state = .test .cal r

theorem stillWaits_reaction (engaged : Bool) {k : CornerPart} (h : Waits k) : StillWaits engaged k (reaction engaged k) := by
  have hnot : k.state ≠ .control ∧ k.state ≠ .suspended ∧ ∀ b, k.state ≠ .passive b := by
    rcases h with ⟨_, _, h⟩ | ⟨_, h⟩ <;> simp [h]
  obtain ⟨hcontrol, hsuspended, hpassive⟩ := hnot
  rcases reaction_cases engaged k with h | ⟨he, hr, hs, h⟩ | ⟨-, -, ⟨b, hs⟩, -⟩
  · rw [h]
    exact .inl ⟨rfl, rfl⟩
  · rw [h]
    exact .inr ⟨he, (hs.resolve_left hcontrol).resolve_left hsuspended, ⟨false, rfl⟩, hr⟩
  · exact absurd hs (hpassive b)

theorem Supplied.stillWaits {engaged : Bool} {k k' : CornerPart} (h : Supplied engaged k k') (hk : Waits k) :
    StillWaits engaged k k' := by
  cases h with
  | same => exact .inl ⟨rfl, rfl⟩
  | changed present => exact stillWaits_reaction engaged (k := withSupply present k) hk

/-- The scrub and the supply sample leave a waiting corner waiting, or take it to PASSIVE with a reason. -/
theorem Scrubbed.stillWaits {engaged : Bool} {word : Nat} {k k' k'' : CornerPart} (h : Scrubbed engaged word k k')
    (h' : Supplied engaged k' k'') (hk : Waits k) : StillWaits engaged k k'' := by
  cases h with
  | intact m _ => exact h'.stillWaits (k := { k with motion := m }) hk
  | upset m id _ _ =>
    rcases stillWaits_reaction engaged (k := corrupted id k) hk with ⟨hstate, hcalibration⟩ | ⟨he, hrecal, ⟨b, hs⟩, -⟩
    · have hwaits : Waits { reaction engaged (corrupted id k) with motion := m } := by
        unfold Waits at hk ⊢
        rwa [hstate]
      have hstill := h'.stillWaits hwaits
      unfold StillWaits at hstill ⊢
      rw [hstate, hcalibration] at hstill
      exact hstill
    · have hmap : (reaction engaged (corrupted id k)).reasons.map = true := by
        rw [reaction_reasons]
        rfl
      obtain ⟨-, hmap'⟩ := h'.banks_map
      refine .inr ⟨he, hrecal, ⟨b, h'.eq_of_passive hs hmap⟩, ?_⟩
      simp [Reasons.none, hmap', hmap]

/-- A calibration requested begins where its corner goes on waiting, and only a reason in ENGAGED keeps it from that (R79, R80,
R122). -/
theorem Stages.calibration {params : Params} {engaged : Bool} {word : Nat} {k k' : CornerPart}
    (h : Stages params engaged word k k') {x : Calibration} (hx : k.reg.calibration = some x)
    (hw : k.reg.wanted = .disabled) (hk : Waits k) :
    (k'.state = k.state → k'.reg.calibration = some { x with begun := true }) ∧
      (engaged = false ∨ (∀ b, k.state ≠ .calibrating .recal b) ∨ k'.reasons = ⟨false, false, false, false, false⟩ →
        k'.state = k.state) := by
  obtain ⟨⟨hr, hscrub, hsupply⟩, hread⟩ := h
  obtain ⟨hadvanced, hstate⟩ := hr.goesOn (rampEnds_of_ne params (by simp [hw]))
  have hbegun : (Regulator.load (Regulator.advance k.reg params) params).calibration = some { x with begun := true } := by
    rw [advance_of_disabled params hw, Regulator.load, hx]
    rfl
  have hwaits := hscrub.stillWaits hsupply (by
    unfold Waits at hk ⊢
    rwa [hstate])
  unfold StillWaits at hwaits
  rw [hstate, hr.reg, hadvanced, hbegun] at hwaits
  obtain ⟨b, -⟩ := hread
  rcases hwaits with ⟨hsame, hcalibration⟩ | ⟨he, ⟨b, hrecal⟩, ⟨b', hpassive⟩, hreason⟩
  · exact ⟨fun _ => hcalibration, fun _ => hsame⟩
  · refine ⟨fun h => by simp [hpassive, hrecal] at h, ?_⟩
    rintro (h | h | h)
    · simp [he] at h
    · exact absurd hrecal (h b)
    · dsimp only at h
      simp [h, Reasons.none] at hreason

/-! ## The regulator after a period start (R76, R77, R82 to R84, R88) -/

section Regulator

variable {params : Params} {engaged : Bool} {word : Nat} {k k' : CornerPart} (h : Stages params engaged word k k')

include h

/-- What every period start makes of a regulator. -/
theorem Stages.started : k'.reg.sampled = false ∧ k'.reg.tripped = false ∧ k'.reg.trippedBefore = k.reg.tripped ∧
    k'.reg.overRun = 0 ∧ k'.reg.offset = k.reg.offset ∧
    k'.reg.point = (if params.sampleMin ≤ k'.reg.compare then .valley else .peak) := by
  obtain ⟨k1, r, hr, wanted, target, calibration, hreg⟩ := h.driverKept
  rw [hreg]
  exact ⟨rfl, rfl, hr.tripped, rfl, hr.offset, rfl⟩

theorem Stages.compare : k'.reg.compare = if k'.reg.enabled then k'.reg.duty * params.pwmHalf / 32768 else 0 := by
  obtain ⟨k1, r, hr, wanted, target, calibration, hreg⟩ := h.driverKept
  rw [hreg]
  rfl

/-- The setpoint of a tracking regulator moves, its enable taken where it was pending (R82, R83). -/
theorem Stages.tracking (hw : k.reg.wanted = .tracking) :
    k'.reg.enabled = true ∧
      k'.reg.setpoint =
        (let start := if k.reg.enabled then k.reg.setpoint else 0
         let aim := min k.reg.target params.currentLimit
         if start < aim then min aim (start + params.slew) else max aim (start - params.slew)) ∧
      k'.reg.compare = k'.reg.duty * params.pwmHalf / 32768 ∧
      (k.reg.enabled = true → k'.reg.duty = k.reg.duty ∧ k'.reg.u = k.reg.u ∧ k'.reg.e1 = k.reg.e1 ∧ k'.reg.e2 = k.reg.e2) ∧
      (k.reg.enabled = false → k'.reg.duty = params.dutyMin ∧ k'.reg.u = params.dutyMin * 65536 ∧ k'.reg.e1 = 0 ∧
        k'.reg.e2 = 0 ∧ k'.reg.firstTrip = false) := by
  obtain ⟨k1, r, hr, wanted, target, calibration, hreg⟩ := h.driverKept
  obtain ⟨rfl, -⟩ := hr.goesOn (rampEnds_of_ne params (by simp [hw]))
  have hadvanced := advance_of_tracking params hw
  have hcompare := h.compare
  cases he : k.reg.enabled with
  | true =>
    rw [periodEnable_of_enabled params he] at hadvanced
    have henabled : k'.reg.enabled = true := by
      rw [hreg, hadvanced]
      exact he
    rw [henabled] at hcompare
    refine ⟨henabled, ?_, hcompare, fun _ => ?_, nofun⟩ <;> rw [hreg, hadvanced]
    · exact moveToward_eq _ _ _
    · exact ⟨rfl, rfl, rfl, rfl⟩
  | false =>
    rw [periodEnable_of_pending params he (by simp [hw])] at hadvanced
    have henabled : k'.reg.enabled = true := by
      rw [hreg, hadvanced]
      rfl
    rw [henabled] at hcompare
    refine ⟨henabled, ?_, hcompare, nofun, fun _ => ?_⟩ <;> rw [hreg, hadvanced]
    · exact moveToward_eq _ _ _
    · exact ⟨rfl, rfl, rfl, rfl, rfl⟩

/-- A ramp that goes on moves by RAMP (R83). -/
theorem Stages.ramping (hw : k.reg.wanted = .ramping) (he : k.reg.enabled = true) (hs : params.ramp < k.reg.setpoint) :
    k'.reg.enabled = true ∧ k'.reg.setpoint = k.reg.setpoint - params.ramp ∧ k'.reg.duty = k.reg.duty ∧
      k'.reg.compare = k.reg.duty * params.pwmHalf / 32768 := by
  obtain ⟨k1, r, hr, wanted, target, calibration, hreg⟩ := h.driverKept
  have hgoesOn : k.reg.rampEnds params = false := by
    rw [rampEnds_of_ramping params hw]
    simp [he, hs]
  obtain ⟨rfl, -⟩ := hr.goesOn hgoesOn
  have hadvanced := advance_of_ramping params hw
  rw [periodEnable_of_enabled params he, moveToward_eq, if_neg (Nat.not_lt_zero _), Nat.zero_max] at hadvanced
  have henabled : k'.reg.enabled = true := by
    rw [hreg, hadvanced]
    exact he
  have hduty : k'.reg.duty = k.reg.duty := by
    rw [hreg, hadvanced]
    rfl
  have hcompare := h.compare
  rw [henabled, hduty] at hcompare
  refine ⟨henabled, ?_, hduty, hcompare⟩
  rw [hreg, hadvanced]
  rfl

/-- A ramp that ends leaves the driver disabled (R84). -/
theorem Stages.rampEnded (hw : k.reg.wanted = .ramping) (hs : k.reg.enabled = false ∨ k.reg.setpoint ≤ params.ramp) :
    k'.reg.enabled = false ∧ k'.reg.setpoint = 0 ∧ k'.reg.duty = 0 ∧ k'.reg.compare = 0 := by
  obtain ⟨k1, r, hr, wanted, target, calibration, hreg⟩ := h.driverKept
  have hends : k.reg.rampEnds params = true := by
    rw [rampEnds_of_ramping params hw]
    exact decide_eq_true hs
  obtain ⟨henabled, hsetpoint, hduty⟩ := hr.ends hends
  rw [hreg]
  refine ⟨henabled, hsetpoint, hduty, ?_⟩
  simp [Regulator.load, Regulator.compareOf, henabled]

/-- A disabled regulator stays as it is (R76). -/
theorem Stages.disabled (hw : k.reg.wanted = .disabled) (he : k.reg.enabled = false) :
    k'.reg.enabled = false ∧ k'.reg.setpoint = k.reg.setpoint ∧ k'.reg.duty = k.reg.duty ∧ k'.reg.compare = 0 := by
  obtain ⟨k1, r, hr, wanted, target, calibration, hreg⟩ := h.driverKept
  obtain ⟨rfl, -⟩ := hr.goesOn (rampEnds_of_ne params (by simp [hw]))
  rw [hreg, advance_of_disabled params hw]
  refine ⟨he, rfl, rfl, ?_⟩
  simp [Regulator.load, Regulator.compareOf, he]

end Regulator

/-! ## The part after a period start -/

theorem frame_of_reading {w : Pwm} {x : Pins} {k : Supply} {store : Store} {p q t : Part}
    (hbefore : outside q = { outside p with pwm := w, pins := x, supply := k, store := store }) (hread : OnlyReading q t) :
    t.pwm = w ∧ t.pins = x ∧ t.store.scrub = store.scrub ∧ t.now = p.now ∧ t.tracker = p.tracker ∧ t.context = p.context ∧
      t.params = p.params ∧ t.schedule = p.schedule ∧ t.selection = p.selection ∧ t.portW = p.portW ∧
      t.globals = p.globals ∧ t.intervalAt = p.intervalAt := by
  rw [OnlyReading] at hread
  rw [hread]
  exact ⟨(congrArg Part.pwm hbefore :), (congrArg Part.pins hbefore :), (congrArg (·.store.scrub) hbefore :),
    (congrArg Part.now hbefore :), (congrArg Part.tracker hbefore :), (congrArg Part.context hbefore :),
    (congrArg Part.params hbefore :), (congrArg Part.schedule hbefore :), (congrArg Part.selection hbefore :),
    (congrArg Part.portW hbefore :), (congrArg Part.globals hbefore :), (congrArg Part.intervalAt hbefore :)⟩

theorem periodStart_frame (mv : Nat) (p : Part) :
    (periodStart mv p).pwm = p.pwm.start p.params ∧ (periodStart mv p).pins = { p.pins with supplyMv := mv } ∧
      (periodStart mv p).store.scrub = (if p.store.scrub + 1 < 144 then p.store.scrub + 1 else 0) ∧
      (periodStart mv p).now = p.now ∧ (periodStart mv p).tracker = p.tracker ∧ (periodStart mv p).context = p.context ∧
      (periodStart mv p).params = p.params ∧ (periodStart mv p).schedule = p.schedule ∧
      (periodStart mv p).selection = p.selection ∧ (periodStart mv p).portW = p.portW ∧
      (periodStart mv p).globals = p.globals ∧ (periodStart mv p).intervalAt = p.intervalAt :=
  frame_of_reading (outside_beforeReading mv p) (onlyReading_validationReading (beforeReading mv p))

/-- The scrub of an upset word in use raises MAP_PARITY (R70, R71). -/
theorem pendingEvent_scrub {c : Corner} {p : Part} {id : BankId} (hid : (p.corner c).banks.inUse = some id)
    (hupset : ((p.corner c).banks.get id).intact p.store.scrub = false) : pendingEvent (scrub p) (.mapParity c) := by
  obtain ⟨q, ⟨hq, m, hm⟩, hrest, -⟩ := Beside.forCorners (f := scrubCorner) (fun q h => Beside.scrubCorner h q) c p
  have hcorrupts : scrubCorner c q = corruptActive c id q := by
    have hbanks : (q.corner c).banks = (p.corner c).banks := by rw [hm]
    simp only [scrubCorner, hbanks, hid, hq.store, hupset, Bool.false_eq_true, if_false]
  rw [hcorrupts] at hrest
  exact hrest.events _ (pendingEvent_corruptActive c id q)

theorem pendingEvent_supplySample {p : Part} {e : Event} (h : pendingEvent p e) (mv : Nat) :
    pendingEvent (supplySample mv p) e := (onlySupervisory_supplySample mv p).events e h

theorem pendingEvent_validationReading {p : Part} {e : Event} (h : pendingEvent p e) :
    pendingEvent (validationReading p) e := by
  rw [pendingEvent, onlyReading_validationReading p]
  exact h

theorem pendingEvent_periodStart {mv : Nat} {c : Corner} {p : Part} {id : BankId}
    (hid : (p.corner c).banks.active = some id) (hactive : ((p.corner c).banks.get id).state = .active)
    (hupset : ((p.corner c).banks.get id).intact p.store.scrub = false) :
    pendingEvent (periodStart mv p) (.mapParity c) := by
  obtain ⟨r, hr⟩ := regulated_corner mv c p
  have hstore : (regulated mv p).store = p.store := (onlySupervisory_regulated mv p).store
  have hscrubbed : pendingEvent (scrub (regulated mv p)) (.mapParity c) := by
    apply pendingEvent_scrub (id := id)
    · rw [hr.banks]
      simp [Banks.inUse, hid, hactive]
    · rwa [hr.banks, hstore]
  exact pendingEvent_validationReading (pendingEvent_supplySample hscrubbed mv)

/-- The counter starts at P and no compare value is above it, so that every gate is off at the boundary (R76, R88). -/
theorem gate_periodStart {mv : Nat} {c : Corner} {p : Part} (h : ((periodStart mv p).corner c).reg.duty ≤ 32767) :
    (periodStart mv p).gate c = false := by
  obtain ⟨hpwm, -⟩ := periodStart_frame mv p
  rw [Bool.eq_false_iff, Ne, Part.gate_iff, (stages_periodStart mv c p).compare, hpwm]
  rintro ⟨henabled, -, hbelow⟩
  rw [if_pos henabled] at hbelow
  refine absurd hbelow (Nat.not_lt.mpr (Nat.div_le_of_le_mul ?_))
  exact Nat.mul_le_mul_right _ (by omega)

/-- Settles O44: the frame of a period start, and its four stages at each corner. -/
theorem periodStart : Obligations.PeriodStart := by
  refine ⟨Part.gate_iff, fun mv s => ?_⟩
  have hframe := periodStart_frame mv s.part
  have hstages (c : Corner) := stages_periodStart mv c s.part
  have hgate (c : Corner) := gate_periodStart (mv := mv) (c := c) (p := s.part)
  have hraised (c : Corner) (id : BankId) := pendingEvent_periodStart (mv := mv) (c := c) (p := s.part) (id := id)
  have hexec : exec (.pwmPeriodStart mv) s = .next ⟨Machine.periodStart mv s.part, s.pending⟩ := rfl
  rw [hexec]
  generalize Machine.periodStart mv s.part = t at *
  obtain ⟨hpwm, hpins, hscrub, hnow, htracker, hcontext, hparams, hschedule, hselection, hportW, hglobals, hinterval⟩ :=
    hframe
  refine ⟨⟨t, s.pending⟩, rfl, rfl, hpwm, hpins, hscrub, hnow, htracker, hcontext, hparams, hschedule, hselection, hportW,
    hglobals, hinterval, fun c => ?_⟩
  obtain ⟨hsampled, htripped, hbefore, hrun, hoffset, hpoint⟩ := (hstages c).started
  refine ⟨⟨hsampled, htripped, hbefore, hrun, hgate c, hoffset, hpoint⟩, fun id hid hactive => ?_,
    (hstages c).tracking, (hstages c).ramping, (hstages c).rampEnded, (hstages c).disabled, fun x hx hw hwaits => ?_⟩
  · obtain ⟨hintact, hupset⟩ := (hstages c).bankInUse hid hactive
    refine ⟨hintact, fun hword => ?_⟩
    obtain ⟨hcorrupt, hmap, hpassive⟩ := hupset hword
    exact ⟨hcorrupt, hmap, hraised c id hid hactive hword, fun hc => hpassive (decide_eq_true hc)⟩
  · obtain ⟨hbegins, hstays⟩ := (hstages c).calibration hx hw hwaits
    exact ⟨hbegins, fun h => hstays (h.imp_left fun hc => decide_eq_false hc)⟩

end Sys2Proof.PeriodStarts

/-! # The judgment of a bank (R59 to R61, R140, R141) -/

namespace Sys2Proof.BankJudgment

open Sys2Proof Sys2Proof.Machine Sys2Proof.Claims Sys2Proof.DamperMaps Sys2Proof.Supervisory Sys2Proof.ParityFailures
  Sys2Proof.ValidationReading Sys2Proof.PeriodStarts

/-! ## The bank under validation before its reading (R76) -/

/-- A change of the bank in use leaves the shadow as it is. -/
theorem shadow_modBank_inUse {k : Banks} {id : BankId} (h : k.inUse = some id) (f : Bank → Bank) :
    (k.modBank id f).get (k.modBank id f).shadow = k.get k.shadow := by
  have hactive : k.active = some id := by
    unfold Banks.inUse at h
    split at h
    · exact nomatch h
    · split at h
      · rename_i hk _
        rwa [Option.some.inj h] at hk
      · exact nomatch h
  have hshadow : (k.modBank id f).shadow = k.shadow := by rw [Banks.shadow, Banks.shadow, modBank_active]
  rw [hshadow, get_modBank_of_ne (ne_shadow_of_active hactive).symm]

theorem shadowBank_of_firstStages {params : Params} {engaged : Bool} {word : Nat} {k k' : CornerPart}
    (h : FirstStages params engaged word k k') : shadowBank k' = shadowBank k := by
  obtain ⟨hr, hscrub, hsupply⟩ := h
  obtain ⟨hbanks, -⟩ := hsupply.banks_map
  rw [shadowBank, hbanks, shadowBank, ← hr.banks]
  cases hscrub with
  | intact => rfl
  | upset m id hid _ =>
    dsimp only
    rw [reaction_banks]
    exact shadow_modBank_inUse hid _

/-- Until the reading of validation a period start leaves what the reading looks at, and the queues. -/
theorem beforeReading_validation (mv : Nat) (p : Part) : (beforeReading mv p).store.validation = p.store.validation ∧
    (beforeReading mv p).slot = p.slot ∧ (beforeReading mv p).link = p.link := by
  have hbefore := outside_beforeReading mv p
  generalize beforeReading mv p = q at *
  exact ⟨(congrArg (·.store.validation) hbefore :), (congrArg Part.slot hbefore :), (congrArg Part.link hbefore :)⟩

/-! ## A reading, by what becomes of it -/

section Cases

variable {p : Part} {c : Corner} {rest : List Corner} {read : List Word} {outcomes : Quad MapOutcome}
  (hv : p.store.validation = some ⟨c :: rest, read, outcomes⟩)

include hv

theorem validationReading_of_judges {x : MapOutcome} (h : readingOf p c read = .judges x) :
    judgmentDue p = true ∧ validationReading p = judgeBank c rest x outcomes p := by
  simp only [judgmentDue, validationReading, hv, h, and_self]

theorem validationReading_of_goesOn {image : List Word} (h : readingOf p c read = .goesOn image) :
    judgmentDue p = false ∧ validationReading p =
      p.modStore (fun k => { k with validation := some ⟨c :: rest, image, outcomes⟩ }) := by
  simp only [judgmentDue, validationReading, hv, h, and_self]

end Cases

theorem exec_validationBankJudged (s : State) : exec .validationBankJudged s =
    .next ⟨onlyWhen judgmentDue validationReading s.part, s.pending⟩ := rfl

/-- Settles O33: a reading judges on an upset word or at the 144th word, and goes on otherwise. -/
theorem bankJudged : Obligations.BankJudged := by
  rintro c rest read outcomes words s hv rfl
  refine ⟨fun x hx => ?_, fun hintact hshort => ⟨?_, fun mv => ?_⟩⟩
  · have hjudges : readingOf s.part c read = .judges x := by
      rcases hx with ⟨hupset, rfl⟩ | ⟨hintact, hlast, houtcome⟩
      · exact readingOf_of_upset hupset
      · rw [readingOf_of_last hintact hlast, judgeImage_of_outcomeOf houtcome]
    obtain ⟨hdue, hreading⟩ := validationReading_of_judges hv hjudges
    refine ⟨_, exec_validationBankJudged s, rfl, ?_⟩
    rw [onlyWhen_pos hdue, hreading]
    refine ⟨judgeBank_corners c rest x outcomes s.part, fun hrest => judgeBank_of_more hrest c x outcomes s.part, ?_⟩
    rintro o rfl ho
    exact ⟨_, _, judgeBank_of_last ho c x outcomes, validationAnswer_of_valid,
      fun d hn hvalid hfirst => validationAnswer_of_invalid hn hvalid hfirst⟩
  · obtain ⟨hdue, -⟩ := validationReading_of_goesOn hv (readingOf_of_short hintact hshort)
    rw [answers, exec_validationBankJudged, onlyWhen_neg hdue]
  · obtain ⟨hvalidation, hslot, hlink⟩ := beforeReading_validation mv s.part
    have hshadow := shadowBank_of_firstStages (firstStages_beforeReading mv c s.part)
    rw [← hshadow] at hintact
    obtain ⟨-, hreading⟩ := validationReading_of_goesOn (hvalidation.trans hv) (readingOf_of_short hintact hshort)
    have hexec : exec (.pwmPeriodStart mv) s = .next ⟨validationReading (beforeReading mv s.part), s.pending⟩ := rfl
    rw [hexec, hreading, ← hshadow]
    generalize beforeReading mv s.part = q at hslot hlink ⊢
    exact ⟨_, rfl, rfl, rfl, rfl, hslot, hlink⟩

end Sys2Proof.BankJudgment

/-! # The parameter store (10.5, R169 to R171) -/

namespace Sys2Proof.ParameterStore

open Sys2Proof Sys2Proof.Machine

theorem get_set (params : Params) (x y : ParamId) (v : Nat) :
    (params.set x v).get y = if y = x then v else params.get y := by
  cases x <;> cases y <;> rfl

theorem get_set_self (params : Params) (x : ParamId) (v : Nat) : (params.set x v).get x = v := by
  rw [get_set, if_pos rfl]

theorem get_set_of_ne {x y : ParamId} (h : y ≠ x) (params : Params) (v : Nat) : (params.set x v).get y = params.get y := by
  rw [get_set, if_neg h]

theorem range_le (x : ParamId) : x.range.1 ≤ x.range.2 := by cases x <;> decide

theorem clampNat_mem {lo hi : Nat} (h : lo ≤ hi) (v : Nat) : lo ≤ clampNat lo hi v ∧ clampNat lo hi v ≤ hi := by
  unfold clampNat
  split
  · omega
  · split <;> omega

theorem clampNat_of_mem {lo hi v : Nat} (h : lo ≤ v ∧ v ≤ hi) : clampNat lo hi v = v := by
  unfold clampNat
  rw [if_neg (by omega), if_neg (by omega)]

/-- Where a write touches one of two parameters that a bound ties, the bound holds after it if it holds of the value and of
the other parameter (R170). -/
theorem tied_set {params : Params} {rel : Nat → Nat → Prop} {a b : ParamId} (hab : b ≠ a) {x : ParamId} {v : Nat}
    (h : rel (params.get a) (params.get b)) (ha : x = a → rel v (params.get b)) (hb : x = b → rel (params.get a) v) :
    rel ((params.set x v).get a) ((params.set x v).get b) := by
  rw [get_set, get_set]
  split
  · rename_i hx
    rw [if_neg fun hbx => hab (hbx.trans hx.symm)]
    exact ha hx.symm
  · split
    · exact hb (by simp_all)
    · exact h

section Sound

variable {params : Params} (hs : params.sound) {largest : Nat} (hl : largest ≤ params.currentLimit)

include hs hl

/-- The clamps of R170 lead out of no range. -/
theorem bound_mem_range {x : ParamId} {v : Nat} (hv : x.range.1 ≤ v ∧ v ≤ x.range.2) :
    x.range.1 ≤ params.bound largest x v ∧ params.bound largest x v ≤ x.range.2 := by
  have hmin := hs.ranges .dutyMin
  have hmax := hs.ranges .dutyMax
  have hon := hs.ranges .qualOn
  have hoff := hs.ranges .qualOff
  have hlowOn := hs.ranges .supplyLowOn
  have hlowOff := hs.ranges .supplyLowOff
  have hhighOn := hs.ranges .supplyHighOn
  have hhighOff := hs.ranges .supplyHighOff
  have hlimit := hs.ranges .currentLimit
  simp only [ParamId.range, Params.get] at hmin hmax hon hoff hlowOn hlowOff hhighOn hhighOff hlimit
  unfold Params.bound
  split
  case h_10 => exact hv
  case h_3 | h_4 =>
    simp only [ParamId.range] at hv ⊢
    split <;> omega
  all_goals
    simp only [ParamId.range] at hv ⊢
    omega

/-- The value a write stores lies in the parameter's range (R169, R170). -/
theorem settled_mem_range (x : ParamId) (v : Nat) :
    x.range.1 ≤ params.settled largest x v ∧ params.settled largest x v ≤ x.range.2 :=
  bound_mem_range hs hl (clampNat_mem (range_le x) v)

/-- A write keeps the parameters sound (R169, R170). -/
theorem sound_set_settled (x : ParamId) (v : Nat) : (params.set x (params.settled largest x v)).sound where
  ranges y := by
    rw [get_set]
    split
    · rename_i h
      rw [h]
      exact settled_mem_range hs hl x v
    · exact hs.ranges y
  duty := by
    refine tied_set (rel := (· ≤ ·)) (a := .dutyMin) (b := .dutyMax) (by decide) hs.duty ?_ ?_
    · rintro rfl
      exact Nat.min_le_right _ _
    · rintro rfl
      exact Nat.le_max_right _ _
  quality := by
    refine tied_set (rel := (· < ·)) (a := .qualOff) (b := .qualOn) (by decide) hs.quality ?_ ?_
    · rintro rfl
      have hon := (hs.ranges .qualOn).1
      simp only [ParamId.range, Params.get] at hon
      simp only [Params.settled, Params.bound, Params.get]
      split <;> omega
    · rintro rfl
      simp only [Params.settled, Params.bound, Params.get]
      split <;> omega
  low := by
    refine tied_set (rel := (· ≤ ·)) (a := .supplyLowOn) (b := .supplyLowOff) (by decide) hs.low ?_ ?_
    · rintro rfl
      exact Nat.min_le_right _ _
    · rintro rfl
      exact Nat.le_max_right _ _
  high := by
    refine tied_set (rel := (· ≤ ·)) (a := .supplyHighOff) (b := .supplyHighOn) (by decide) hs.high ?_ ?_
    · rintro rfl
      exact Nat.min_le_right _ _
    · rintro rfl
      exact Nat.le_max_right _ _

end Sound

theorem largest_le_settled (params : Params) (largest v : Nat) : largest ≤ params.settled largest .currentLimit v :=
  Nat.le_max_right _ _

/-- A value within its range and the bounds between parameters is stored as supplied (R169, R170). -/
theorem settled_of_sound {params : Params} {largest : Nat} {x : ParamId} {v : Nat} (h : (params.set x v).sound)
    (hl : x = .currentLimit → largest ≤ v) : params.settled largest x v = v := by
  have hrange := h.ranges x
  have hduty := h.duty
  have hquality := h.quality
  have hlow := h.low
  have hhigh := h.high
  rw [get_set_self] at hrange
  unfold Params.settled
  rw [clampNat_of_mem hrange]
  unfold Params.bound
  split
  case h_9 => exact Nat.max_eq_left (hl rfl)
  case h_10 => rfl
  case h_3 | h_4 =>
    simp only [Params.set] at hquality
    split <;> omega
  all_goals
    simp only [Params.set] at hduty hlow hhigh
    omega

/-- Settles O26: the value is brought into the range, then to the bound that ties it. -/
theorem writtenValuesBounded : Obligations.WrittenValuesBounded := by
  intro params largest v x hs hl
  refine ⟨sound_set_settled hs hl x v, ?_, settled_of_sound⟩
  rintro rfl
  exact largest_le_settled params largest v

end Sys2Proof.ParameterStore

/-! # What every step keeps of the drivers (R81, R82, R85, R87)

A step moves the driver of a corner in few ways. `Moves` lists them; `Holds` says of a part that a property of drivers, kept by
every move, holds at every corner. Every operation of the model is passed once, and the two statements are then about the moves
alone. -/

namespace Sys2Proof.Drivers

open Sys2Proof Sys2Proof.Machine Sys2Proof.Estimation Sys2Proof.PeriodStarts Sys2Proof.ParameterStore

/-! ## The moves of a driver -/

/-- What a regulator's loop holds beside its aim. -/
def loop (r : Regulator) : Bool × Nat × Nat × Int × Int × Int := (r.enabled, r.setpoint, r.duty, r.e1, r.e2, r.u)

/-- What the properties of drivers read of a corner. -/
def drive (k : CornerPart) : CornerState × RegMode × Bool × Nat × Nat × Int × Int × Int := (k.state, k.reg.wanted, loop k.reg)

/-- A disabled driver at rest, as `drive` shows it. -/
def atRest : RegMode × Bool × Nat × Nat × Int × Int × Int := (.disabled, false, 0, 0, 0, 0, 0)

/-- Setpoint, and accumulator and duty of an enabled driver, lie within their bounds (R85, R87). -/
def Bounded (params : Params) (r : Regulator) : Prop := r.setpoint ≤ params.currentLimit ∧ r.dutySound params

/-- The ways in which a step moves the driver of a corner. -/
inductive Moves (params : Params) (k k' : CornerPart) : Prop
  /-- The loop goes on as it stands; a state that has the driver off is not newly entered, and enables nothing. -/
  | steered (hloop : loop k'.reg = loop k.reg)
      (hstate : k'.state.driverOff = true → k.state.driverOff = true ∧ k'.reg.wanted = k.reg.wanted)
  /-- The driver is disabled, whatever becomes of the state. -/
  | disabled (hrest : (k'.reg.wanted, loop k'.reg) = atRest)
  /-- An enabled driver, or one that is wanted, is enabled and keeps to its bounds. -/
  | driven (hstate : k'.state = k.state) (hwanted : k.reg.enabled = true ∨ k.reg.wanted ≠ .disabled)
      (henabled : k'.reg.enabled = true) (hbounds : params.sound → Bounded params k.reg → Bounded params k'.reg)

theorem Moves.of_drive {params : Params} {k k' : CornerPart} (h : drive k' = drive k) : Moves params k k' := by
  simp only [drive, Prod.mk.injEq] at h
  obtain ⟨hstate, hwanted, hloop⟩ := h
  exact .steered hloop fun hoff => ⟨hstate ▸ hoff, hwanted⟩

/-! ## Properties of drivers -/

/-- A value is stored, and the duty bounds act at once (R87, R171). -/
def storedWithBounds (x : ParamId) (v : Nat) (p : Part) : Part :=
  if x = .dutyMin ∨ x = .dutyMax then reboundAll (storeParam x v p) else storeParam x v p

/-- A property of corners that their drivers' moves, a write of the parameter store and a power-on reset keep. -/
structure DriverForm (Q : Params → CornerPart → Prop) : Prop where
  moves : ∀ {params k k'}, Moves params k k' → Q params k → Q params k'
  written : ∀ (x : ParamId) (raw : Nat) (p : Part), p.eachCorner (Q p.params) →
    (storedWithBounds x (p.params.settled p.largestSetpoint x raw) p).eachCorner
      (Q (storedWithBounds x (p.params.settled p.largestSetpoint x raw) p).params)
  powerOn : Q .defaults .powerOn

/-- A property of drivers holds at every corner of a part. -/
structure Holds (Q : Params → CornerPart → Prop) (p : Part) : Prop where
  form : DriverForm Q
  corners : p.eachCorner (Q p.params)

namespace Holds

variable {Q : Params → CornerPart → Prop} {c : Corner} {p q : Part}

/-! ## The kinds of change -/

theorem andMoves (h : Holds Q p) (hparams : q.params = p.params) (hm : ∀ c, Moves p.params (p.corner c) (q.corner c)) :
    Holds Q q where
  form := h.form
  corners c := by
    rw [hparams]
    exact h.form.moves (hm c) (h.corners c)

/-- A change of what no driver is read from. -/
theorem andSame (h : Holds Q p) (hparams : q.params = p.params) (hcorners : q.corners = p.corners) : Holds Q q :=
  h.andMoves hparams fun c => .of_drive (congrArg (fun x : Quad CornerPart => drive (x.get c)) hcorners)

theorem andMove (h : Holds Q p) {f : CornerPart → CornerPart} (hm : Moves p.params (p.corner c) (f (p.corner c))) :
    Holds Q (p.modCorner c f) := by
  refine h.andMoves rfl fun d => ?_
  rw [Part.corner_modCorner]
  split
  · rename_i hd
    rwa [hd]
  · exact .of_drive rfl

/-- A change at one corner that its driver does not feel. -/
theorem andQuiet (h : Holds Q p) {f : CornerPart → CornerPart} (hf : ∀ k, drive (f k) = drive k) : Holds Q (p.modCorner c f) :=
  h.andMove (.of_drive (hf _))

/-- A corner whose driver is disabled. -/
theorem andDisabled (h : Holds Q p) {f : CornerPart → CornerPart}
    (hf : ∀ k, ((f k).reg.wanted, loop (f k).reg) = atRest) : Holds Q (p.modCorner c f) := h.andMove (.disabled (hf _))

/-- A corner whose loop goes on in a state that does not have the driver off. -/
theorem andSteered (h : Holds Q p) {f : CornerPart → CornerPart} (hl : ∀ k, loop (f k).reg = loop k.reg)
    (hs : ∀ k, (f k).state.driverOff = false) : Holds Q (p.modCorner c f) :=
  h.andMove (.steered (hl _) fun hoff => by simp [hs] at hoff)

/-- What comes about only under a condition. -/
theorem andWhen (h : Holds Q p) (condition : Prop) [Decidable condition] {f : Part → Part} (hf : Holds Q p → Holds Q (f p)) :
    Holds Q (if condition then f p else p) := by
  split
  · exact hf h
  · exact h

theorem andRaise (h : Holds Q p) (e : Event) (b : Byte) : Holds Q (raise e b p) := h.andSame rfl rfl

theorem andModPort (h : Holds Q p) (x : Port) (f : PortPart → PortPart) : Holds Q (p.modPort x f) :=
  h.andSame (Part.modPort_params x f p) (Part.modPort_corners x f p)

theorem andCountPort (h : Holds Q p) (x : Port) (f : PortCounters → PortCounters) : Holds Q (countPort x f p) := h.andModPort x _

theorem andGoodFrame (h : Holds Q p) (x : Port) : Holds Q (goodFrame x p) := h.andModPort x _

theorem andCountCorner (h : Holds Q p) (c : Corner) (f : CornerCounters → CornerCounters) : Holds Q (countCorner c f p) :=
  h.andQuiet fun _ => by rfl

theorem andPlaceWheelBound (h : Holds Q p) (f : Frame) : Holds Q (placeWheelBound f p) :=
  h.andSame (placeWheelBound_params f p) (placeWheelBound_corners f p)

theorem andPlaceChassisBound (h : Holds Q p) (f : Frame) : Holds Q (placeChassisBound f p) :=
  h.andSame (placeChassisBound_params f p) (placeChassisBound_corners f p)

theorem andAnswerHeld (h : Holds Q p) (result reason : Byte) (data : List Byte) : Holds Q (answerHeld result reason data p) :=
  h.andSame (answerHeld_params ..) (answerHeld_corners ..)

/-! ## The supervisor's operations (7.4, 7.5) -/

theorem andUnprime (h : Holds Q p) (c : Corner) : Holds Q (unprime c p) := h.andQuiet fun _ => by rfl

theorem andTurnOff (h : Holds Q p) (c : Corner) : Holds Q (p.modCorner c CornerPart.turnOff) := h.andDisabled fun _ => by rfl

theorem andEnterPassive (h : Holds Q p) (c : Corner) : Holds Q (enterPassive c p) :=
  andRaise (h.andSteered (fun _ => by rfl) fun _ => by rfl) _ _

theorem andReturnToControl (h : Holds Q p) (c : Corner) : Holds Q (returnToControl c p) :=
  h.andSteered (fun _ => by rfl) fun _ => by rfl

theorem andSupervise (h : Holds Q p) (c : Corner) : Holds Q (supervise c p) := by
  unfold supervise
  split
  case h_4 => exact h.andWhen _ fun h => h.andReturnToControl c
  case h_5 => exact h
  all_goals
    split
    · exact h
    · exact h.andEnterPassive c

theorem andPutReason (h : Holds Q p) (which : Reason) (present : Bool) (c : Corner) : Holds Q (putReason which present c p) :=
  andSupervise (h.andQuiet fun _ => by rfl) c

theorem andPutReasons (h : Holds Q p) (which : Reason) (present : Bool) : Holds Q (forCorners (putReason which present) p) :=
  forCorners_keeps (fun c _ hr => hr.andPutReason which present c) h

/-! ## The loaded condition (R113) -/

theorem andEnterUnloaded (h : Holds Q p) : Holds Q (enterUnloaded p) := by
  have hset : Holds Q (p.setControl .unloaded) := h.andSame rfl rfl
  exact forCorners_keeps (fun c _ hr => hr.andUnprime c) hset

theorem andSettleUnengaged (h : Holds Q p) : Holds Q (settleUnengaged p) := by
  unfold settleUnengaged
  split
  · exact h.andSame rfl rfl
  · exact h.andEnterUnloaded

theorem andJudgeLoaded (h : Holds Q p) : Holds Q (judgeLoaded p) := by
  unfold judgeLoaded
  split
  · exact h.andWhen _ fun h => h.andSame rfl rfl
  · split
    · exact h
    · exact h.andEnterUnloaded
  · exact h

theorem andJudgeReleased (h : Holds Q p) : Holds Q (judgeReleased p) := h.andWhen _ andSettleUnengaged

/-! ## The map store (chapters 4 and 8) -/

theorem andBanks (h : Holds Q p) (c : Corner) (f : Banks → Banks) : Holds Q (p.modCorner c (CornerPart.modBanks f)) :=
  h.andQuiet fun _ => by rfl

theorem andCorruptActive (h : Holds Q p) (c : Corner) (id : BankId) : Holds Q (corruptActive c id p) :=
  andJudgeLoaded (andSupervise (andRaise (h.andQuiet fun _ => by rfl) _ _) c)

theorem andScrubCorner (h : Holds Q p) (c : Corner) : Holds Q (scrubCorner c p) := by
  unfold scrubCorner
  split
  · exact h
  · split
    · exact h
    · exact h.andCorruptActive c _

theorem andScrub (h : Holds Q p) : Holds Q (scrub p) := by
  have hscrubbed : Holds Q (forCorners scrubCorner p) := forCorners_keeps (fun c _ hr => hr.andScrubCorner c) h
  exact hscrubbed.andSame rfl rfl

theorem andSwapEffect (h : Holds Q p) (c : Corner) : Holds Q (swapEffect c p) :=
  andJudgeLoaded (andRaise ((h.andBanks c _).andPutReason .map false c) _ _)

theorem andSwapIfPending (h : Holds Q p) (c : Corner) : Holds Q (swapIfPending c p) := h.andWhen _ fun h => h.andSwapEffect c

theorem andMapOpen (h : Holds Q p) (args : List Byte) : Holds Q (mapOpen args p).1 := by
  unfold mapOpen
  split
  · rename_i m
    have hopened : Holds Q (forCorners (fun c r => r.modCorner c (CornerPart.modBanks (Banks.opened ((cornersOf m).get c)))) p) :=
      forCorners_keeps (fun c _ hr => hr.andBanks c _) h
    split
    · dsimp only
      split
      · exact h
      · split
        · exact h
        · exact hopened.andSame rfl rfl
    · exact h
  · exact h

theorem andMapData (h : Holds Q p) (args : List Byte) : Holds Q (mapData args p).1 := by
  unfold mapData
  split
  · rename_i start count bytes
    have hloaded : Holds Q (forCorners (fun c r => if r.store.group.get c then
        r.modCorner c (CornerPart.modBanks (Banks.load start.toNat (wordsOf bytes))) else r) p) :=
      forCorners_keeps (fun c _ hr => hr.andWhen _ fun hr => hr.andBanks c _) h
    split
    · exact h
    · split
      · exact h
      · split
        · exact h
        · split
          · exact h
          · exact hloaded.andSame rfl rfl
  · exact h

theorem andMapClose (h : Holds Q p) (args : List Byte) : Holds Q (mapClose args p).1 := by
  unfold mapClose
  split
  · rename_i k1 k0
    have hclosed : Holds Q (forCorners (fun c r => if r.store.group.get c then
        r.modCorner c (CornerPart.modBanks (Banks.closed (wordOf k1 k0))) else r) p) :=
      forCorners_keeps (fun c _ hr => hr.andWhen _ fun hr => hr.andBanks c _) h
    split
    · exact h
    · split
      · exact h
      · exact hclosed.andSame rfl rfl
  · exact h

theorem andJudgeBank (h : Holds Q p) (c : Corner) (rest : List Corner) (x : MapOutcome) (outcomes : Quad MapOutcome) :
    Holds Q (judgeBank c rest x outcomes p) := by
  have hjudged : Holds Q (p.modCorner c (CornerPart.modBanks (Banks.judged x))) := h.andBanks c _
  unfold judgeBank
  cases rest with
  | nil =>
    dsimp only
    refine andAnswerHeld ?_ _ _ _
    exact hjudged.andSame rfl rfl
  | cons d ds => exact hjudged.andSame rfl rfl

theorem andValidationReading (h : Holds Q p) : Holds Q (validationReading p) := by
  unfold validationReading
  split
  · exact h
  · exact h
  · split
    · exact h.andSame rfl rfl
    · exact h.andJudgeBank _ _ _ _

theorem andSwapAct (h : Holds Q p) (o : SwapOutcome) (c : Corner) : Holds Q (swapAct o c p) := by
  unfold swapAct
  split
  · exact h.andSwapEffect c
  · exact h.andBanks c _
  · exact h

theorem andMapSwap (h : Holds Q p) (args : List Byte) : Holds Q (mapSwap args p).1 := by
  have hacted (o : Corner → SwapOutcome) : Holds Q (forCorners (fun c => swapAct (o c) c) p) :=
    forCorners_keeps (fun c _ hr => hr.andSwapAct (o c) c) h
  unfold mapSwap
  split
  · split
    · dsimp only
      split
      · dsimp only
        exact hacted _
      · exact h
    · exact h
  · exact h

theorem andReadFailure (h : Holds Q p) (c : Corner) (id : BankId) : Holds Q (readFailure c id p) := by
  unfold readFailure
  split
  · exact h.andCorruptActive c id
  · exact h.andBanks c _
  · exact h

theorem andMapRead (h : Holds Q p) (args : List Byte) : Holds Q (mapRead args p).1 := by
  unfold mapRead
  split
  · split
    · split
      · exact h
      · dsimp only
        split
        · exact h
        · split
          · exact h
          · exact h.andReadFailure _ _
    · exact h
  · exact h

/-! ## Motion estimation and demand (chapters 2 and 3) -/

theorem andFeedChannel (h : Holds Q p) (c : Corner) (ch : Channel) (v : Option Int) : Holds Q (feedChannel c ch v p) := by
  have hfed : Holds Q (p.modCorner c fun k => { k with stuck := k.stuck.set ch (p.fed c ch v) }) := h.andQuiet fun _ => by rfl
  unfold feedChannel
  exact hfed.andWhen _ fun hr => hr.andRaise _ _

theorem andFormTarget (h : Holds Q p) (c : Corner) (demand : Nat) (apply : Bool) : Holds Q (formTarget c demand apply p) := by
  have htaken (x : Nat) (k : CornerPart) : drive (k.takeTarget x apply) = drive k := by cases apply <;> rfl
  unfold formTarget
  dsimp only
  split
  · exact h.andQuiet fun _ => by rfl
  · split
    · exact h.andQuiet fun k => htaken _ k
    · refine andCorruptActive ?_ c _
      exact h.andQuiet fun _ => by rfl

theorem andFormDemand (h : Holds Q p) (c : Corner) (sky ground apply : Bool) : Holds Q (formDemand c sky ground apply p) := by
  have hselected : Holds Q (p.setSelection (some p.selectBand)) := h.andSame rfl rfl
  exact andFormTarget (hselected.andQuiet fun _ => by rfl) c _ apply

theorem andDemandStep (h : Holds Q p) (c : Corner) (sky ground : Bool) : Holds Q (demandStep c sky ground p) := by
  unfold demandStep
  split
  · exact h.andFormDemand c sky ground true
  · exact h.andFormDemand c sky ground false
  · exact h.andQuiet fun _ => by rfl

theorem drive_heldUpdate (k : CornerPart) (params : Params) (dropB dropW : Bool) :
    drive (k.heldUpdate params dropB dropW) = drive k := by
  unfold CornerPart.heldUpdate
  dsimp only
  split
  · rfl
  · split <;> rfl

theorem drive_sampleUpdate (params : Params) (x : Sample) (dropB dropW : Bool) (k : CornerPart) :
    drive (sampleUpdate params x dropB dropW k) = drive k := by
  unfold sampleUpdate
  split
  · exact drive_heldUpdate k params dropB dropW
  · rfl

theorem andHeldComputation (h : Holds Q p) (c : Corner) : Holds Q (heldComputation c p) := by
  have hadded : Holds Q (addComputed c false p) := h.andSame rfl rfl
  exact andDemandStep (andSupervise (hadded.andQuiet fun k => drive_heldUpdate k _ _ _) c) c _ _

theorem andFreshComputation (h : Holds Q p) (c : Corner) (x : Sample) : Holds Q (freshComputation c x p) := by
  have hcounted : Holds Q (addComputed c true (countCorner c (fun k => { k with fresh := inc k.fresh }) p)) :=
    (h.andCountCorner c fun k => { k with fresh := inc k.fresh }).andSame rfl rfl
  have hfed : Holds Q (feedChannels c x (addComputed c true (countCorner c (fun k => { k with fresh := inc k.fresh }) p))) :=
    ((hcounted.andFeedChannel c .ab _).andFeedChannel c .aw _).andFeedChannel c .h _
  have hsampled : Holds Q (sampledPart c x p) := by
    unfold sampledPart
    dsimp only
    exact hfed.andQuiet fun k => drive_sampleUpdate _ x _ _ k
  obtain ⟨sky, ground, heq⟩ := freshComputation_eq c x p
  rw [heq]
  exact (hsampled.andSupervise c).andDemandStep c sky ground

theorem andTakeSample (h : Holds Q p) (c : Corner) (x : Sample) : Holds Q (takeSample c x p) := by
  unfold takeSample
  split
  · exact h.andSame rfl rfl
  · exact h.andCountCorner c _
  · exact h.andCountCorner c _
  · exact h.andCountCorner c _
  · exact h.andFreshComputation c x

theorem andOfferSample (h : Holds Q p) (c : Corner) (payload : List Byte) : Holds Q (offerSample c payload p) := by
  unfold offerSample
  dsimp only
  split
  · exact h.andCountCorner c _
  · split
    · exact h.andCountCorner c _
    · exact h.andWhen _ fun h => h.andTakeSample c _

theorem andFeedAndSettle (h : Holds Q p) (c : Corner) (ch : Channel) (v : Int) : Holds Q (feedAndSettle c ch v p) :=
  (h.andFeedChannel c ch (some v)).andWhen _ fun hr => hr.andPutReason .sensor _ c

/-! ## Valve diagnosis and supply (chapter 6) -/

theorem andEndTest (h : Holds Q p) (c : Corner) (x : TestOutcome) (r : TestRecord) : Holds Q (endTest c x r p) :=
  (h.andTurnOff c).andAnswerHeld _ _ _

theorem andEnterFault (h : Holds Q p) (c : Corner) (kind : FaultKind) : Holds Q (enterFault c kind p) :=
  andJudgeReleased (andRaise (h.andDisabled fun _ => by rfl) _ _)

theorem andSuspicion (h : Holds Q p) (c : Corner) (kind : FaultKind) : Holds Q (suspicion c kind p) := by
  have hsuspected : Holds Q (Upkeep.suspected c kind p) := h.andQuiet fun _ => by rfl
  unfold suspicion
  dsimp only
  split
  · exact hsuspected.andDisabled fun _ => by rfl
  · split
    · exact hsuspected.andDisabled fun _ => by rfl
    · exact hsuspected.andEnterFault c kind

theorem andHandoffRegulating (h : Holds Q p) (c : Corner) (im : Int) : Holds Q (handoffRegulating c im p) := by
  have hruns (o s l : Nat) : Holds Q (p.modCorner c fun k => k.setRuns o s l) := h.andQuiet fun _ => by rfl
  unfold handoffRegulating
  dsimp only
  split
  · exact (hruns _ _ _).andSuspicion c _
  · split
    · exact (hruns _ _ _).andSuspicion c _
    · exact hruns _ _ _

theorem andHandoffTesting (h : Holds Q p) (c : Corner) (im : Int) (r : TestRecord) : Holds Q (handoffTesting c im r p) := by
  have hruns (o s l : Nat) (r : TestRecord) : Holds Q (p.modCorner c fun k => { k.setRuns o s l with state := .test .drive r }) :=
    h.andSteered (fun _ => by rfl) fun _ => by rfl
  unfold handoffTesting
  dsimp only
  split
  · exact (hruns _ _ _ _).andEndTest c _ _
  · split
    · exact (hruns _ _ _ _).andEndTest c _ _
    · exact hruns _ _ _ _

theorem andHandoff (h : Holds Q p) (c : Corner) (im : Int) : Holds Q (handoff c im p) := by
  unfold handoff
  split
  · exact h.andHandoffRegulating c im
  · exact h.andHandoffTesting c im _
  · unfold handoffLeak
    split
    · exact h.andEnterFault c _
    · exact h.andQuiet fun _ => by rfl
  · exact h.andQuiet fun _ => by rfl

theorem andCountWindow (h : Holds Q p) (c : Corner) (e : Episode) (w : Nat) : Holds Q (countWindow c e w p) := by
  unfold countWindow
  split
  · exact andRaise (h.andQuiet fun _ => by rfl) _ _
  · exact h.andQuiet fun _ => by rfl

theorem andEpisodeAtCycleStart (h : Holds Q p) (c : Corner) : Holds Q (episodeAtCycleStart c p) := by
  unfold episodeAtCycleStart
  split
  · exact h.andSteered (fun _ => by rfl) fun _ => by rfl
  · exact h.andCountWindow c _ _
  · exact h

theorem andAssertSupply (h : Holds Q p) (detector : Byte) : Holds Q (assertSupply detector p) :=
  (h.andRaise .supply detector).andPutReasons .supply true

theorem andSupplySample (h : Holds Q p) (mv : Nat) : Holds Q (supplySample mv p) := by
  have hset : Holds Q (p.setSupply (p.supply.step p.params mv)) := h.andSame rfl rfl
  exact ((hset.andWhen _ fun hr => hr.andAssertSupply 0).andWhen _ fun hr => hr.andAssertSupply 1).andWhen _ fun hr =>
    hr.andPutReasons .supply false

/-! ## The cycle tracker (chapter 1) -/

theorem andModTracker (h : Holds Q p) (f : Tracker → Tracker) : Holds Q (p.modTracker f) := h.andSame rfl rfl

theorem andModContext (h : Holds Q p) (f : Context → Context) : Holds Q (p.modContext f) := h.andSame rfl rfl

theorem andModGlobals (h : Holds Q p) (f : GlobalCounters → GlobalCounters) : Holds Q (p.modGlobals f) := h.andSame rfl rfl

theorem andReach (h : Holds Q p) (t : Nat) : Holds Q (p.reach t) := h.andSame rfl rfl

theorem andCloseCycle (h : Holds Q p) : Holds Q (closeCycle p) := by
  have hcomputed : Holds Q (forCorners computeHeld (p.modTracker Tracker.shut)) :=
    forCorners_keeps (fun c _ hr => hr.andWhen _ fun hr => hr.andHeldComputation c) (h.andModTracker Tracker.shut)
  have hstopped (r : Part) (hr : Holds Q r) :
      Holds Q (forCorners (fun c p => p.modCorner c fun k => { k with reg := k.reg.stopMean }) r) :=
    forCorners_keeps (fun c _ hr => hr.andQuiet fun _ => by rfl) hr
  unfold closeCycle
  exact hstopped _ (hcomputed.andSame (placeReport_params ..) (placeReport_corners ..))

theorem andCloseOpen (h : Holds Q p) : Holds Q (closeOpen p) := by
  unfold closeOpen
  split
  · exact h
  · exact h.andCloseCycle

theorem andCornerAtCycleStart (h : Holds Q p) (c : Corner) : Holds Q (cornerAtCycleStart c p) := by
  have hstarted : Holds Q (p.modCorner c fun k => { k with reg := k.reg.startMean }) := h.andQuiet fun _ => by rfl
  exact (hstarted.andSwapIfPending c).andEpisodeAtCycleStart c

theorem andCycleStart (h : Holds Q p) (kind : StartKind) (number : Word) : Holds Q (cycleStart kind number p) :=
  forCorners_keeps (fun c _ hr => hr.andCornerAtCycleStart c) (h.andModTracker _)

theorem andAdopt (h : Holds Q p) (x : CycPayload) : Holds Q (adopt x p) := (h.andModContext _).andModGlobals _

theorem andTakeCyc (h : Holds Q p) (dst src : Byte) (x : CycPayload) : Holds Q (takeCyc dst src x p) := by
  unfold takeCyc
  split
  · exact ((h.andAdopt x).andModTracker _).andModGlobals _
  · exact (((h.andCloseOpen.andAdopt x).andModTracker _).andCycleStart _ _).andPlaceWheelBound _

theorem andEnterUnlocked (h : Holds Q p) : Holds Q (enterUnlocked p) :=
  have hunprimed : Holds Q (forCorners unprime (p.modTracker Tracker.unlock)) :=
    forCorners_keeps (fun c _ hr => hr.andUnprime c) (h.andModTracker Tracker.unlock)
  hunprimed.andPutReasons .stale true

theorem andEnterLocal (h : Holds Q p) (cause : Byte) : Holds Q (enterLocal cause p) := h.andSame rfl rfl

theorem andEnterHoldover (h : Holds Q p) : Holds Q (enterHoldover p) := h.andSame rfl rfl

theorem andOriginate (h : Holds Q p) : Holds Q (originate p) :=
  ((h.andCloseOpen.andCycleStart _ _).andModGlobals _).andSame (setSubstitute_params ..) (setSubstitute_corners ..)

theorem andMissExpiry (h : Holds Q p) : Holds Q (missExpiry p) := by
  unfold missExpiry
  split
  · exact h
  · split
    · exact (h.andEnterHoldover.andModTracker _).andOriginate
    · exact h.andEnterUnlocked
  · split
    · exact (h.andModTracker _).andOriginate
    · exact (h.andEnterLocal 0).andOriginate
  · exact h.andOriginate

theorem andStopSubstitution (h : Holds Q p) : Holds Q (stopSubstitution p) := by
  unfold stopSubstitution
  split
  · exact h.andCloseOpen.andEnterUnlocked
  · exact h.andCloseOpen.andEnterUnlocked
  · exact h

/-- What the expiry of a timer does is kept where its effect is. -/
theorem andExpire (h : Holds Q p) (timer : Option Nat) {f : Part → Part} (hf : ∀ r, Holds Q r → Holds Q (f r)) :
    Holds Q (expire timer f p) := by
  unfold expire
  split
  · exact h
  · exact hf _ (h.andReach _)

/-! ## Engagement and release (chapter 7) -/

theorem andCornerAtEngaged (h : Holds Q p) (c : Corner) : Holds Q (cornerAtEngaged c p) := by
  unfold cornerAtEngaged
  split
  · split
    · exact h.andReturnToControl c
    · exact h.andEnterPassive c
  · exact h

theorem andJudgeEngaged (h : Holds Q p) : Holds Q (judgeEngaged p) := by
  have hset : Holds Q (p.setControl .engaged) := h.andSame rfl rfl
  have hengaged : Holds Q (enterEngaged p) := forCorners_keeps (fun c _ hr => hr.andCornerAtEngaged c) hset
  exact h.andWhen _ fun _ => hengaged

theorem andCalibrationOutcome (h : Holds Q p) (c : Corner) (sum : Nat) : Holds Q (calibrationOutcome c sum p) := by
  have hconcluded : Holds Q (p.modCorner c fun k => { k with reg := k.reg.conclude (candidateOf sum) }) :=
    h.andQuiet fun _ => by rfl
  unfold calibrationOutcome
  dsimp only
  split
  · rename_i hs
    refine andJudgeEngaged ?_
    split
    · refine hconcluded.andMove (.steered rfl fun _ => ⟨?_, rfl⟩)
      rw [Part.corner_modCorner_self]
      exact congrArg CornerState.driverOff hs
    · exact hconcluded.andEnterFault c _
  · split
    · exact hconcluded.andDisabled fun _ => by rfl
    · exact hconcluded.andEnterFault c _
  · split
    · exact hconcluded.andSteered (fun _ => by rfl) fun _ => by rfl
    · exact hconcluded.andEndTest c _ _
  · exact hconcluded

theorem andRest (h : Holds Q p) (c : Corner) : Holds Q (p.modCorner c CornerPart.rest) := h.andDisabled fun _ => by rfl

theorem andRampDone (h : Holds Q p) (c : Corner) : Holds Q (rampDone c p) := by
  unfold rampDone
  split
  · exact (h.andTurnOff c).andJudgeReleased
  · exact (h.andTurnOff c).andJudgeReleased
  · exact h.andRest c
  · exact h.andDisabled fun _ => by rfl

theorem andLatchReport (h : Holds Q p) (c : Corner) : Holds Q (latchReport c p) := by
  unfold latchReport
  split
  · refine andSuspicion ?_ c _
    exact h.andQuiet fun _ => by rfl
  · exact (h.andTurnOff c).andJudgeReleased
  · exact (h.andTurnOff c).andJudgeReleased
  · exact h.andRest c
  · exact h.andEndTest c _ _
  · exact h

theorem andBeginEngage (h : Holds Q p) (c : Corner) : Holds Q (p.modCorner c CornerPart.beginEngage) :=
  h.andDisabled fun _ => by rfl

theorem andEngage (h : Holds Q p) (args : List Byte) : Holds Q (engage args p).1 := by
  unfold engage
  split
  · split
    · exact h
    · split
      · exact h
      · have hset : Holds Q ((p.setControl .engaging).setSelection none) := h.andSame rfl rfl
        refine andJudgeEngaged (forCorners_keeps (fun c r hr => ?_) hset)
        exact hr.andWhen _ fun hr => hr.andBeginEngage c
  · exact h

theorem andDropEngage (h : Holds Q p) (c : Corner) : Holds Q (p.modCorner c CornerPart.dropEngage) := by
  refine h.andMove ?_
  unfold CornerPart.dropEngage
  split
  · exact .disabled rfl
  · exact .of_drive rfl

/-- At a RELEASE a regulating corner ramps and goes on; the corners on the path of retries are turned off (R118). -/
theorem andReleaseCorner (h : Holds Q p) (c : Corner) : Holds Q (p.modCorner c CornerPart.release) := by
  refine h.andMove ?_
  unfold CornerPart.release
  split
  · rename_i hs
    exact .steered rfl fun hoff => by simp [hs, CornerState.driverOff] at hoff
  · exact .disabled rfl
  · exact .disabled rfl
  · exact .disabled rfl
  · exact .of_drive rfl

theorem andRelease (h : Holds Q p) (args : List Byte) : Holds Q (release args p).1 := by
  unfold release
  split
  · split
    · have hdropped : Holds Q (forCorners (fun c r => r.modCorner c CornerPart.dropEngage) p) :=
        forCorners_keeps (fun c _ hr => hr.andDropEngage c) h
      exact hdropped.andSettleUnengaged
    · have hset : Holds Q (p.setControl .releasing) := h.andSame rfl rfl
      have hreleased : Holds Q (forCorners (fun c r => r.modCorner c CornerPart.release) (p.setControl .releasing)) :=
        forCorners_keeps (fun c _ hr => hr.andReleaseCorner c) hset
      exact (forCorners_keeps (fun c _ hr => hr.andUnprime c) hreleased).andStopSubstitution.andJudgeReleased
    · exact h
  · exact h

theorem andValveTest (h : Holds Q p) (args : List Byte) : Holds Q (valveTest args p).1 := by
  have hbegun (c : Corner) (r : TestRecord) : Holds Q (p.modCorner c fun k => k.beginTest r) := h.andDisabled fun _ => by rfl
  unfold valveTest
  split
  · split
    · exact h
    · split
      · exact h
      · split
        · exact h
        · exact hbegun _ _
  · exact h

theorem andLeaveFault (h : Holds Q p) (c : Corner) : Holds Q (leaveFault c p) := by
  unfold leaveFault
  split
  · exact h.andBeginEngage c
  · split
    · exact h.andReturnToControl c
    · exact h.andEnterPassive c
  · exact h.andTurnOff c

theorem andClearFault (h : Holds Q p) (args : List Byte) : Holds Q (clearFault args p).1 := by
  unfold clearFault
  split
  · split
    · exact h
    · split
      · exact h
      · exact andLeaveFault (h.andQuiet fun _ => by rfl) _
  · exact h

end Holds

/-! ## The valve regulators (chapter 5) -/

theorem Bounded.congr {params : Params} {r r' : Regulator} (h : Bounded params r) (hl : loop r' = loop r) :
    Bounded params r' := by
  simp only [loop, Prod.mk.injEq] at hl
  obtain ⟨henabled, hsetpoint, hduty, -, -, hu⟩ := hl
  unfold Bounded Regulator.dutySound at *
  rwa [henabled, hsetpoint, hduty, hu]

/-- An accumulator kept within its bounds has its duty within the duty bounds (R86, R87). -/
theorem boundU_mem {params : Params} (h : params.dutyMin ≤ params.dutyMax) (u : Int) :
    (params.dutyMin * 65536 ≤ params.boundU u ∧ params.boundU u ≤ params.dutyMax * 65536) ∧
      params.dutyMin ≤ dutyOf (params.boundU u) ∧ dutyOf (params.boundU u) ≤ params.dutyMax := by
  have hbounds : params.dutyMin * 65536 ≤ params.boundU u ∧ params.boundU u ≤ params.dutyMax * 65536 := by
    unfold Params.boundU clampInt
    split
    · omega
    · split <;> omega
  refine ⟨hbounds, ?_⟩
  unfold dutyOf
  omega

theorem moveToward_le (setpoint aim step : Nat) : moveToward setpoint aim step ≤ max setpoint aim := by
  rw [moveToward_eq]
  split <;> omega

theorem bounded_periodEnable {params : Params} {r : Regulator} (hs : params.sound) (h : Bounded params r) :
    Bounded params (r.periodEnable params) := by
  have hduty := hs.duty
  unfold Regulator.periodEnable
  split
  · exact ⟨Nat.zero_le _, fun _ => ⟨⟨le_rfl, by dsimp only; omega⟩, le_rfl, hduty⟩⟩
  · exact h

theorem bounded_move {params : Params} {r : Regulator} (h : Bounded params r) : Bounded params (r.move params) := by
  obtain ⟨hsetpoint, hduty⟩ := h
  unfold Regulator.move
  split
  · exact ⟨hsetpoint, hduty⟩
  · exact ⟨(moveToward_le _ _ _).trans (max_le hsetpoint (min_le_right _ _)), hduty⟩
  · exact ⟨(moveToward_le _ _ _).trans (max_le hsetpoint (Nat.zero_le _)), hduty⟩

theorem move_enabled (r : Regulator) (params : Params) : (r.move params).enabled = r.enabled := by
  unfold Regulator.move
  split <;> rfl

/-- A pending enable and the setpoint's move: a driver that is wanted is driven, any other stays (R82 to R84). -/
theorem moves_advance (params : Params) (k : CornerPart) : Moves params k { k with reg := k.reg.advance params } := by
  by_cases hw : k.reg.wanted = .disabled
  · rw [advance_of_disabled params hw]
    exact .of_drive rfl
  · exact .driven rfl (.inr hw) ((move_enabled _ _).trans (periodEnable_enabled params hw)) fun hs hb =>
      bounded_move (bounded_periodEnable hs hb)

theorem loop_takeSample (r : Regulator) (params : Params) (raw : Nat) (im : Int) :
    loop (r.takeSample params raw im) = loop (r.pid params im) ∧ (r.takeSample params raw im).wanted = r.wanted := by
  have hpid : (r.pid params im).wanted = r.wanted := by
    unfold Regulator.pid
    split <;> rfl
  rw [← hpid]
  unfold Regulator.takeSample Regulator.average
  split <;> exact ⟨rfl, rfl⟩

/-- A current sample drives an enabled driver by a step of the loop, and leaves a disabled one (R78, R86, R87). -/
theorem moves_takeSample (params : Params) (raw : Nat) (im : Int) (k : CornerPart) :
    Moves params k { k with reg := k.reg.takeSample params raw im } := by
  obtain ⟨hloop, hwanted⟩ := loop_takeSample k.reg params raw im
  by_cases he : k.reg.enabled = true
  · have hpid (hs : params.sound) (hb : Bounded params k.reg) : Bounded params (k.reg.pid params im) := by
      rw [Regulator.pid, if_pos he]
      exact ⟨hb.1, fun _ => boundU_mem hs.duty _⟩
    have henabled : (k.reg.takeSample params raw im).enabled = true := by
      refine (congrArg Prod.fst hloop).trans ?_
      simp [loop, Regulator.pid, he]
    exact .driven rfl (.inl he) henabled fun hs hb => (hpid hs hb).congr hloop
  · rw [Regulator.pid, if_neg he] at hloop
    exact .of_drive (congrArg (Prod.mk k.state) (Prod.ext hwanted hloop))

namespace Holds

variable {Q : Params → CornerPart → Prop} {p : Part}

theorem andRegulatorPeriodStart (h : Holds Q p) (c : Corner) : Holds Q (regulatorPeriodStart c p) := by
  have hadvanced : Holds Q (p.modCorner c fun k => { k with reg := k.reg.advance p.params }) :=
    h.andMove (moves_advance p.params _)
  unfold regulatorPeriodStart
  refine andQuiet ?_ fun _ => by rfl
  exact hadvanced.andWhen _ fun hr => hr.andRampDone c

theorem andPeriodStart (h : Holds Q p) (mv : Nat) : Holds Q (periodStart mv p) := by
  have hstarted : Holds Q ((p.modPwm fun w => w.start p.params).modPins fun x => { x with supplyMv := mv }) := h.andSame rfl rfl
  have hregulated := forCorners_keeps (fun c _ hr => hr.andRegulatorPeriodStart c) hstarted
  exact (hregulated.andScrub.andSupplySample mv).andValidationReading

theorem andRampComplete (h : Holds Q p) (c : Corner) :
    Holds Q (rampDone c (p.modCorner c fun k => { k with reg := k.reg.advance p.params })) :=
  (h.andMove (moves_advance p.params _)).andRampDone c

theorem andPass (h : Holds Q p) (w : Pwm) : Holds Q (p.pass w) :=
  h.andMoves rfl fun c => by
    rw [Part.pass_corner]
    exact .of_drive rfl

theorem andModPins (h : Holds Q p) (f : Pins → Pins) : Holds Q (p.modPins f) := h.andSame rfl rfl

theorem andTick (h : Holds Q p) : Holds Q p.tick := by
  have hset : Holds Q (p.setNow (p.now + 1)) := h.andSame rfl rfl
  exact hset.andPass _

theorem andConcludeCalibration (h : Holds Q p) (c : Corner) : Holds Q (concludeCalibration c p) := by
  unfold concludeCalibration
  split
  · exact h.andWhen _ fun h => h.andCalibrationOutcome c _
  · exact h

theorem andCurrentSample (h : Holds Q p) (c : Corner) (raw : BitVec 12) : Holds Q (currentSample c raw p) := by
  unfold currentSample
  refine andConcludeCalibration (andHandoff ?_ c _) c
  exact ((h.andPass _).andModPins _).andMove (moves_takeSample _ _ _ _)

theorem andLatchTrip (h : Holds Q p) (c : Corner) : Holds Q (latchTrip c p) :=
  andLatchReport (h.andDisabled fun _ => by rfl) c

theorem andLimitTrip (h : Holds Q p) (c : Corner) : Holds Q (limitTrip c p) := by
  unfold limitTrip
  split
  · exact h
  · exact andRaise (h.andQuiet fun _ => by rfl) _ _

theorem andOvercurrentTrip (h : Holds Q p) (c : Corner) (raw : BitVec 12) : Holds Q (overcurrentTrip c raw p) := by
  have hreached : Holds Q (reachTrip c raw p) := (h.andModPins _).andPass _
  have htripped : Holds Q ((reachTrip c raw p).modCorner c fun k => { k with reg := k.reg.trip }) :=
    hreached.andQuiet fun _ => by rfl
  unfold overcurrentTrip
  dsimp only
  split
  · exact (htripped.andCountCorner c _).andLatchTrip c
  · exact (htripped.andCountCorner c _).andLimitTrip c

theorem andEndByCause (h : Holds Q p) (c : Corner) (cause : TestEndCause) : Holds Q (endByCause c cause p) := by
  cases cause with
  | handoff im => exact h.andHandoff c im
  | trip => exact h.andLatchTrip c
  | calibration raw => exact h.andCalibrationOutcome c _

/-! ## The resets (chapter 7, R131, R160) -/

theorem andSoftResetWith (h : Holds Q p) (cause : Byte) : Holds Q (softResetWith cause p) := by
  refine h.andMoves rfl fun c => .disabled ?_
  have hcorner : (softResetWith cause p).corner c = (p.corner c).softReset p.supply := Quad.get_map _ _ _
  rw [hcorner]
  rfl

theorem andLinkResetStore (h : Holds Q p) : Holds Q (linkResetStore p) := by
  refine h.andMoves rfl fun c => ?_
  rw [linkResetStore_corner]
  exact .of_drive rfl

theorem andTakeLinkReset (h : Holds Q p) (f : Frame) : Holds Q (takeLinkReset f p) := by
  have hclear {p : Part} (h : Holds Q p) : Holds Q (clearLink p) := by
    have hflushed : Holds Q (p.modLink Link.flush) := h.andSame rfl rfl
    exact ((hflushed.andModPort .s _).andModPort .w _).andWhen _ fun hr => hr.andPutReasons .link false
  refine (hclear ?_).andPlaceWheelBound f
  split
  · exact h.andSoftResetWith 2
  · exact h.andLinkResetStore

theorem andPowerOn (h : Holds Q p) (straps : BitVec 2) (pins : Pins) : Holds Q (.powerOn straps pins) where
  form := h.form
  corners c := by
    have hcorner : (Part.powerOn straps pins).corner c = .powerOn := Quad.get_fill _ _
    rw [hcorner]
    exact h.form.powerOn

/-! ## The orders (chapter 10) -/

theorem andHoldWritten (h : Holds Q p) (c : Corner) : Holds Q (holdWritten c p) := by
  unfold holdWritten
  split
  · exact (h.andUnprime c).andPutReason .stale true c
  · exact h

/-- A WRITE_PARAM's value is stored and takes its effect (R169 to R171). -/
theorem andWritten (h : Holds Q p) (x : ParamId) (raw : Nat) :
    Holds Q (writeEffect x (storeParam x (p.params.settled p.largestSetpoint x raw) p)) := by
  have hstored : Holds Q (storedWithBounds x (p.params.settled p.largestSetpoint x raw) p) :=
    ⟨h.form, h.form.written x raw p h.corners⟩
  unfold storedWithBounds at hstored
  unfold writeEffect
  split
  · exact hstored
  · exact hstored
  · exact forCorners_keeps (fun c _ hr => hr.andHoldWritten c) hstored
  · rename_i hmin hmax _
    rwa [if_neg (not_or.mpr ⟨hmin, hmax⟩)] at hstored

theorem andWriteParam (h : Holds Q p) (args : List Byte) : Holds Q (writeParam args p).1 := by
  unfold writeParam
  split
  · split
    · exact h
    · split
      · exact h
      · exact h.andWritten _ _
  · exact h

theorem andGainWrite (h : Holds Q p) (args : List Byte) : Holds Q (gainWrite args p).1 := by
  unfold gainWrite
  split
  · split
    · exact h
    · dsimp only
      split
      · refine andJudgeLoaded ?_
        exact h.andSame rfl rfl
      · exact h
  · exact h

theorem andGainClear (h : Holds Q p) (args : List Byte) : Holds Q (gainClear args p).1 := by
  unfold gainClear
  split
  · split
    · exact h
    · split
      · exact h
      · exact h
      · refine andJudgeLoaded ?_
        exact h.andSame rfl rfl
  · exact h

theorem andFetchEvent (h : Holds Q p) (args : List Byte) : Holds Q (fetchEvent args p).1 := by
  unfold fetchEvent
  split
  · split
    · exact h
    · exact h.andSame rfl rfl
  · exact h

theorem andReadCounters (h : Holds Q p) (args : List Byte) : Holds Q (readCounters args p).1 := by
  have hclear (g : CounterGroup) : Holds Q (g.clear p) := by
    cases g with
    | port x => exact h.andCountPort x fun _ => .zero
    | corner c => exact h.andCountCorner c fun _ => .zero
    | whole => exact h.andModGlobals fun _ => .zero
  unfold readCounters
  split
  · split
    · exact h
    · split
      · exact h
      · split
        · exact hclear _
        · exact h
  · exact h

theorem andSoftReset (h : Holds Q p) (args : List Byte) : Holds Q (softReset args p).1 := by
  unfold softReset
  split
  · exact h.andSoftResetWith 1
  · exact h

theorem andReadParam (h : Holds Q p) (args : List Byte) : Holds Q (readParam args p).1 := by
  unfold readParam
  split
  · split <;> exact h
  · exact h

theorem andQueryStatus (h : Holds Q p) (args : List Byte) : Holds Q (queryStatus args p).1 := by
  unfold queryStatus
  split
  · split
    · exact h
    · split
      · split <;> exact h
      · exact h
  · exact h

end Holds

/-- What an order does before it is answered keeps a property of drivers. -/
def HandlerHolds (Q : Params → CornerPart → Prop) (handler : Handler) : Prop :=
  ∀ {p : Part}, Holds Q p → ∀ args, Holds Q (handler args p).1

theorem HandlerHolds.ite {Q : Params → CornerPart → Prop} {f g : Handler} (hf : HandlerHolds Q f) (condition : Prop)
    [Decidable condition] (hg : HandlerHolds Q g) : HandlerHolds Q (if condition then f else g) := by
  split
  · exact hf
  · exact hg

/-- Every order keeps it, whatever its code. -/
theorem handlerHolds_orderHandler (Q : Params → CornerPart → Prop) (code : Byte) : HandlerHolds Q (orderHandler code) :=
  HandlerHolds.ite Holds.andQueryStatus _ <| HandlerHolds.ite Holds.andReadParam _ <|
  HandlerHolds.ite Holds.andWriteParam _ <| HandlerHolds.ite Holds.andGainWrite _ <|
  HandlerHolds.ite Holds.andGainClear _ <| HandlerHolds.ite Holds.andMapOpen _ <|
  HandlerHolds.ite Holds.andMapData _ <| HandlerHolds.ite Holds.andMapClose _ <|
  HandlerHolds.ite Holds.andMapSwap _ <| HandlerHolds.ite Holds.andMapRead _ <|
  HandlerHolds.ite Holds.andEngage _ <| HandlerHolds.ite Holds.andRelease _ <|
  HandlerHolds.ite Holds.andValveTest _ <| HandlerHolds.ite Holds.andClearFault _ <|
  HandlerHolds.ite Holds.andFetchEvent _ <| HandlerHolds.ite Holds.andReadCounters _ <|
  HandlerHolds.ite Holds.andSoftReset _ fun h _ => h

namespace Holds

variable {Q : Params → CornerPart → Prop} {p : Part}

theorem andSettleOrder (o : OrderIn) (code : Byte) {r : Part × Answer} (h : Holds Q r.1) : Holds Q (settleOrder o code r) := by
  unfold settleOrder
  split
  · exact h.andSame (placeReply_params ..) (placeReply_corners ..)
  · exact h.andSame rfl rfl

theorem andTakeOrder (h : Holds Q p) (o : OrderIn) (code : Byte) {handler : Handler} (hh : HandlerHolds Q handler) :
    Holds Q (takeOrder o code handler p) := by
  unfold takeOrder
  split
  · exact (h.andModGlobals _).andRaise _ _
  · split
    · exact andSettleOrder o code h
    · exact andSettleOrder o code (hh h o.args)

theorem andOrderArrival (h : Holds Q p) (o : OrderIn) (code : Byte) {handler : Handler} (hh : HandlerHolds Q handler) :
    Holds Q (orderArrival o code handler p) := (h.andGoodFrame .s).andTakeOrder o code hh

/-! ## The ports (chapter 9) -/

theorem andRouteS (h : Holds Q p) (f : Frame) : Holds Q (routeS f p) := by
  unfold routeS
  split
  · unfold routeCyc
    split
    · exact h.andTakeCyc _ _ _
    · exact h.andPlaceWheelBound f
  · split
    · exact h.andTakeLinkReset f
    · split
      · split
        · exact h.andTakeOrder _ _ (handlerHolds_orderHandler Q _)
        · exact h.andCountPort .s _
      · exact h.andPlaceWheelBound f

theorem andRouteW (h : Holds Q p) (f : Frame) : Holds Q (routeW f p) := by
  have hoffered : Holds Q (offerBySource f p) := by
    unfold offerBySource
    split
    · exact h.andOfferSample _ _
    · exact h
  unfold routeW
  split
  · exact hoffered.andPlaceChassisBound f
  · split
    · exact h.andCountPort .w _
    · exact h.andPlaceChassisBound f

theorem andReceiveRun (h : Holds Q p) (x : Port) (run : List Byte) : Holds Q (receiveRun x run p) := by
  unfold receiveRun
  split
  · exact (h.andModPort x _).andCountPort x _
  · exact (h.andModPort x _).andCountPort x _
  · cases x with
    | s => exact (h.andGoodFrame .s).andRouteS _
    | w => exact (h.andGoodFrame .w).andRouteW _

theorem andCompleteSending (h : Holds Q p) (x : Port) (f : Sending) : Holds Q (completeSending x f p) := by
  have hidle : Holds Q ((p.reach f.doneAt).modPort x fun k => { k with sending := none }) := (h.andReach _).andModPort x _
  cases x with
  | s => exact hidle.andSame (arbitrateS_params _) (arbitrateS_corners _)
  | w => exact hidle.andSame (arbitrateW_params _) (arbitrateW_corners _)

theorem andLosAsserted (h : Holds Q p) (x : Port) : Holds Q (losAsserted x p) := by
  cases x with
  | s =>
    unfold losAsserted
    dsimp only
    split
    · exact (h.andRaise _ _).andEnterLocal 1
    · exact h.andRaise _ _
  | w => exact (h.andRaise (.linkLos .w) 0).andPutReasons .link true

theorem andLosCleared (h : Holds Q p) (x : Port) : Holds Q (losCleared x p) := by
  cases x with
  | s => exact h
  | w => exact h.andPutReasons .link false

theorem andJudgeLos (h : Holds Q p) (x : Port) : Holds Q (judgeLos x p) := by
  have hjudged : Holds Q (p.modPort x fun _ => (p.port x).judge p.params.losTime) := h.andModPort x _
  unfold judgeLos
  dsimp only
  split
  · exact hjudged.andLosAsserted x
  · exact hjudged.andWhen _ fun hr => hr.andLosCleared x

theorem andWindowEnd (h : Holds Q p) (x : Port) : Holds Q (windowEnd x p) := by
  have hended : Holds Q (p.modPort x fun k => k.endWindow p.params) := h.andModPort x _
  exact hended.andWhen _ fun hr => hr.andRaise _ _

theorem andIntervalEnd (h : Holds Q p) (x : Port) : Holds Q (intervalEnd x p) := by
  have hmarked : Holds Q ((judgeLos x p).modPort x fun k => { k with goodMark := false }) := (h.andJudgeLos x).andModPort x _
  unfold intervalEnd windowStep
  split
  · exact hmarked.andWindowEnd x
  · exact hmarked.andModPort x _

/-! ## Every step -/

theorem andOnlyWhen (h : Holds Q p) (condition : Part → Bool) {f : Part → Part} (hf : Holds Q p → Holds Q (f p)) :
    Holds Q (onlyWhen condition f p) := onlyWhen_keeps h fun _ => hf

theorem of_next {q : Part} {l : List Instr} {t : State} (hq : Holds Q q)
    (h : Host.Outcome.next (⟨q, l⟩ : State) = (.next t : Host.Outcome State Fault Refusal)) : Holds Q t.part := by
  cases h
  exact hq

/-- Every command keeps a property of drivers. -/
theorem andExec {s t : State} (hs : Holds Q s.part) (i : Instr) (h : exec i s = .next t) : Holds Q t.part := by
  cases i with
  | powerOnReset straps => exact of_next (hs.andPowerOn straps _) h
  | cycArrival instant dst src cyc => exact of_next (((hs.andReach instant).andGoodFrame .s).andTakeCyc dst src cyc) h
  | missTimerExpiry => exact of_next (hs.andExpire _ fun _ hr => hr.andMissExpiry) h
  | deadlineExpiry =>
    have hclosed (r : Part) (hr : Holds Q r) : Holds Q
        (if r.tracker.record.closed then r.modTracker (fun t => { t with deadlineAt := none }) else closeCycle r) := by
      split
      · exact hr.andModTracker _
      · exact hr.andCloseCycle
    exact of_next (hs.andExpire _ hclosed) h
  | holdLimitCrossed c => exact of_next (hs.andOnlyWhen _ fun hp => hp.andHeldComputation c) h
  | sampleArrival dst src payload => exact of_next ((hs.andGoodFrame .w).andRouteW _) h
  | channelStuck c ch v => exact of_next (hs.andOnlyWhen _ fun hp => hp.andFeedAndSettle c ch v) h
  | channelRelease c ch v => exact of_next (hs.andOnlyWhen _ fun hp => hp.andFeedAndSettle c ch v) h
  | linkReset dst src payload => exact of_next ((hs.andGoodFrame .s).andTakeLinkReset _) h
  | frameReceived instant x run => exact of_next ((hs.andReach instant).andReceiveRun x run) h
  | transmissionComplete x =>
    refine of_next ?_ h
    dsimp only
    split
    · exact hs
    · exact hs.andCompleteSending x _
  | queryStatus o => exact of_next (hs.andOrderArrival o _ andQueryStatus) h
  | readParam o => exact of_next (hs.andOrderArrival o _ andReadParam) h
  | writeParam o => exact of_next (hs.andOrderArrival o _ andWriteParam) h
  | gainWrite o => exact of_next (hs.andOrderArrival o _ andGainWrite) h
  | gainClear o => exact of_next (hs.andOrderArrival o _ andGainClear) h
  | mapOpen o => exact of_next (hs.andOrderArrival o _ andMapOpen) h
  | mapData o => exact of_next (hs.andOrderArrival o _ andMapData) h
  | mapClose o => exact of_next (hs.andOrderArrival o _ andMapClose) h
  | validationBankJudged => exact of_next (hs.andOnlyWhen _ fun hp => hp.andValidationReading) h
  | mapSwap o => exact of_next (hs.andOrderArrival o _ andMapSwap) h
  | mapRead o => exact of_next (hs.andOrderArrival o _ andMapRead) h
  | engage o => exact of_next (hs.andOrderArrival o _ andEngage) h
  | release o => exact of_next (hs.andOrderArrival o _ andRelease) h
  | valveTest o => exact of_next (hs.andOrderArrival o _ andValveTest) h
  | valveTestEnd c cause => exact of_next (hs.andOnlyWhen _ fun hp => hp.andEndByCause c cause) h
  | clearFault o => exact of_next (hs.andOrderArrival o _ andClearFault) h
  | fetchEvent o => exact of_next (hs.andOrderArrival o _ andFetchEvent) h
  | readCounters o => exact of_next (hs.andOrderArrival o _ andReadCounters) h
  | softReset o => exact of_next (hs.andOrderArrival o _ andSoftReset) h
  | unknownOrder o code => exact of_next (hs.andOrderArrival o code (handler := unknownOrder) fun hp _ => hp) h
  | pwmPeriodStart mv => exact of_next (hs.andPeriodStart mv) h
  | supplyLowAssert mv => exact of_next (hs.andOnlyWhen _ fun hp => hp.andSupplySample mv) h
  | supplyLowClear mv => exact of_next (hs.andOnlyWhen _ fun hp => hp.andSupplySample mv) h
  | rampComplete c => exact of_next (hs.andOnlyWhen _ fun hp => hp.andRampComplete c) h
  | currentSample c raw => exact of_next (hs.andOnlyWhen _ fun hp => hp.andCurrentSample c raw) h
  | openCondition c im => exact of_next (hs.andOnlyWhen _ fun hp => hp.andHandoff c im) h
  | shortSuspicion c im => exact of_next (hs.andOnlyWhen _ fun hp => hp.andHandoff c im) h
  | leakFault c im => exact of_next (hs.andOnlyWhen _ fun hp => hp.andHandoff c im) h
  | calibrationComplete c raw =>
    have hdone := hs.andOnlyWhen (completionDue c)
      (f := fun p => calibrationOutcome c ((p.corner c).reg.calibrationSum + raw.toNat) p) fun hp => hp.andCalibrationOutcome c _
    exact of_next hdone h
  | overcurrentTrip c raw ticks => exact of_next (hs.andOnlyWhen _ fun hp => hp.andOvercurrentTrip c raw) h
  | episodeRecovered c => exact of_next (hs.andOnlyWhen _ fun hp => hp.andEpisodeAtCycleStart c) h
  | supervisionIntervalEnd =>
    have hset : Holds Q ((s.part.reach s.part.intervalAt).setIntervalAt (s.part.intervalAt + Config.supervisionTicks)) :=
      hs.andSame rfl rfl
    exact of_next ((hset.andIntervalEnd .s).andIntervalEnd .w) h
  | losAssert x => exact of_next (hs.andOnlyWhen _ fun hp => hp.andJudgeLos x) h
  | losClear x => exact of_next (hs.andOnlyWhen _ fun hp => hp.andJudgeLos x) h
  | qualityWindowEnd x => exact of_next (hs.andOnlyWhen _ fun hp => hp.andWindowEnd x) h
  | wordUpset c id word value => exact of_next (hs.andBanks c _) h

/-- Every step keeps it: a command, or a tick, which moves no driver. -/
theorem andStep {s t : State} (hs : Holds Q s.part) (h : step s = .next t) : Holds Q t.part := by
  unfold step at h
  split at h
  · cases h
    exact hs.andTick
  · rename_i i rest _
    exact andExec (s := { s with pending := rest }) hs i h

end Holds

/-! ## The two properties -/

theorem storedWithBounds_params (x : ParamId) (v : Nat) (p : Part) :
    (storedWithBounds x v p).params = p.params.set x v := by
  unfold storedWithBounds
  split <;> rfl

/-- After a write a corner is as it was, or under the new duty bounds (R87, R171). -/
theorem storedWithBounds_corner (x : ParamId) (v : Nat) (p : Part) (c : Corner) :
    (storedWithBounds x v p).corner c =
      if x = .dutyMin ∨ x = .dutyMax then { p.corner c with reg := (p.corner c).reg.rebound (p.params.set x v) }
      else p.corner c := by
  unfold storedWithBounds
  split
  · exact reboundAll_corner c _
  · rfl

/-- A driver's state and enable fit: R81 and R82 read no parameter. -/
theorem driverForm_driverSound : DriverForm fun _ k => k.driverSound where
  moves := by
    rintro params k k' hm ⟨hrests, hoff⟩
    cases hm with
    | steered hloop hstate =>
      simp only [loop, Prod.mk.injEq] at hloop
      obtain ⟨henabled, hsetpoint, hduty, he1, he2, hu⟩ := hloop
      unfold CornerPart.driverSound Regulator.rests at *
      rw [henabled, hsetpoint, hduty, he1, he2, hu]
      refine ⟨hrests, fun h => ?_⟩
      obtain ⟨hwas, hwanted⟩ := hstate h
      exact hwanted ▸ hoff hwas
    | disabled hrest =>
      simp only [loop, atRest, Prod.mk.injEq] at hrest
      obtain ⟨hwanted, henabled, hsetpoint, hduty, he1, he2, hu⟩ := hrest
      exact ⟨fun _ => ⟨hduty, hsetpoint, he1, he2, hu⟩, fun _ => ⟨hwanted, henabled⟩⟩
    | driven hstate hwanted henabled hbounds =>
      refine ⟨fun h => by simp [henabled] at h, fun h => ?_⟩
      obtain ⟨hnot, hdisabled⟩ := hoff (hstate ▸ h)
      simp [hnot, hdisabled] at hwanted
  written x raw p h c := by
    obtain ⟨hrests, hoff⟩ := h c
    rw [storedWithBounds_corner]
    split
    · cases he : (p.corner c).reg.enabled with
      | false =>
        rw [rebound_of_disabled he]
        exact h c
      | true =>
        rw [rebound_of_enabled he]
        exact ⟨fun h => by simp [he] at h, hoff⟩
    · exact h c
  powerOn := ⟨fun _ => ⟨rfl, rfl, rfl, rfl, rfl⟩, fun _ => ⟨rfl, rfl⟩⟩

/-- Settles O57: R81 and R82 are kept by every move of a driver. -/
theorem driversKept : Obligations.DriversKept :=
  fun _ _ hs h => (Holds.andStep ⟨driverForm_driverSound, hs⟩ h).corners

theorem setpoint_le_largest (p : Part) (c : Corner) : (p.corner c).reg.setpoint ≤ p.largestSetpoint := by
  unfold Part.largestSetpoint
  cases c with
  | fl => exact (le_max_left _ _).trans (le_max_left _ _)
  | fr => exact (le_max_right _ _).trans (le_max_left _ _)
  | rl => exact (le_max_left _ _).trans (le_max_right _ _)
  | rr => exact (le_max_right _ _).trans (le_max_right _ _)

theorem largest_le {p : Part} {limit : Nat} (h : ∀ c, (p.corner c).reg.setpoint ≤ limit) : p.largestSetpoint ≤ limit :=
  max_le (max_le (h .fl) (h .fr)) (max_le (h .rl) (h .rr))

/-- A write leaves every setpoint within CURRENT_LIMIT (R85, R170). -/
theorem setpoint_le_written {p : Part} (h : ∀ c, (p.corner c).reg.setpoint ≤ p.params.currentLimit) (x : ParamId) (raw : Nat)
    (c : Corner) : (p.corner c).reg.setpoint ≤ (p.params.set x (p.params.settled p.largestSetpoint x raw)).currentLimit := by
  change _ ≤ (p.params.set x _).get .currentLimit
  rw [get_set]
  split
  · rename_i hx
    rw [← hx]
    exact (setpoint_le_largest p c).trans (largest_le_settled _ _ _)
  · exact h c

/-- A write of another parameter leaves the duty bounds. -/
theorem dutySound_set {params : Params} {x : ParamId} (hx : ¬ (x = .dutyMin ∨ x = .dutyMax)) (v : Nat) {r : Regulator}
    (h : r.dutySound params) : r.dutySound (params.set x v) := by
  obtain ⟨hmin, hmax⟩ := not_or.mp hx
  have hmin : (params.set x v).dutyMin = params.dutyMin := get_set_of_ne (Ne.symm hmin) params v
  have hmax : (params.set x v).dutyMax = params.dutyMax := get_set_of_ne (Ne.symm hmax) params v
  unfold Regulator.dutySound
  rwa [hmin, hmax]

theorem dutySound_rebound {params : Params} (h : params.dutyMin ≤ params.dutyMax) (r : Regulator) :
    (r.rebound params).dutySound params := by
  unfold Regulator.rebound
  split
  · exact fun _ => boundU_mem h _
  · exact fun he => absurd he (by assumption)

theorem rebound_setpoint (r : Regulator) (params : Params) : (r.rebound params).setpoint = r.setpoint := by
  unfold Regulator.rebound
  split <;> rfl

/-- Sound parameters bound every setpoint and every enabled driver (R85, R87). -/
theorem driverForm_bounded : DriverForm fun params k => params.sound ∧ Bounded params k.reg where
  moves := by
    rintro params k k' hm ⟨hs, hb⟩
    refine ⟨hs, ?_⟩
    cases hm with
    | steered hloop _ => exact hb.congr hloop
    | disabled hrest =>
      simp only [loop, atRest, Prod.mk.injEq] at hrest
      obtain ⟨-, henabled, hsetpoint, -⟩ := hrest
      exact ⟨by rw [hsetpoint]; exact Nat.zero_le _, fun h => by simp [henabled] at h⟩
    | driven _ _ _ hbounds => exact hbounds hs hb
  written x raw p h c := by
    have hlimit (d : Corner) : (p.corner d).reg.setpoint ≤ p.params.currentLimit := (h d).2.1
    have hsound := sound_set_settled (h c).1 (largest_le hlimit) x raw
    have hsetpoint := setpoint_le_written hlimit x raw c
    rw [storedWithBounds_params, storedWithBounds_corner]
    refine ⟨hsound, ?_⟩
    split
    · exact ⟨(rebound_setpoint _ _).trans_le hsetpoint, dutySound_rebound hsound.duty _⟩
    · exact ⟨hsetpoint, dutySound_set (by assumption) _ (h c).2.2⟩
  powerOn := by
    refine ⟨⟨fun id => ?_, by decide, by decide, by decide, by decide⟩, by decide, nofun⟩
    cases id <;> decide

theorem dutiesSound_iff (p : Part) :
    p.dutiesSound ↔ p.eachCorner fun k => p.params.sound ∧ Bounded p.params k.reg := by
  constructor
  · rintro ⟨⟨hs, hsetpoints⟩, hduties⟩ c
    exact ⟨hs, hsetpoints c, hduties c⟩
  · intro h
    exact ⟨⟨(h .fl).1, fun c => (h c).2.1⟩, fun c => (h c).2.2⟩

/-- Settles O56: the bounds of R85 and R87 are kept by every move of a driver, and R170 keeps those of the parameters. -/
theorem dutiesKept : Obligations.DutiesKept := fun s t hs h =>
  (dutiesSound_iff t.part).mpr (Holds.andStep ⟨driverForm_bounded, (dutiesSound_iff s.part).mp hs⟩ h).corners

end Sys2Proof.Drivers

/-! # What becomes of a corner and of RELEASING

The operations of diagnosis and supervisor in the words of the statements, and the end of RELEASING (R119). -/

namespace Sys2Proof.CornerOutcomes

open Sys2Proof Sys2Proof.Machine Sys2Proof.Claims Sys2Proof.Estimation Sys2Proof.Supervisory

/-! ## One corner replaced -/

theorem modCorner_modCorner (c : Corner) (f g : CornerPart → CornerPart) (p : Part) :
    (p.modCorner c f).modCorner c g = p.modCorner c (g ∘ f) := by
  have hcorners : ((p.modCorner c f).modCorner c g).corners = (p.modCorner c (g ∘ f)).corners := by
    refine Quad.ext_get fun d => ?_
    change ((p.modCorner c f).modCorner c g).corner d = (p.modCorner c (g ∘ f)).corner d
    rw [Part.corner_modCorner, Part.corner_modCorner_self, Part.corner_modCorner, Part.corner_modCorner]
    split <;> rfl
  exact congrArg (fun x => { p with corners := x }) hcorners

theorem modCorner_eq {c : Corner} {f : CornerPart → CornerPart} {p : Part} {k : CornerPart} (h : f (p.corner c) = k) :
    p.modCorner c f = { p with corners := p.corners.set c k } := by
  subst h
  rfl

/-! ## Diagnosis and regulator (R82, R99, R100, R104, R105) -/

theorem abandon_eq (d : Diagnosis) : d.abandon = abandoned d := by
  unfold Diagnosis.abandon abandoned
  cases d.episode <;> rfl

theorem turnOff_eq (k : CornerPart) : k.turnOff = turnedOff k := by
  rw [CornerPart.turnOff, abandon_eq]
  rfl

theorem latch_eq (d : Diagnosis) (kind : FaultKind) : d.latch kind = latched d kind := by
  unfold Diagnosis.latch latched
  cases d.episode <;> rfl

theorem suspect_inEpisode (d : Diagnosis) (kind : FaultKind) (limit : Nat) (cycle : Word) :
    (d.inEpisode limit cycle).suspect kind = suspected limit cycle kind d := by
  unfold Diagnosis.inEpisode suspected
  cases he : d.episode with
  | none => rfl
  | some e => simp [Diagnosis.suspect, he]

/-- A suspicion sets the runs it looks at to 0 in any case (R100). -/
theorem suspected_runs (d : Diagnosis) (kind : FaultKind) (limit : Nat) (cycle : Word) (o s : Nat) :
    suspected limit cycle kind { d with openRun := o, shortRun := s } = suspected limit cycle kind d := by
  unfold suspected
  cases d.episode <;> rfl

/-! ## The end of RELEASING (R119) -/

theorem judgeReleased_of_ne {p : Part} (h : p.control ≠ .releasing) : judgeReleased p = p := if_neg fun hr => h hr.1

theorem released_iff (p : Part) : p.corners.toList.all (fun k => k.state = .off || k.state = .fault) = true ↔
    ∀ d, (p.corner d).state = .off ∨ (p.corner d).state = .fault := by
  rw [Quad.all_toList]
  simp only [Bool.or_eq_true, decide_eq_true_eq]
  rfl

theorem judgeReleased_of_waiting {p : Part} {d : Corner} (ho : (p.corner d).state ≠ .off) (hf : (p.corner d).state ≠ .fault) :
    judgeReleased p = p :=
  if_neg fun hr => ((released_iff p).mp hr.2 d).elim ho hf

theorem judgeReleased_of_released {p : Part} (hc : p.control = .releasing)
    (h : ∀ d, (p.corner d).state = .off ∨ (p.corner d).state = .fault) : judgeReleased p = settleUnengaged p :=
  if_pos ⟨hc, (released_iff p).mpr h⟩

theorem enterUnloaded_corner (p : Part) (d : Corner) : (enterUnloaded p).corner d = { p.corner d with motion := .unprimed } :=
  forCorners_corner (f := unprime) (g := fun _ k => { k with motion := .unprimed })
    (fun _ _ => Part.corner_modCorner_self _ _ _) (fun c _ p h => unprime_corner_of_ne c h p) (fun _ _ _ => rfl) d _

/-- What the end of RELEASING makes of a part: the control state settles, and only motion records change with it. -/
theorem settled_settleUnengaged (p : Part) : settled p.loaded (settleUnengaged p) ∧
    settleUnengaged p = { p with corners := (settleUnengaged p).corners, control := (settleUnengaged p).control } ∧
      ∀ d, ∃ m, (settleUnengaged p).corner d = { p.corner d with motion := m } := by
  unfold settleUnengaged
  cases hl : p.loaded with
  | true => exact ⟨⟨rfl, nofun⟩, rfl, fun d => ⟨_, rfl⟩⟩
  | false =>
    refine ⟨⟨rfl, fun _ c => ?_⟩, rfl, fun d => ⟨_, enterUnloaded_corner p d⟩⟩
    exact congrArg CornerPart.motion (enterUnloaded_corner p c)

theorem loaded_modCorner {c : Corner} {f : CornerPart → CornerPart} {p : Part}
    (h : (f (p.corner c)).banks = (p.corner c).banks) : (p.modCorner c f).loaded = p.loaded := by
  refine Upkeep.loaded_congr (fun d => ?_) rfl
  rw [Part.corner_modCorner]
  split
  · rename_i hd
    rw [h, hd]
  · rfl

/-- A corner turned off in RELEASING: the rest waits for the others, or RELEASING ends with it. -/
theorem turnOff_releasing (c : Corner) {p : Part} (hc : p.control = .releasing) :
    ((∃ d, d ≠ c ∧ (p.corner d).state ≠ .off ∧ (p.corner d).state ≠ .fault) →
      judgeReleased (p.modCorner c CornerPart.turnOff) = p.modCorner c CornerPart.turnOff) ∧
    ((∀ d, d ≠ c → (p.corner d).state = .off ∨ (p.corner d).state = .fault) →
      judgeReleased (p.modCorner c CornerPart.turnOff) = settleUnengaged (p.modCorner c CornerPart.turnOff)) := by
  constructor
  · rintro ⟨d, hd, ho, hf⟩
    rw [← Part.corner_modCorner_of_ne hd CornerPart.turnOff p] at ho hf
    exact judgeReleased_of_waiting ho hf
  · intro h
    refine judgeReleased_of_released hc fun d => ?_
    by_cases hd : d = c
    · rw [hd, Part.corner_modCorner_self]
      exact .inl rfl
    · rw [Part.corner_modCorner_of_ne hd]
      exact h d hd

end Sys2Proof.CornerOutcomes

/-! # The end of a ramp (R84, R118, R119, R123) -/

namespace Sys2Proof.RampEnds

open Sys2Proof Sys2Proof.Machine Sys2Proof.Claims Sys2Proof.CornerOutcomes Sys2Proof.PeriodStarts

/-- The move that ends a ramp leaves nothing but a taken enable's first trip cleared, once the driver is disabled (R82, R84). -/
theorem disable_advance_of_ramping {r : Regulator} (h : r.wanted = .ramping) (params : Params) :
    (r.advance params).disable = rampEnded r := by
  rw [advance_of_ramping params h]
  cases he : r.enabled with
  | true => simp [periodEnable_of_enabled params he, rampEnded, driverDisabled, Regulator.disable, he]
  | false => simp [periodEnable_of_pending params he (by simp [h]), rampEnded, driverDisabled, Regulator.disable, he]

/-- A regulator with its move of a period start made. -/
def advanced (c : Corner) (p : Part) : Part := p.modCorner c fun k => { k with reg := k.reg.advance p.params }

theorem exec_rampComplete {c : Corner} {s : State} (hw : (s.part.corner c).reg.wanted = .ramping)
    (hs : (s.part.corner c).reg.enabled = false ∨ (s.part.corner c).reg.setpoint ≤ s.part.params.ramp) :
    exec (.rampComplete c) s = .next ⟨rampDone c (advanced c s.part), s.pending⟩ := by
  have hends : (s.part.corner c).reg.rampEnds s.part.params = true := by
    rw [rampEnds_of_ramping _ hw]
    exact decide_eq_true hs
  exact congrArg (fun q => Host.Outcome.next (State.mk q s.pending)) (onlyWhen_pos hends _)

theorem advanced_state (c d : Corner) (p : Part) : ((advanced c p).corner d).state = (p.corner d).state := by
  rw [advanced, Part.corner_modCorner]
  split
  · rename_i h
    rw [h]
  · rfl

/-- In RELEASING a corner that regulates or is passive is turned off at the end of its ramp. -/
theorem rampDone_releasing {c : Corner} {p : Part} (hc : p.control = .releasing)
    (hs : (p.corner c).state = .control ∨ ∃ x, (p.corner c).state = .passive x) :
    rampDone c p = judgeReleased (p.modCorner c CornerPart.turnOff) := by
  rcases hs with hs | ⟨x, hs⟩ <;> simp only [rampDone, hc, hs]

theorem rampDone_passive {c : Corner} {p : Part} {x : Bool} (hc : p.control ≠ .releasing)
    (hs : (p.corner c).state = .passive x) : rampDone c p = p.modCorner c CornerPart.rest := by
  unfold rampDone
  split <;> simp_all

/-- The part with the corner turned off at the end of its ramp in RELEASING. -/
def rampedOff (c : Corner) (p : Part) : Part :=
  { p with corners := p.corners.set c (turnedOff { p.corner c with reg := rampEnded (p.corner c).reg }) }

theorem turnOff_advanced {c : Corner} {p : Part} (hw : (p.corner c).reg.wanted = .ramping) :
    (advanced c p).modCorner c CornerPart.turnOff = rampedOff c p := by
  rw [advanced, modCorner_modCorner]
  refine modCorner_eq ?_
  rw [← disable_advance_of_ramping hw p.params]
  exact turnOff_eq _

theorem rampedOff_corner_self (c : Corner) (p : Part) :
    (rampedOff c p).corner c = turnedOff { p.corner c with reg := rampEnded (p.corner c).reg } := Quad.get_set_self _ _ _

theorem rampedOff_loaded (c : Corner) (p : Part) : (rampedOff c p).loaded = p.loaded :=
  loaded_modCorner (c := c) (f := fun k => turnedOff { k with reg := rampEnded k.reg }) rfl

/-- The last corner to be turned off ends RELEASING. -/
theorem settle_rampedOff (c : Corner) (p : Part) :
    settled p.loaded (settleUnengaged (rampedOff c p)) ∧
      settleUnengaged (rampedOff c p) = { p with
        corners := (settleUnengaged (rampedOff c p)).corners, control := (settleUnengaged (rampedOff c p)).control } ∧
      ((settleUnengaged (rampedOff c p)).corner c).state = .off ∧
      ((settleUnengaged (rampedOff c p)).corner c).reg =
        { driverDisabled (rampEnded (p.corner c).reg) with calibration := none } ∧
      ∀ d, d ≠ c → { (settleUnengaged (rampedOff c p)).corner d with motion := (p.corner d).motion } = p.corner d := by
  obtain ⟨hsettled, hframe, hcorners⟩ := settled_settleUnengaged (rampedOff c p)
  obtain ⟨m, hm⟩ := hcorners c
  rw [rampedOff_loaded] at hsettled
  rw [rampedOff_corner_self] at hm
  refine ⟨hsettled, hframe, by rw [hm]; rfl, by rw [hm]; rfl, fun d hd => ?_⟩
  obtain ⟨n, hn⟩ := hcorners d
  have hsame : (rampedOff c p).corner d = p.corner d := Quad.get_set_of_ne hd _ _
  rw [hn, hsame]

/-- Settles O46: the ramp's end disables the driver, and the supervisor's act is by control and corner state. -/
theorem rampComplete : Obligations.RampComplete := by
  intro c s hw hends
  have hexec := exec_rampComplete hw hends
  refine ⟨fun x hx hc => ?_, fun hstate hc => ?_⟩
  · have hpassive : ((advanced c s.part).corner c).state = .passive x := (advanced_state c c _).trans hx
    have hother : (advanced c s.part).control ≠ .releasing := hc
    rw [answers, hexec, rampDone_passive hother hpassive, advanced, modCorner_modCorner]
    refine congrArg (fun q => Host.Outcome.next (State.mk q s.pending)) (modCorner_eq ?_)
    rw [← disable_advance_of_ramping hw s.part.params]
    rfl
  · have hreleasing : (advanced c s.part).control = .releasing := hc
    obtain ⟨hwaits, hdone⟩ := turnOff_releasing c hreleasing
    rw [← advanced_state c c] at hstate
    simp only [advanced_state, turnOff_advanced hw] at hwaits hdone
    rw [answers, hexec, rampDone_releasing hreleasing hstate, turnOff_advanced hw]
    refine ⟨fun h => by rw [hwaits h]; rfl, fun h => ?_⟩
    rw [hdone h]
    exact ⟨_, rfl, rfl, settle_rampedOff c s.part⟩

end Sys2Proof.RampEnds

/-! # The comparators follow the counter (R75, R76, R88), and the tick of the timebase -/

namespace Sys2Proof.Comparators

open Sys2Proof Sys2Proof.Machine Sys2Proof.Claims

theorem filterTicks_eq : ∀ filter : Nat, filterTicks filter = filterTime filter
  | 0 => rfl
  | 1 => rfl
  | 2 => rfl
  | _ + 3 => rfl

theorem over_iff (p : Part) (c : Corner) (raw : BitVec 12) :
    p.over c raw = true ↔ (p.pwm.tripLevel : Int) < measuredCurrent p.params (p.corner c).reg raw := decide_eq_true_iff

theorem pass_gate (w : Pwm) (p : Part) (c : Corner) : (p.pass w).gate c = (p.corner c).reg.gate w := by
  rw [Part.gate, Part.pass_corner]
  rfl

/-- The run of a comparator that has followed the counter: the ticks of on-time passed join it while it goes on (R88). -/
theorem pass_overRun (w : Pwm) (p : Part) (c : Corner) :
    ((p.pass w).corner c).reg.overRun = if (p.pass w).gate c = true ∧
        (p.pwm.tripLevel : Int) < measuredCurrent p.params (p.corner c).reg (p.pins.sense.get c)
      then (if p.gate c then (p.corner c).reg.overRun else 0) +
        (onBegun w (p.corner c).reg.compare - onBegun p.pwm (p.corner c).reg.compare)
      else 0 := by
  rw [pass_gate, Part.pass_corner]
  refine if_congr ?_ rfl rfl
  rw [Bool.and_eq_true, over_iff, and_comm]

/-- A comparator that has followed the counter differs by its run alone. -/
theorem pass_corner_overRun (w : Pwm) (p : Part) (c : Corner) :
    (p.pass w).corner c = { p.corner c with
      reg := { (p.corner c).reg with overRun := ((p.pass w).corner c).reg.overRun } } := by
  rw [Part.pass_corner]
  rfl

theorem mem_tripsDue (p : Part) (c : Corner) :
    Instr.overcurrentTrip c (p.pins.sense.get c) 0 ∈ p.tripsDue ↔ p.tripDue c = true := by
  unfold Part.tripsDue
  constructor
  · intro h
    obtain ⟨d, hd, heq⟩ := List.mem_map.mp h
    obtain ⟨rfl, -⟩ := Instr.overcurrentTrip.inj heq
    exact (List.mem_filter.mp hd).2
  · intro h
    exact List.mem_map.mpr ⟨c, List.mem_filter.mpr ⟨by cases c <;> decide, h⟩, rfl⟩

/-- The comparator trips among the events due are those of `tripsDue`. -/
theorem trip_mem_dueEvents (p : Part) (c : Corner) (raw : BitVec 12) (ticks : Nat) :
    Instr.overcurrentTrip c raw ticks ∈ p.dueEvents ↔ Instr.overcurrentTrip c raw ticks ∈ p.tripsDue := by
  simp [Part.dueEvents, Part.samplesAt]

theorem missTimerExpiry_mem_dueEvents (p : Part) : Instr.missTimerExpiry ∈ p.dueEvents ↔ due p.tracker.missAt p.now = true := by
  simp [Part.dueEvents, Part.samplesAt, Part.tripsDue]

theorem deadlineExpiry_mem_dueEvents (p : Part) :
    Instr.deadlineExpiry ∈ p.dueEvents ↔ due p.tracker.deadlineAt p.now = true := by
  simp [Part.dueEvents, Part.samplesAt, Part.tripsDue]

theorem intervalEnd_mem_dueEvents (p : Part) : Instr.supervisionIntervalEnd ∈ p.dueEvents ↔ p.intervalAt ≤ p.now := by
  simp [Part.dueEvents, Part.samplesAt, Part.tripsDue]

theorem due_iff (at? : Option Nat) (now : Nat) : due at? now = true ↔ ∃ t, at? = some t ∧ t ≤ now := by
  cases at? <;> simp [due]

/-! ## One tick -/

theorem tick_down {w : Pwm} (hd : w.up = false) (hc : 1 ≤ w.count) :
    w.tick = { w with count := w.count - 1, up := decide (w.count = 1) } := by
  by_cases h : w.count ≤ 1
  · have hone : w.count = 1 := by omega
    simp [Pwm.tick, hd, hone]
  · have hmore : w.count ≠ 1 := by omega
    simp [Pwm.tick, hd, h, hmore]

theorem tick_up {w : Pwm} (hu : w.up = true) (hc : w.count < w.half) : w.tick = { w with count := w.count + 1 } := by
  simp [Pwm.tick, hu, hc]

theorem tick_tripFilter (w : Pwm) : w.tick.tripFilter = w.tripFilter := by
  unfold Pwm.tick
  split
  · split <;> rfl
  · split <;> rfl

/-- A tick at which the counter moves, and after which it is below C, begins one tick of the on-interval (R76). -/
theorem onBegun_tick {w : Pwm} {compare : Nat} (hmoves : w.up = false ∧ 1 ≤ w.count ∨ w.up = true ∧ w.count < w.half)
    (hbelow : w.tick.count < compare) : onBegun w.tick compare - onBegun w compare = 1 := by
  rcases hmoves with ⟨hd, hc⟩ | ⟨hu, hc⟩
  · rw [tick_down hd hc] at hbelow ⊢
    by_cases h : w.count = 1
    · simp [onBegun, hd, h] at hbelow ⊢
      omega
    · simp [onBegun, hd, h] at hbelow ⊢
      omega
  · rw [tick_up hu hc] at hbelow ⊢
    simp only [onBegun, hu, if_true] at hbelow ⊢
    omega

theorem tick_compare (p : Part) (c : Corner) : (p.tick.corner c).reg.compare = (p.corner c).reg.compare := by
  rw [Part.tick_corner]
  rfl

/-- The run after a tick at which the counter moves (R88). -/
theorem tick_overRun (p : Part) (c : Corner)
    (hmoves : p.pwm.up = false ∧ 1 ≤ p.pwm.count ∨ p.pwm.up = true ∧ p.pwm.count < p.pwm.half) :
    (p.tick.corner c).reg.overRun = if p.tick.gate c = true ∧
        (p.pwm.tripLevel : Int) < measuredCurrent p.params (p.corner c).reg (p.pins.sense.get c)
      then (if p.gate c then (p.corner c).reg.overRun else 0) + 1 else 0 := by
  have hrun := pass_overRun p.pwm.tick (p.setNow (p.now + 1)) c
  change (p.tick.corner c).reg.overRun = if p.tick.gate c = true ∧
        (p.pwm.tripLevel : Int) < measuredCurrent p.params (p.corner c).reg (p.pins.sense.get c)
      then (if p.gate c then (p.corner c).reg.overRun else 0) +
        (onBegun p.pwm.tick (p.corner c).reg.compare - onBegun p.pwm (p.corner c).reg.compare) else 0 at hrun
  rw [hrun]
  refine ite_congr rfl (fun hon => ?_) fun _ => rfl
  obtain ⟨-, -, hbelow⟩ := (Part.gate_iff _ c).mp hon.1
  rw [tick_compare] at hbelow
  rw [onBegun_tick hmoves hbelow]

/-- Settles O2: the tick is the step on an empty queue, and the events due are those of the part after it. -/
theorem stepIdlesForOneTick : Obligations.StepIdlesForOneTick := by
  intro s hempty
  refine ⟨s.idle, by rw [step, hempty], Part.tick_eq _, tick_down, tick_up, fun c => ?_, ?_, ?_, ?_⟩
  · refine ⟨(s.part.tick.corner c).reg.overRun, pass_corner_overRun _ (s.part.setNow _) c, tick_overRun s.part c, ?_⟩
    refine (trip_mem_dueEvents _ c _ 0).trans ((mem_tripsDue s.part.tick c).trans ?_)
    rw [Part.tripDue, Bool.and_eq_true, decide_eq_true_eq, filterTicks_eq, Part.tick_pwm, tick_tripFilter]
    rfl
  · exact (missTimerExpiry_mem_dueEvents _).trans (due_iff _ _)
  · exact (deadlineExpiry_mem_dueEvents _).trans (due_iff _ _)
  · exact intervalEnd_mem_dueEvents _

end Sys2Proof.Comparators

/-! # The trip of a comparator (R88 to R90, R97, R100, R119, R123) -/

namespace Sys2Proof.Trips

open Sys2Proof Sys2Proof.Machine Sys2Proof.Claims Sys2Proof.Estimation Sys2Proof.Supervisory Sys2Proof.CornerOutcomes
  Sys2Proof.Comparators

/-! ## When a comparator trips -/

theorem tripTick_eq (p : Part) (c : Corner) :
    p.tripTick c = onBegun p.pwm (p.corner c).reg.compare + ticksNeeded p c := by
  rw [Part.tripTick, filterTicks_eq]
  rfl

theorem atOnTick_eq (w : Pwm) (compare n : Nat) : w.atOnTick compare n = counterAt w compare n := by
  unfold Pwm.atOnTick counterAt
  by_cases h : n < compare
  · simp [h, Nat.not_le.mpr h]
  · simp [h, Nat.not_lt.mp h]

theorem tripAt_eq (p : Part) (c : Corner) :
    p.tripAt c = counterAt p.pwm (p.corner c).reg.compare (onBegun p.pwm (p.corner c).reg.compare + ticksNeeded p c) := by
  rw [Part.tripAt, atOnTick_eq, tripTick_eq]

theorem phase_atOnTick (w : Pwm) (compare n : Nat) : (w.atOnTick compare n).phase = (n : Int) - compare := by
  unfold Pwm.atOnTick Pwm.phase
  by_cases h : n < compare
  · simp [h]
    omega
  · simp [h]
    omega

/-- With the counter past the on-interval the gate is off, and a run would need a tick that is not left in the period. -/
theorem ticksNeeded_pos_of_past {p : Part} {c : Corner} (h : (p.corner c).reg.compare ≤ p.pwm.count) : 1 ≤ ticksNeeded p c := by
  have hoff : p.gate c = false := by
    rw [← Bool.not_eq_true, Part.gate_iff]
    rintro ⟨-, -, hbelow⟩
    omega
  simp [ticksNeeded, hoff]

/-- The room for the trip within the on-interval and within the ticks given (R76, R88). -/
theorem trip_in_time (p : Part) (c : Corner) (ticks : Nat) :
    (p.tripTick c + 1 ≤ 2 * (p.corner c).reg.compare ∧ (p.tripAt c).phase ≤ p.pwm.phase + ticks) ↔
      (p.pwm.up = true → p.pwm.count < (p.corner c).reg.compare) ∧
        onBegun p.pwm (p.corner c).reg.compare + ticksNeeded p c + 1 ≤ 2 * (p.corner c).reg.compare ∧
        (p.pwm.count - (p.corner c).reg.compare) + ticksNeeded p c ≤ ticks := by
  rw [Part.tripAt, phase_atOnTick, tripTick_eq]
  have hpast := ticksNeeded_pos_of_past (p := p) (c := c)
  generalize ticksNeeded p c = needed at hpast ⊢
  generalize (p.corner c).reg.compare = compare at hpast ⊢
  cases hu : p.pwm.up with
  | false =>
    simp only [onBegun, Pwm.phase, hu, Bool.false_eq_true, if_false, false_implies, true_and]
    omega
  | true =>
    simp only [onBegun, Pwm.phase, hu, if_true, true_implies]
    omega

theorem trips_iff (c : Corner) (raw : BitVec 12) (ticks : Nat) (p : Part) :
    trips c raw ticks p = true ↔ tripMet p c raw ticks := by
  simp only [trips, tripMet, Bool.and_eq_true, decide_eq_true_eq, Bool.not_eq_true', over_iff]
  have htime := trip_in_time p c ticks
  tauto

/-! ## The trip at the comparator -/

/-- A corner at its comparator's trip: the gate off for the period, and OVERCURRENT counted (R88). -/
def trippedCorner (k : CornerPart) : CornerPart :=
  { k with
    reg := { k.reg with tripped := true, overRun := 0 }
    counters := { k.counters with overcurrent := min 4294967295 (k.counters.overcurrent + 1) } }

/-- The part at a trip, before the trip mode acts. -/
def tripped (c : Corner) (raw : BitVec 12) (p : Part) : Part :=
  countCorner c (fun k => { k with overcurrent := inc k.overcurrent })
    ((reachTrip c raw p).modCorner c (fun k => { k with reg := k.reg.trip }))

theorem overcurrentTrip_eq (c : Corner) (raw : BitVec 12) (p : Part) : overcurrentTrip c raw p =
    if p.pwm.tripLatch then latchTrip c (tripped c raw p) else limitTrip c (tripped c raw p) := rfl

theorem pass_eq (w : Pwm) (p : Part) : p.pass w = { p with pwm := w, corners := (p.pass w).corners } := rfl

theorem tripped_eq (c : Corner) (raw : BitVec 12) (p : Part) : tripped c raw p = { p with
    pwm := p.tripAt c, pins := { p.pins with sense := p.pins.sense.set c raw }, corners := (tripped c raw p).corners } := by
  unfold tripped reachTrip
  rfl

theorem tripped_corner_self (c : Corner) (raw : BitVec 12) (p : Part) :
    (tripped c raw p).corner c = trippedCorner (p.corner c) := by
  rw [tripped, countCorner, modCorner_modCorner, Part.corner_modCorner_self, reachTrip, Part.pass_corner]
  rfl

theorem tripped_corner_of_ne {c d : Corner} (hd : d ≠ c) (raw : BitVec 12) (p : Part) :
    ∃ run, (tripped c raw p).corner d = { p.corner d with reg := { (p.corner d).reg with overRun := run } } := by
  rw [tripped, countCorner, modCorner_modCorner, Part.corner_modCorner_of_ne hd]
  exact ⟨_, pass_corner_overRun _ _ d⟩

/-! ## A suspicion (R99, R100, R103, R104) -/

theorem enterFault_of_ne {p : Part} (hc : p.control ≠ .releasing) (c : Corner) (kind : FaultKind) :
    enterFault c kind p = raise (.valveFault c) kind.code (p.modCorner c (fun k => { k with
      state := .fault, reg := k.reg.disable.endCalibration, diag := k.diag.latch kind })) :=
  judgeReleased_of_ne hc

theorem limit_suspected (d : Diagnosis) (kind : FaultKind) (limit : Nat) (cycle : Word) :
    (suspected limit cycle kind d).limit = match d.episode with
      | some e => e.limit
      | none => limit := by
  unfold suspected
  cases d.episode <;> rfl

/-- Outside RELEASING a suspicion makes of its corner what R100 says. -/
theorem suspicion_corner {p : Part} (hc : p.control ≠ .releasing) (c : Corner) (kind : FaultKind) :
    afterSuspicion kind p (p.corner c) ((suspicion c kind p).corner c) := by
  unfold suspicion
  simp only [suspect_inEpisode]
  have hc' : (p.modCorner c fun k => { k with
      diag := suspected p.params.retryLimit p.tracker.record.number kind (p.corner c).diag
      counters := { k.counters with retry := inc k.counters.retry } }).control ≠ .releasing := hc
  have hlimit := limit_suspected (p.corner c).diag kind p.params.retryLimit p.tracker.record.number
  refine ⟨fun hretry => ?_, fun hlast hround => ?_, fun hlast hround => ?_⟩
  · rw [if_pos (hretry.trans_eq hlimit.symm), modCorner_modCorner, Part.corner_modCorner_self]
    rfl
  · rw [if_neg (Nat.not_le.mpr (hlimit.trans_lt hlast)), if_pos hround, modCorner_modCorner, Part.corner_modCorner_self]
    rfl
  · rw [if_neg (Nat.not_le.mpr (hlimit.trans_lt hlast)), if_neg hround, enterFault_of_ne hc', raise_corner,
      modCorner_modCorner, Part.corner_modCorner_self]
    dsimp only [Function.comp]
    rw [latch_eq]
    rfl

/-- The open and short runs are of no account to a suspicion, which sets them to 0. -/
theorem afterSuspicion_runs {kind : FaultKind} {p : Part} {k q : CornerPart} (o s : Nat)
    (h : afterSuspicion kind p { k with diag := { k.diag with openRun := o, shortRun := s } } q) : afterSuspicion kind p k q := by
  simp only [afterSuspicion, suspected_runs] at h
  exact h

theorem beside_suspicion {c d : Corner} (hd : d ≠ c) (kind : FaultKind) (p : Part) : Beside d p (suspicion c kind p) := by
  unfold suspicion
  dsimp only
  split
  · exact (Beside.modCorner hd _ p).trans (.modCorner hd _ _)
  · split
    · exact (Beside.modCorner hd _ p).trans (.modCorner hd _ _)
    · exact (Beside.modCorner hd _ p).trans (((Beside.modCorner hd _ _).trans (.raise d _ _ _)).trans (.judgeReleased d _))

/-- Whatever a suspicion leads to, the driver is disabled. -/
theorem afterSuspicion_reg {kind : FaultKind} {p : Part} {k q : CornerPart} (h : afterSuspicion kind p k q) :
    ∃ x, q.reg = { driverDisabled k.reg with calibration := x } := by
  obtain ⟨hretry, hrecal, hfault⟩ := h
  rcases Nat.lt_or_ge (match k.diag.episode with
      | some e => e.limit
      | none => p.params.retryLimit)
    (suspected p.params.retryLimit p.tracker.record.number kind k.diag).record.attempts with hlast | hmore
  · by_cases hround : (suspected p.params.retryLimit p.tracker.record.number kind k.diag).record.round = 1
    · exact ⟨_, by rw [hrecal hlast hround]; rfl⟩
    · exact ⟨_, by rw [hfault hlast hround]⟩
  · exact ⟨_, by rw [hretry hmore]⟩

/-! ## The report of a latch trip (R90, R97, R119, R123) -/

/-- The part handed to the supervisor's report of a latch trip: its driver is disabled. -/
def latchedTrip (c : Corner) (raw : BitVec 12) (p : Part) : Part :=
  (tripped c raw p).modCorner c (fun k => { k with reg := k.reg.disable })

/-- The corner as the supervisor's report finds it. -/
def latchedCorner (k : CornerPart) : CornerPart := { trippedCorner k with reg := driverDisabled (trippedCorner k).reg }

theorem latchedTrip_corner_self (c : Corner) (raw : BitVec 12) (p : Part) :
    (latchedTrip c raw p).corner c = latchedCorner (p.corner c) := by
  rw [latchedTrip, Part.corner_modCorner_self, tripped_corner_self]
  rfl

theorem latchedTrip_control (c : Corner) (raw : BitVec 12) (p : Part) : (latchedTrip c raw p).control = p.control := by
  rw [latchedTrip, Part.modCorner_control, tripped_eq]

theorem latchedTrip_loaded (c : Corner) (raw : BitVec 12) (p : Part) : (latchedTrip c raw p).loaded = p.loaded := by
  refine Upkeep.loaded_congr (fun d => ?_) rfl
  by_cases hd : d = c
  · rw [hd, latchedTrip_corner_self]
    rfl
  · obtain ⟨run, hrun⟩ := tripped_corner_of_ne hd raw p
    rw [latchedTrip, Part.corner_modCorner_of_ne hd, hrun]

theorem turnOff_judged_reg (c : Corner) (p : Part) :
    ((judgeReleased (p.modCorner c CornerPart.turnOff)).corner c).reg =
      { driverDisabled (p.corner c).reg with calibration := none } := by
  obtain ⟨-, m, hm⟩ := Beside.judgeReleased c (p.modCorner c CornerPart.turnOff)
  rw [hm, Part.corner_modCorner_self]
  rfl

/-- Whatever the report leads to, the driver is disabled. -/
theorem latchReport_reg (c : Corner) (p : Part) :
    ∃ x, ((latchReport c p).corner c).reg = { driverDisabled (p.corner c).reg with calibration := x } ∨
      ((latchReport c p).corner c).reg = (p.corner c).reg := by
  unfold latchReport
  split
  next hengaged _ =>
    have hc : (p.modCorner c fun k => k.setRuns 0 0 k.diag.leakRun).control ≠ .releasing := by
      rw [Part.modCorner_control, hengaged]
      decide
    obtain ⟨x, hx⟩ := afterSuspicion_reg (suspicion_corner hc c .shortWinding)
    rw [Part.corner_modCorner_self] at hx
    exact ⟨x, .inl hx⟩
  next => exact ⟨none, .inl (turnOff_judged_reg c p)⟩
  next => exact ⟨none, .inl (turnOff_judged_reg c p)⟩
  next =>
    rw [Part.corner_modCorner_self]
    exact ⟨_, .inl rfl⟩
  next =>
    rw [endTest, answerHeld_corner, Part.corner_modCorner_self]
    exact ⟨none, .inl rfl⟩
  next => exact ⟨none, .inr rfl⟩

theorem latchReport_corner_of_ne {c d : Corner} (hd : d ≠ c) (p : Part) :
    ∃ m, (latchReport c p).corner d = { p.corner d with motion := m } := by
  unfold latchReport
  split
  next => exact ((Beside.modCorner hd _ p).trans (beside_suspicion hd _ _)).corner
  next => exact ((Beside.modCorner hd _ p).trans (.judgeReleased d _)).corner
  next => exact ((Beside.modCorner hd _ p).trans (.judgeReleased d _)).corner
  next => exact (Beside.modCorner hd _ p).corner
  next => exact ⟨_, endTest_corner_of_ne c _ _ hd p⟩
  next => exact ⟨_, rfl⟩

/-- In ENGAGED the report of a corner in CONTROL is a short suspicion (R97). -/
theorem latchReport_engaged {c : Corner} {p : Part} (hc : p.control = .engaged) (hs : (p.corner c).state = .control) :
    afterSuspicion .shortWinding p (p.corner c) ((latchReport c p).corner c) := by
  have hreport : latchReport c p = suspicion c .shortWinding (p.modCorner c fun k => k.setRuns 0 0 k.diag.leakRun) := by
    simp only [latchReport, hc, hs]
  have hne : (p.modCorner c fun k => k.setRuns 0 0 k.diag.leakRun).control ≠ .releasing := by
    rw [Part.modCorner_control, hc]
    decide
  have hafter := suspicion_corner hne c .shortWinding
  rw [Part.corner_modCorner_self] at hafter
  rw [hreport]
  exact afterSuspicion_runs 0 0 hafter

theorem latchReport_passive {c : Corner} {p : Part} {x : Bool} (hc : p.control ≠ .releasing)
    (hs : (p.corner c).state = .passive x) : latchReport c p = p.modCorner c CornerPart.rest := by
  unfold latchReport
  split <;> simp_all

theorem latchReport_releasing {c : Corner} {p : Part} (hc : p.control = .releasing)
    (hs : (p.corner c).state = .control ∨ ∃ x, (p.corner c).state = .passive x) :
    latchReport c p = judgeReleased (p.modCorner c CornerPart.turnOff) := by
  rcases hs with hs | ⟨x, hs⟩ <;> simp only [latchReport, hc, hs]

/-! ## The trip as a whole -/

/-- What a trip leaves of the part whatever the mode. -/
theorem overcurrentTrip_frame (c : Corner) (raw : BitVec 12) (p : Part) :
    (overcurrentTrip c raw p).pwm = p.tripAt c ∧
      (overcurrentTrip c raw p).pins = { p.pins with sense := p.pins.sense.set c raw } ∧
      (overcurrentTrip c raw p).params = p.params ∧ (overcurrentTrip c raw p).tracker = p.tracker ∧
      (overcurrentTrip c raw p).context = p.context ∧ (overcurrentTrip c raw p).now = p.now := by
  have hframe := tripped_eq c raw p
  rw [overcurrentTrip_eq]
  generalize tripped c raw p = q at hframe ⊢
  generalize q.corners = corners at hframe
  subst hframe
  split
  · unfold latchTrip
    simp only [latchReport_pwm, latchReport_pins, latchReport_params, latchReport_tracker, latchReport_context, latchReport_now]
    exact ⟨rfl, rfl, rfl, rfl, rfl, rfl⟩
  · unfold limitTrip
    split <;> exact ⟨rfl, rfl, rfl, rfl, rfl, rfl⟩

/-! ### In LIMIT mode (R89) -/

theorem limitTrip_corner_self (c : Corner) (p : Part) : (limitTrip c p).corner c =
    { p.corner c with reg := { (p.corner c).reg with firstTrip := true } } := by
  unfold limitTrip
  split
  next hfirst => rw [← hfirst]
  next => rw [raise_corner, Part.corner_modCorner_self]

theorem limitTrip_corner_of_ne {c d : Corner} (hd : d ≠ c) (p : Part) : (limitTrip c p).corner d = p.corner d := by
  unfold limitTrip
  split
  · rfl
  · rw [raise_corner, Part.corner_modCorner_of_ne hd]

theorem limitTrip_tripped_eq (c : Corner) (raw : BitVec 12) (p : Part) :
    limitTrip c (tripped c raw p) = { p with
      pwm := (limitTrip c (tripped c raw p)).pwm
      pins := (limitTrip c (tripped c raw p)).pins
      corners := (limitTrip c (tripped c raw p)).corners
      events := (limitTrip c (tripped c raw p)).events } := by
  have hframe := tripped_eq c raw p
  generalize tripped c raw p = q at hframe ⊢
  generalize q.corners = corners at hframe
  subst hframe
  unfold limitTrip
  split <;> rfl

/-- The first trip after an enable raises OVERCURRENT_LIMIT; a later one raises nothing. -/
theorem limitTrip_events (c : Corner) (p : Part) :
    ((p.corner c).reg.firstTrip = false → pendingEvent (limitTrip c p) (.overcurrentLimit c)) ∧
      ((p.corner c).reg.firstTrip = true → (limitTrip c p).events = p.events) := by
  unfold limitTrip
  refine ⟨fun hfirst => ?_, fun hlater => ?_⟩
  · rw [hfirst]
    exact pendingEvent_raise_self _ _ _
  · rw [hlater]
    rfl

/-! ### In either mode -/

theorem overcurrentTrip_limit (c : Corner) (raw : BitVec 12) {p : Part} (h : p.pwm.tripLatch = false) :
    overcurrentTrip c raw p = limitTrip c (tripped c raw p) := by
  rw [overcurrentTrip_eq, h]
  rfl

theorem overcurrentTrip_latch (c : Corner) (raw : BitVec 12) {p : Part} (h : p.pwm.tripLatch = true) :
    overcurrentTrip c raw p = latchReport c (latchedTrip c raw p) := by
  rw [overcurrentTrip_eq, h]
  rfl

/-- The latched driver is disabled and rests, whatever the supervisor makes of its corner (R82, R90). -/
theorem latchReport_disabled (c : Corner) (raw : BitVec 12) (p : Part) :
    ((latchReport c (latchedTrip c raw p)).corner c).reg.enabled = false ∧
      ((latchReport c (latchedTrip c raw p)).corner c).reg.rests := by
  obtain ⟨x, hreg | hreg⟩ := latchReport_reg c (latchedTrip c raw p)
  · rw [hreg]
    exact ⟨rfl, rfl, rfl, rfl, rfl, rfl⟩
  · rw [hreg, latchedTrip_corner_self]
    exact ⟨rfl, rfl, rfl, rfl, rfl, rfl⟩

theorem overcurrentTrip_gate (c : Corner) (raw : BitVec 12) (p : Part) : (overcurrentTrip c raw p).gate c = false := by
  rw [← Bool.not_eq_true, Part.gate_iff]
  rintro ⟨hon, hfree, -⟩
  cases hmode : p.pwm.tripLatch with
  | false =>
    rw [overcurrentTrip_limit c raw hmode, limitTrip_corner_self, tripped_corner_self] at hfree
    exact nomatch hfree
  | true =>
    rw [overcurrentTrip_latch c raw hmode, (latchReport_disabled c raw p).1] at hon
    exact nomatch hon

theorem overcurrentTrip_corner_of_ne {c d : Corner} (hd : d ≠ c) (raw : BitVec 12) (p : Part) :
    ∃ m run, (overcurrentTrip c raw p).corner d =
      { p.corner d with motion := m, reg := { (p.corner d).reg with overRun := run } } := by
  obtain ⟨run, hrun⟩ := tripped_corner_of_ne hd raw p
  cases hmode : p.pwm.tripLatch with
  | false => exact ⟨_, run, by rw [overcurrentTrip_limit c raw hmode, limitTrip_corner_of_ne hd, hrun]⟩
  | true =>
    obtain ⟨m, hm⟩ := latchReport_corner_of_ne hd (latchedTrip c raw p)
    refine ⟨m, run, ?_⟩
    rw [overcurrentTrip_latch c raw hmode, hm, latchedTrip, Part.corner_modCorner_of_ne hd, hrun]

/-! ### The report by control and corner state -/

theorem latchReport_suspects {c : Corner} (raw : BitVec 12) {p : Part} (hc : p.control = .engaged)
    (hs : (p.corner c).state = .control) :
    afterSuspicion .shortWinding p (latchedCorner (p.corner c)) ((latchReport c (latchedTrip c raw p)).corner c) := by
  have hstate : ((latchedTrip c raw p).corner c).state = .control := by rw [latchedTrip_corner_self]; exact hs
  have hafter := latchReport_engaged ((latchedTrip_control c raw p).trans hc) hstate
  rw [latchedTrip_corner_self] at hafter
  exact hafter

theorem latchReport_rests {c : Corner} (raw : BitVec 12) {p : Part} {x : Bool} (hc : p.control ≠ .releasing)
    (hs : (p.corner c).state = .passive x) :
    (latchReport c (latchedTrip c raw p)).corner c = { latchedCorner (p.corner c) with state := .passive true } := by
  have hstate : ((latchedTrip c raw p).corner c).state = .passive x := by rw [latchedTrip_corner_self]; exact hs
  rw [latchReport_passive (by rwa [latchedTrip_control]) hstate, Part.corner_modCorner_self, latchedTrip_corner_self]
  rfl

/-- In RELEASING the corner turns OFF, and RELEASING ends with the last of them (R119). -/
theorem latchReport_releases {c : Corner} (raw : BitVec 12) {p : Part} (hc : p.control = .releasing)
    (hs : (p.corner c).state = .control ∨ ∃ x, (p.corner c).state = .passive x) :
    ((latchReport c (latchedTrip c raw p)).corner c).state = .off ∧
      ((∀ d, d ≠ c → (p.corner d).state = .off ∨ (p.corner d).state = .fault) →
        settled p.loaded (latchReport c (latchedTrip c raw p))) ∧
      ((∃ d, d ≠ c ∧ (p.corner d).state ≠ .off ∧ (p.corner d).state ≠ .fault) →
        (latchReport c (latchedTrip c raw p)).control = .releasing) := by
  have hcontrol : (latchedTrip c raw p).control = .releasing := (latchedTrip_control c raw p).trans hc
  have hstate : ∀ d, ((latchedTrip c raw p).corner d).state = (p.corner d).state := by
    intro d
    by_cases hd : d = c
    · rw [hd, latchedTrip_corner_self]
      rfl
    · obtain ⟨run, hrun⟩ := tripped_corner_of_ne hd raw p
      rw [latchedTrip, Part.corner_modCorner_of_ne hd, hrun]
  obtain ⟨hwaits, hdone⟩ := turnOff_releasing c hcontrol
  rw [← hstate c] at hs
  simp only [hstate] at hwaits hdone
  rw [latchReport_releasing hcontrol hs]
  refine ⟨?_, fun h => ?_, fun h => ?_⟩
  · obtain ⟨-, m, hm⟩ := Beside.judgeReleased c ((latchedTrip c raw p).modCorner c CornerPart.turnOff)
    rw [hm, Part.corner_modCorner_self]
    rfl
  · have hloaded : ((latchedTrip c raw p).modCorner c CornerPart.turnOff).loaded = p.loaded :=
      (loaded_modCorner rfl).trans (latchedTrip_loaded c raw p)
    rw [hdone h, ← hloaded]
    exact (settled_settleUnengaged _).1
  · rw [hwaits h, Part.modCorner_control, hcontrol]

/-- Settles O49: where the comparator trips the mode acts on the tripped part, in LATCH mode through the supervisor's report. -/
theorem overcurrentTrip : Obligations.OvercurrentTrip := by
  refine ⟨fun w p => ⟨pass_eq w p, fun c => ⟨_, pass_corner_overRun w p c, pass_overRun w p c⟩⟩, ?_⟩
  rintro c raw ticks k s
  refine ⟨fun hnot => ?_, ?_⟩
  · rw [← trips_iff, Bool.not_eq_true] at hnot
    exact congrArg (fun q => Host.Outcome.next (State.mk q s.pending)) (onlyWhen_neg hnot _)
  rintro hmet rfl
  have hexec : exec (.overcurrentTrip c raw ticks) s = .next ⟨Machine.overcurrentTrip c raw s.part, s.pending⟩ :=
    congrArg (fun q => Host.Outcome.next (State.mk q s.pending)) (onlyWhen_pos ((trips_iff c raw ticks s.part).mpr hmet) _)
  obtain ⟨hpwm, hpins, hparams, htracker, hcontext, hnow⟩ := overcurrentTrip_frame c raw s.part
  refine ⟨_, hexec, rfl, hpwm.trans (tripAt_eq s.part c), hpins, hparams, htracker, hcontext, hnow, overcurrentTrip_gate c raw s.part,
    fun d hd => ?_, fun hlimit => ?_, fun hlatch => ?_⟩
  · obtain ⟨m, run, hother⟩ := overcurrentTrip_corner_of_ne hd raw s.part
    dsimp only
    rw [hother]
  · dsimp only
    have hself : (limitTrip c (tripped c raw s.part)).corner c =
        { trippedCorner (s.part.corner c) with reg := { (trippedCorner (s.part.corner c)).reg with firstTrip := true } } := by
      rw [limitTrip_corner_self, tripped_corner_self]
    obtain ⟨hfirst, hlater⟩ := limitTrip_events c (tripped c raw s.part)
    rw [tripped_corner_self] at hfirst hlater
    rw [overcurrentTrip_limit c raw hlimit]
    refine ⟨?_, hself, fun d => ?_, hfirst, hlater⟩
    · exact limitTrip_tripped_eq c raw s.part
    · by_cases hd : d = c
      · rw [hd, hself]
        rfl
      · obtain ⟨run, hrun⟩ := tripped_corner_of_ne hd raw s.part
        rw [limitTrip_corner_of_ne hd, hrun]
  · dsimp only
    obtain ⟨hoff, hrests⟩ := latchReport_disabled c raw s.part
    rw [overcurrentTrip_latch c raw hlatch]
    exact ⟨hoff, hrests, latchReport_suspects raw, fun x => latchReport_rests raw, latchReport_releases raw⟩

end Sys2Proof.Trips

/-! # The outcome of a calibration (R79, R103, R104, R115, R116, R127) -/

namespace Sys2Proof.CalibrationOutcomes

open Sys2Proof Sys2Proof.Machine Sys2Proof.Claims Sys2Proof.Estimation Sys2Proof.Supervisory Sys2Proof.CornerOutcomes

/-! ## The event of an entry to FAULT stays with its parameter -/

theorem exists_mem_raiseIn_parameter (e : Event) (first : Word) (b : Byte) (l : List Entry) :
    ∃ x ∈ raiseIn e first b l, x.event = e ∧ x.parameter = b := by
  induction l with
  | nil => exact ⟨_, List.mem_singleton.mpr rfl, rfl, rfl⟩
  | cons y ys ih =>
    unfold raiseIn
    split
    next heq => exact ⟨_, List.mem_cons_self, heq, rfl⟩
    next =>
      split
      · exact ⟨_, List.mem_cons_self, rfl, rfl⟩
      · obtain ⟨x, hx, he⟩ := ih
        exact ⟨x, List.mem_cons_of_mem _ hx, he⟩

/-- Raising an event leaves the entries of the others as they are. -/
theorem mem_raiseIn_of_ne {e : Event} {l : List Entry} {x : Entry} (hx : x ∈ l) (hne : x.event ≠ e) (first : Word) (b : Byte) :
    x ∈ raiseIn e first b l := by
  induction l with
  | nil => cases hx
  | cons y ys ih =>
    unfold raiseIn
    split
    next heq =>
      rcases List.mem_cons.mp hx with rfl | hx
      · exact absurd heq hne
      · exact List.mem_cons_of_mem _ hx
    next =>
      split
      · exact List.mem_cons_of_mem _ hx
      · rcases List.mem_cons.mp hx with rfl | hx
        · exact List.mem_cons_self
        · exact List.mem_cons_of_mem _ (ih hx)

theorem faultRaised_raise_self (c : Corner) (kind : FaultKind) (p : Part) :
    faultRaised (raise (.valveFault c) kind.code p) c kind := exists_mem_raiseIn_parameter _ _ _ _

theorem faultRaised_raise_of_ne {p : Part} {c : Corner} {kind : FaultKind} (h : faultRaised p c kind) {e : Event}
    (hne : e ≠ .valveFault c) (b : Byte) : faultRaised (raise e b p) c kind := by
  obtain ⟨x, hx, he, hb⟩ := h
  exact ⟨x, mem_raiseIn_of_ne hx (by rw [he]; exact hne.symm) _ _, he, hb⟩

theorem judgeReleased_events (p : Part) : (judgeReleased p).events = p.events := by
  unfold judgeReleased settleUnengaged
  split
  · split <;> rfl
  · rfl

/-- An entry to FAULT raises its event and leaves the corner latched, its driver disabled (R104). -/
theorem enterFault_outcome (c : Corner) (kind : FaultKind) (p : Part) : faultRaised (enterFault c kind p) c kind ∧
    ∃ m, (enterFault c kind p).corner c = { p.corner c with
      motion := m
      state := .fault
      reg := { driverDisabled (p.corner c).reg with calibration := none }
      diag := latched (p.corner c).diag kind } := by
  unfold enterFault
  constructor
  · have hraised := faultRaised_raise_self c kind (p.modCorner c fun k => { k with
      state := .fault, reg := k.reg.disable.endCalibration, diag := k.diag.latch kind })
    rwa [faultRaised, judgeReleased_events]
  · obtain ⟨-, m, hm⟩ := Beside.judgeReleased c (raise (.valveFault c) kind.code (p.modCorner c fun k => { k with
      state := .fault, reg := k.reg.disable.endCalibration, diag := k.diag.latch kind }))
    refine ⟨m, ?_⟩
    rw [hm, raise_corner, Part.corner_modCorner_self, latch_eq]
    rfl

/-! ## The entry to ENGAGED (R115, R116) -/

/-- A corner at the entry to ENGAGED: a calibrated one regulates, or is passive where it has a reason. -/
def engagedCorner (k : CornerPart) : CornerPart :=
  if k.state.isCalibrating then
    if k.reasons.none then { k with state := .control, reg := k.reg.track }
    else { k with
      state := .passive false
      reg := k.reg.ramp.endCalibration
      diag := k.diag.abandon
      counters := { k.counters with passiveEntry := inc k.counters.passiveEntry } }
  else k

theorem isCalibrating_iff (x : CornerState) : x.isCalibrating = true ↔ ∃ y b, x = .calibrating y b := by
  cases x <;> simp [CornerState.isCalibrating]

theorem cornerAtEngaged_corner_self (c : Corner) (p : Part) : (cornerAtEngaged c p).corner c = engagedCorner (p.corner c) := by
  unfold cornerAtEngaged engagedCorner
  split
  · split
    · rw [returnToControl, Part.corner_modCorner_self]
    · rw [enterPassive, raise_corner, Part.corner_modCorner_self]
  · rfl

theorem cornerAtEngaged_corner_of_ne (c : Corner) {d : Corner} (hd : d ≠ c) (p : Part) :
    (cornerAtEngaged c p).corner d = p.corner d := by
  unfold cornerAtEngaged
  split
  · split
    · exact returnToControl_corner_of_ne c hd p
    · exact enterPassive_corner_of_ne c hd p
  · rfl

theorem enterEngaged_corner (p : Part) (d : Corner) : (enterEngaged p).corner d = engagedCorner (p.corner d) :=
  forCorners_corner (g := fun _ => engagedCorner) cornerAtEngaged_corner_self
    (fun c _ p hd => cornerAtEngaged_corner_of_ne c hd p) (fun _ _ _ => rfl) d _

theorem engagedCorner_offset (k : CornerPart) : (engagedCorner k).reg.offset = k.reg.offset := by
  unfold engagedCorner
  split
  · split <;> rfl
  · rfl

theorem engagedCorner_of_not {k : CornerPart} (h : ∀ y b, k.state ≠ .calibrating y b) : engagedCorner k = k := by
  refine if_neg fun hcal => ?_
  obtain ⟨y, b, hs⟩ := (isCalibrating_iff _).mp hcal
  exact h y b hs

theorem engagedCorner_of_free {k : CornerPart} (hs : ∃ y b, k.state = .calibrating y b) (hr : k.reasons.none = true) :
    engagedCorner k = { k with state := .control, reg := k.reg.track } := by
  rw [engagedCorner, if_pos ((isCalibrating_iff _).mpr hs), if_pos hr]

theorem engagedCorner_of_reason {k : CornerPart} (hs : ∃ y b, k.state = .calibrating y b) (hr : k.reasons.none = false) :
    (engagedCorner k).state = .passive false ∧ (engagedCorner k).reg.wanted = .ramping := by
  rw [engagedCorner, if_pos ((isCalibrating_iff _).mpr hs), hr]
  exact ⟨rfl, rfl⟩

theorem cornerAtEngaged_eq (c : Corner) (p : Part) :
    cornerAtEngaged c p = { p with corners := (cornerAtEngaged c p).corners, events := (cornerAtEngaged c p).events } := by
  unfold cornerAtEngaged
  split
  · split <;> rfl
  · rfl

theorem enterEngaged_eq (p : Part) : enterEngaged p = { p with
    control := .engaged, corners := (enterEngaged p).corners, events := (enterEngaged p).events } :=
  forCorners_keeps (P := fun q => q = { p with control := .engaged, corners := q.corners, events := q.events })
    (fun c q hq => by
      rw [cornerAtEngaged_eq, hq]) rfl

/-- What one corner's operation establishes, and every corner's keeps, holds after the four. -/
theorem forCorners_establishes {P : Part → Prop} {f : Corner → Part → Part} (keeps : ∀ c q, P q → P (f c q))
    (others : ∀ c d q, d ≠ c → (f c q).corner d = q.corner d) {d : Corner} {p : Part}
    (own : ∀ q, q.corner d = p.corner d → P (f d q)) : P (forCorners f p) := by
  unfold forCorners
  cases d with
  | fl => exact keeps _ _ (keeps _ _ (keeps _ _ (own _ rfl)))
  | fr => exact keeps _ _ (keeps _ _ (own _ (others _ _ _ (by decide))))
  | rl => exact keeps _ _ (own _ ((others _ _ _ (by decide)).trans (others _ _ _ (by decide))))
  | rr => exact own _ ((others _ _ _ (by decide)).trans ((others _ _ _ (by decide)).trans (others _ _ _ (by decide))))

theorem pendingEvent_cornerAtEngaged {e : Event} (c : Corner) {p : Part} (h : pendingEvent p e) :
    pendingEvent (cornerAtEngaged c p) e := by
  unfold cornerAtEngaged
  split
  · split
    · exact h
    · exact pendingEvent_raise h _ _
  · exact h

/-- A corner that enters PASSIVE at the entry to ENGAGED raises CORNER_PASSIVE (R122). -/
theorem pendingEvent_enterEngaged {p : Part} {d : Corner} (hs : ∃ y b, (p.corner d).state = .calibrating y b)
    (hr : (p.corner d).reasons.none = false) : pendingEvent (enterEngaged p) (.cornerPassive d) := by
  refine forCorners_establishes (P := fun q => pendingEvent q (.cornerPassive d)) (d := d)
    (fun c q hq => pendingEvent_cornerAtEngaged c hq) (fun c d q hd => cornerAtEngaged_corner_of_ne c hd q) fun q hq => ?_
  have hcorner : q.corner d = p.corner d := hq
  rw [← hcorner] at hs hr
  rw [cornerAtEngaged, if_pos ((isCalibrating_iff _).mpr hs), hr]
  exact pendingEvent_raise_self _ _ _

theorem faultRaised_judgeEngaged {p : Part} {c : Corner} {kind : FaultKind} (h : faultRaised p c kind) :
    faultRaised (judgeEngaged p) c kind := by
  unfold judgeEngaged
  split
  · refine forCorners_keeps (P := fun q => faultRaised q c kind) (fun d q hq => ?_) h
    unfold cornerAtEngaged
    split
    · split
      · exact hq
      · unfold enterPassive
        exact faultRaised_raise_of_ne hq (by simp) _
    · exact hq
  · exact h

theorem judgeEngaged_corner_of_not {p : Part} {c : Corner} (h : ∀ y b, (p.corner c).state ≠ .calibrating y b) :
    (judgeEngaged p).corner c = p.corner c := by
  unfold judgeEngaged
  split
  · rw [enterEngaged_corner, engagedCorner_of_not h]
  · rfl

theorem engagedCorner_banks (k : CornerPart) : (engagedCorner k).banks = k.banks := by
  unfold engagedCorner
  split
  · split <;> rfl
  · rfl

theorem judgeEngaged_corner_banks (p : Part) (d : Corner) : ((judgeEngaged p).corner d).banks = (p.corner d).banks := by
  unfold judgeEngaged
  split
  · rw [enterEngaged_corner, engagedCorner_banks]
  · rfl

theorem noneCalibrating_iff (p : Part) : p.corners.toList.all (fun k => !k.stillCalibrating) = true ↔
    ∀ d, (∃ y b, (p.corner d).state = .calibrating y b) → (p.corner d).reg.calibration = none := by
  rw [Quad.all_toList]
  simp only [CornerPart.stillCalibrating, Bool.not_eq_true', Bool.and_eq_false_imp, isCalibrating_iff, Option.isSome_eq_false_iff,
    Option.isNone_iff_eq_none]
  rfl

theorem judgeEngaged_of_calibrating {p : Part} {d : Corner} (hs : ∃ y b, (p.corner d).state = .calibrating y b)
    (hcal : (p.corner d).reg.calibration.isSome = true) : judgeEngaged p = p :=
  if_neg fun h => by
    rw [(noneCalibrating_iff p).mp h.2 d hs] at hcal
    exact nomatch hcal

theorem judgeEngaged_of_none {p : Part} (hc : p.control = .engaging)
    (h : ∀ d, (∃ y b, (p.corner d).state = .calibrating y b) → (p.corner d).reg.calibration = none) :
    judgeEngaged p = enterEngaged p := if_pos ⟨hc, (noneCalibrating_iff p).mpr h⟩

/-! ## The outcome by purpose -/

theorem accepted_iff (x : Nat) : accepted x = true ↔ 1648 ≤ x ∧ x ≤ 2448 := by
  simp [accepted]

theorem exec_calibrationComplete {c : Corner} {sum : Nat} {s : State}
    (h : (s.part.corner c).reg.calibration = some ⟨true, 63, sum⟩) (raw : BitVec 12) :
    exec (.calibrationComplete c raw) s = .next ⟨calibrationOutcome c (sum + raw.toNat) s.part, s.pending⟩ := by
  have hdue : completionDue c s.part = true := by rw [completionDue, h]; rfl
  have hsum : (s.part.corner c).reg.calibrationSum = sum := by rw [Regulator.calibrationSum, h]
  rw [← hsum]
  exact congrArg (fun q => Host.Outcome.next (State.mk q s.pending)) (onlyWhen_pos hdue _)

theorem conclude_of_accepted {x : Nat} (h : accepted x = true) (r : Regulator) : r.conclude x = calibrated x r := by
  rw [Regulator.conclude, if_pos h]
  rfl

theorem conclude_of_refused {x : Nat} (h : accepted x = false) (r : Regulator) : r.conclude x = r.endCalibration := by
  rw [Regulator.conclude, h]
  rfl

/-- The part with the corner calibrated for ENGAGE. -/
def calibratedPart (c : Corner) (x : Nat) (p : Part) : Part :=
  { p with corners := p.corners.set c { p.corner c with
      state := .calibrating .engage true, reg := calibrated x (p.corner c).reg } }

theorem calibratedPart_corner_self (c : Corner) (x : Nat) (p : Part) : (calibratedPart c x p).corner c =
    { p.corner c with state := .calibrating .engage true, reg := calibrated x (p.corner c).reg } := Quad.get_set_self _ _ _

theorem calibratedPart_corner_of_ne {c d : Corner} (hd : d ≠ c) (x : Nat) (p : Part) :
    (calibratedPart c x p).corner d = p.corner d := Quad.get_set_of_ne hd _ _

section Passed

variable {c : Corner} {sum : Nat} {p : Part} (hx : accepted (offsetOf sum) = true)

include hx

theorem calibrationOutcome_engage {b : Bool} (hs : (p.corner c).state = .calibrating .engage b) :
    calibrationOutcome c sum p = judgeEngaged (calibratedPart c (offsetOf sum) p) := by
  have hx' : accepted (candidateOf sum) = true := hx
  unfold calibrationOutcome
  simp only [hs, hx', if_true]
  rw [modCorner_modCorner]
  refine congrArg judgeEngaged (modCorner_eq ?_)
  rw [← conclude_of_accepted hx]
  rfl

theorem calibrationOutcome_recal {b : Bool} (hs : (p.corner c).state = .calibrating .recal b) :
    calibrationOutcome c sum p = { p with corners := p.corners.set c { p.corner c with
      state := .suspended
      reg := driverDisabled (calibrated (offsetOf sum) (p.corner c).reg)
      diag := { (p.corner c).diag with record := { (p.corner c).diag.record with
        total := min 4294967295 ((p.corner c).diag.record.total + (p.corner c).diag.record.attempts)
        round := 2
        attempts := 0 } } } } := by
  have hx' : accepted (candidateOf sum) = true := hx
  unfold calibrationOutcome
  simp only [hs, hx', if_true]
  rw [modCorner_modCorner]
  refine modCorner_eq ?_
  rw [← conclude_of_accepted hx]
  rfl

theorem calibrationOutcome_test {r : TestRecord} (hs : (p.corner c).state = .test .cal r) :
    calibrationOutcome c sum p = { p with corners := p.corners.set c { p.corner c with
      state := .test .drive { r with candidate := offsetOf sum }
      reg := { calibrated (offsetOf sum) (p.corner c).reg with wanted := .tracking, target := r.current } } } := by
  have hx' : accepted (candidateOf sum) = true := hx
  unfold calibrationOutcome
  simp only [hs, hx', if_true]
  rw [modCorner_modCorner]
  refine modCorner_eq ?_
  rw [← conclude_of_accepted hx]
  rfl

end Passed

/-- A refused candidate ends the calibration and puts the corner in FAULT (R79, R103, R115). -/
def refusedPart (c : Corner) (p : Part) : Part :=
  enterFault c .senseOffset (p.modCorner c fun k => { k with reg := k.reg.endCalibration })

theorem refusedPart_outcome (c : Corner) (p : Part) : faultRaised (refusedPart c p) c .senseOffset ∧
    ∃ m, (refusedPart c p).corner c = { p.corner c with
      motion := m
      state := .fault
      reg := { driverDisabled (p.corner c).reg with calibration := none }
      diag := latched (p.corner c).diag .senseOffset } := by
  obtain ⟨hraised, m, hm⟩ := enterFault_outcome c .senseOffset (p.modCorner c fun k => { k with reg := k.reg.endCalibration })
  refine ⟨hraised, m, ?_⟩
  rw [refusedPart, hm, Part.corner_modCorner_self]
  rfl

theorem refusedPart_corner_banks (c d : Corner) (p : Part) : ((refusedPart c p).corner d).banks = (p.corner d).banks := by
  rw [refusedPart, enterFault_corner_banks, Part.corner_modCorner]
  split
  next hd => rw [hd]
  next => rfl

/-- In ENGAGING the refused corner may be the last one calibrating. -/
theorem calibrationOutcome_refused {c : Corner} {sum : Nat} {p : Part} (hx : accepted (offsetOf sum) = false) {y : Purpose}
    {b : Bool} (hs : (p.corner c).state = .calibrating y b) :
    calibrationOutcome c sum p = judgeEngaged (refusedPart c p) ∨ calibrationOutcome c sum p = refusedPart c p := by
  have hx' : accepted (candidateOf sum) = false := hx
  have hconclude : (fun k : CornerPart => { k with reg := k.reg.conclude (candidateOf sum) }) =
      fun k => { k with reg := k.reg.endCalibration } := funext fun k => by rw [conclude_of_refused hx']
  unfold calibrationOutcome
  dsimp only
  rw [hconclude]
  cases y with
  | engage => exact .inl (by simp only [hs, hx']; rfl)
  | recal => exact .inr (by simp only [hs, hx']; rfl)

/-- A refused calibration's corner is latched in FAULT, whether or not ENGAGED follows. -/
theorem calibrationOutcome_fault {c : Corner} {sum : Nat} {p : Part} (hx : accepted (offsetOf sum) = false) {y : Purpose}
    {b : Bool} (hs : (p.corner c).state = .calibrating y b) :
    faultRaised (calibrationOutcome c sum p) c .senseOffset ∧
      (∃ m, (calibrationOutcome c sum p).corner c = { p.corner c with
        motion := m
        state := .fault
        reg := { driverDisabled (p.corner c).reg with calibration := none }
        diag := latched (p.corner c).diag .senseOffset }) ∧
      ∀ d, ((calibrationOutcome c sum p).corner d).banks = (p.corner d).banks := by
  obtain ⟨hraised, m, hm⟩ := refusedPart_outcome c p
  rcases calibrationOutcome_refused hx hs with h | h
  · have hfault : ∀ y b, ((refusedPart c p).corner c).state ≠ .calibrating y b := by
      rw [hm]
      exact fun _ _ => nofun
    rw [h]
    refine ⟨faultRaised_judgeEngaged hraised, ⟨m, (judgeEngaged_corner_of_not hfault).trans hm⟩, fun d => ?_⟩
    rw [judgeEngaged_corner_banks, refusedPart_corner_banks]
  · rw [h]
    exact ⟨hraised, ⟨m, hm⟩, fun d => refusedPart_corner_banks c d p⟩

/-- With another corner still calibrating, ENGAGING goes on. -/
theorem judgeEngaged_waiting {c d : Corner} (hd : d ≠ c) {p : Part} (hs : ∃ y b, (p.corner d).state = .calibrating y b)
    (hcal : (p.corner d).reg.calibration.isSome = true) (x : Nat) :
    judgeEngaged (calibratedPart c x p) = calibratedPart c x p := by
  rw [← calibratedPart_corner_of_ne hd x p] at hs hcal
  exact judgeEngaged_of_calibrating hs hcal

/-- With no other corner calibrating, ENGAGED follows. -/
theorem judgeEngaged_last {c : Corner} {p : Part} (hc : p.control = .engaging)
    (h : ∀ d, d ≠ c → (∃ y b, (p.corner d).state = .calibrating y b) → (p.corner d).reg.calibration = none) (x : Nat) :
    judgeEngaged (calibratedPart c x p) = enterEngaged (calibratedPart c x p) := by
  refine judgeEngaged_of_none hc fun d hs => ?_
  by_cases hd : d = c
  · rw [hd, calibratedPart_corner_self]
    rfl
  · rw [calibratedPart_corner_of_ne hd] at hs ⊢
    exact h d hd hs

/-- Every corner at the entry to ENGAGED after the last calibration, by its reasons before it. -/
theorem enterEngaged_calibratedPart {c : Corner} {p : Part} {b : Bool} (hs : (p.corner c).state = .calibrating .engage b)
    (x : Nat) (d : Corner) :
    ((∃ y b', (p.corner d).state = .calibrating y b') →
      ((p.corner d).reasons.none = true → ((enterEngaged (calibratedPart c x p)).corner d).state = .control ∧
        ((enterEngaged (calibratedPart c x p)).corner d).reg.wanted = .tracking) ∧
      ((p.corner d).reasons.none = false → ((enterEngaged (calibratedPart c x p)).corner d).state = .passive false ∧
        ((enterEngaged (calibratedPart c x p)).corner d).reg.wanted = .ramping ∧
        pendingEvent (enterEngaged (calibratedPart c x p)) (.cornerPassive d))) ∧
    ((∀ y b', (p.corner d).state ≠ .calibrating y b') → (enterEngaged (calibratedPart c x p)).corner d = p.corner d) := by
  have hreasons : ((calibratedPart c x p).corner d).reasons = (p.corner d).reasons := by
    by_cases hd : d = c
    · rw [hd, calibratedPart_corner_self]
    · rw [calibratedPart_corner_of_ne hd]
  rw [enterEngaged_corner]
  refine ⟨fun hcal => ?_, fun hnot => ?_⟩
  · have hcal' : ∃ y b', ((calibratedPart c x p).corner d).state = .calibrating y b' := by
      by_cases hd : d = c
      · rw [hd, calibratedPart_corner_self]
        exact ⟨_, _, rfl⟩
      · rwa [calibratedPart_corner_of_ne hd]
    rw [← hreasons]
    refine ⟨fun hfree => ?_, fun hreason => ?_⟩
    · rw [engagedCorner_of_free hcal' hfree]
      exact ⟨rfl, rfl⟩
    · obtain ⟨hpassive, hramps⟩ := engagedCorner_of_reason hcal' hreason
      exact ⟨hpassive, hramps, pendingEvent_enterEngaged hcal' hreason⟩
  · have hd : d ≠ c := by
      rintro rfl
      exact hnot _ _ hs
    rw [calibratedPart_corner_of_ne hd, engagedCorner_of_not hnot]

/-- Settles O47: an accepted candidate serves its purpose, a refused one ends in FAULT. -/
theorem calibrationComplete : Obligations.CalibrationComplete := by
  rintro c raw sum x s hcal rfl
  have hexec := exec_calibrationComplete hcal raw
  refine ⟨fun hlow hhigh => ?_, fun hout y b hs => ?_⟩
  · have hx := (accepted_iff _).mpr ⟨hlow, hhigh⟩
    refine ⟨?_, ?_, fun b hs => ?_, fun r hs => ?_⟩
    · rintro b hs - ⟨d, b', hd, ⟨y, hy⟩, hstill⟩
      rw [answers, hexec, calibrationOutcome_engage hx hs, judgeEngaged_waiting hd ⟨y, b', hy⟩ hstill]
      rfl
    · rintro b hs hc hnone
      rw [hexec, calibrationOutcome_engage hx hs, judgeEngaged_last hc hnone]
      refine ⟨_, rfl, rfl, enterEngaged_eq _, ?_, enterEngaged_calibratedPart hs _⟩
      dsimp only
      rw [enterEngaged_corner, engagedCorner_offset, calibratedPart_corner_self]
      rfl
    · rw [answers, hexec, calibrationOutcome_recal hx hs]
    · rw [answers, hexec, calibrationOutcome_test hx hs]
  · have hx : accepted (offsetOf (sum + raw.toNat)) = false := by
      rw [← Bool.not_eq_true, accepted_iff]
      omega
    obtain ⟨hraised, ⟨m, hself⟩, hbanks⟩ := calibrationOutcome_fault hx hs
    refine ⟨_, hexec, rfl, ?_, ?_, ?_, hraised, calibrationOutcome_params c _ _, calibrationOutcome_tracker c _ _,
      calibrationOutcome_context c _ _, hbanks⟩
    · exact congrArg CornerPart.state hself
    · exact congrArg CornerPart.reg hself
    · exact congrArg CornerPart.diag hself

end Sys2Proof.CalibrationOutcomes

/-! # A regulator's sample of the period (R77 to R79, R86, R87, R91, R92, R94 to R98, R128) -/

namespace Sys2Proof.CurrentSamples

open Sys2Proof Sys2Proof.Machine Sys2Proof.Claims Sys2Proof.Estimation Sys2Proof.CornerOutcomes Sys2Proof.Comparators

/-! ## The loop, the calibration sum and the mean (R78, R79, R86, R92) -/

theorem pid_of_enabled {r : Regulator} (he : r.enabled = true) (params : Params) (im : Int) : r.pid params im = { r with
    u := nextU params r im
    duty := (nextU params r im / 65536).toNat
    e1 := (r.setpoint : Int) - im
    e2 := r.e1 } := by
  rw [Regulator.pid, if_pos he]
  dsimp only
  rw [boundU_eq]
  rfl

theorem pid_of_disabled {r : Regulator} (he : r.enabled = false) (params : Params) (im : Int) : r.pid params im = r := by
  rw [Regulator.pid, he]
  rfl

theorem collect_eq (r : Regulator) (raw : Nat) : r.collect raw = { r with
    calibration := match r.calibration with
      | some ⟨true, taken, sum⟩ => some ⟨true, taken + 1, sum + raw⟩
      | x => x } := by
  unfold Regulator.collect
  rcases r.calibration with _ | ⟨begun, taken, sum⟩
  · rfl
  · cases begun <;> rfl

/-- The uses of a sample together. -/
theorem takeSample_eq (r : Regulator) (params : Params) (raw : BitVec 12) :
    r.takeSample params raw.toNat (measuredCurrent params r raw) = sampledReg params raw r := by
  unfold Regulator.takeSample Regulator.average
  rw [collect_eq]
  cases he : r.enabled with
  | true =>
    rw [pid_of_enabled he]
    cases hm : r.meanRunning <;> simp [sampledReg, he, hm] <;> rfl
  | false =>
    rw [pid_of_disabled he]
    cases hm : r.meanRunning <;> simp [sampledReg, he, hm] <;> rfl

/-! ## The part at the hand-off -/

theorem atSample_eq (c : Corner) (p : Part) : atSample c p = p.pass (p.pwm.reach (p.corner c).reg.point) := (rfl)

/-- The part with the counter at the sample point and the sense pin at the reading. -/
def sensed (c : Corner) (raw : BitVec 12) (p : Part) : Part :=
  { atSample c p with pins := { p.pins with sense := p.pins.sense.set c raw } }

/-- The part that hands its period on to the diagnosis. -/
def handed (c : Corner) (raw : BitVec 12) (p : Part) : Part := (sensed c raw p).modCorner c (sampledCorner p.params raw)

theorem currentSample_eq (c : Corner) (raw : BitVec 12) (p : Part) : currentSample c raw p =
    concludeCalibration c (handoff c (measuredCurrent p.params (p.corner c).reg raw) (handed c raw p)) := by
  have hcorner : (sensed c raw p).modCorner c (fun k => { k with
        reg := k.reg.takeSample p.params raw.toNat (measuredCurrent p.params (p.corner c).reg raw) }) = handed c raw p := by
    refine modCorner_eq ?_
    have hcurrent : measuredCurrent p.params (p.corner c).reg raw =
        measuredCurrent p.params ((sensed c raw p).corner c).reg raw := by
      change _ = measuredCurrent p.params ((atSample c p).corner c).reg raw
      rw [atSample_eq, Part.pass_corner]
      rfl
    rw [hcurrent, takeSample_eq]
    rfl
  rw [← hcorner]
  rfl

theorem handed_corner_self (c : Corner) (raw : BitVec 12) (p : Part) :
    (handed c raw p).corner c = sampledCorner p.params raw ((atSample c p).corner c) := Part.corner_modCorner_self _ _ _

theorem handed_params (c : Corner) (raw : BitVec 12) (p : Part) : (handed c raw p).params = p.params := (rfl)

theorem handed_pwm (c : Corner) (raw : BitVec 12) (p : Part) :
    (handed c raw p).pwm = p.pwm.reach (p.corner c).reg.point := (rfl)

theorem handed_modCorner (c : Corner) (raw : BitVec 12) (f : CornerPart → CornerPart) (p : Part) :
    (handed c raw p).modCorner c f = { atSample c p with
      pins := { p.pins with sense := p.pins.sense.set c raw }
      corners := (atSample c p).corners.set c (f (sampledCorner p.params raw ((atSample c p).corner c))) } := by
  rw [handed, modCorner_modCorner]
  rfl

/-- The runs a hand-off leaves, in the words of the statement. -/
theorem handed_setRuns (c : Corner) (raw : BitVec 12) (o s l : Nat) (p : Part) :
    (handed c raw p).modCorner c (fun k => k.setRuns o s l) = sampledPart c raw o s l p := by
  have hcorner : (sampledCorner p.params raw ((atSample c p).corner c)).setRuns o s l = { p.corner c with
      reg := sampledReg p.params raw ((atSample c p).corner c).reg
      diag := { (p.corner c).diag with openRun := o, shortRun := s, leakRun := l } } := by
    rw [atSample_eq, Part.pass_corner]
    rfl
  rw [handed_modCorner, hcorner]
  rfl

/-! ## What counts toward the runs (R91, R95, R96) -/

theorem openCounts_eq (k : CornerPart) (params : Params) (im : Int) : k.openCounts params im = openPeriod params k im := by
  simp only [CornerPart.openCounts, openPeriod, Bool.decide_and, Bool.and_assoc]
  rfl

theorem shortCounts_eq (r : Regulator) (w : Pwm) : r.shortCounts w = limitPeriod w r := by
  unfold Regulator.shortCounts limitPeriod Regulator.trippedItem trippedPeriod
  cases r.point <;> rfl

/-- The counter's way to the sample point leaves the trip modes of the two periods. -/
theorem limitPeriod_reach (w : Pwm) (point : SamplePoint) (r : Regulator) : limitPeriod (w.reach point) r = limitPeriod w r := by
  unfold Pwm.reach limitPeriod
  cases point
  · cases w.up <;> rfl
  · rfl

theorem openMet_iff (k : CornerPart) (params : Params) (im : Int) : k.openMet params im = true ↔
    openPeriod params k im = true ∧ params.satRun ≤ k.diag.openRun + 1 := by
  rw [CornerPart.openMet, CornerPart.openRunNext, openCounts_eq]
  cases openPeriod params k im <;> simp

theorem shortMet_iff (k : CornerPart) (params : Params) (w : Pwm) : k.shortMet params w = true ↔
    limitPeriod w k.reg = true ∧ params.tripRun ≤ k.diag.shortRun + 1 := by
  rw [CornerPart.shortMet, CornerPart.shortRunNext, shortCounts_eq]
  cases limitPeriod w k.reg <;> simp

/-! ## The line of R94's table -/

theorem judged_regulating {k : CornerPart} (hs : k.state = .control) (he : k.reg.enabled = true) (hw : k.reg.wanted = .tracking) :
    k.judged = .regulating := by
  simp only [CornerPart.judged, Regulator.mode, hs, he, hw, if_true]

theorem judged_testing {k : CornerPart} {r : TestRecord} (hs : k.state = .test .drive r) (he : k.reg.enabled = true)
    (hw : k.reg.wanted = .tracking) : k.judged = .testing r := by
  simp only [CornerPart.judged, Regulator.mode, hs, he, hw, if_true]

theorem judged_ramping {k : CornerPart} (he : k.reg.enabled = true) (hw : k.reg.wanted = .ramping) : k.judged = .nothing := by
  have hm : k.reg.mode = .ramping := by rw [Regulator.mode, if_pos he, hw]
  unfold CornerPart.judged
  split <;> simp_all

theorem judged_fault {k : CornerPart} (hs : k.state = .fault) : k.judged = .nothing := by
  simp only [CornerPart.judged, hs]

theorem judged_disabled {k : CornerPart} (he : k.reg.enabled = false) (hs : k.state ≠ .fault) :
    k.judged = if k.reg.calibration.isSome then .nothing else .leak := by
  have hm : k.reg.mode = .disabled := by simp [Regulator.mode, he]
  unfold CornerPart.judged
  split <;> simp_all

/-- A calibration in progress, from its request on, is judged for nothing (log entry 12). -/
theorem judged_calibrating {k : CornerPart} {x : Calibration} (he : k.reg.enabled = false) (hx : k.reg.calibration = some x) :
    k.judged = .nothing := by
  by_cases hs : k.state = .fault
  · exact judged_fault hs
  · rw [judged_disabled he hs, hx]
    rfl

/-! ## The hand-off by line, short of any condition -/

theorem openRunNext_eq (k : CornerPart) (params : Params) (im : Int) :
    k.openRunNext params im = if openPeriod params k im then k.diag.openRun + 1 else 0 := by
  rw [CornerPart.openRunNext, openCounts_eq]

theorem shortRunNext_reach (k : CornerPart) (w : Pwm) (point : SamplePoint) :
    k.shortRunNext (w.reach point) = if limitPeriod w k.reg then k.diag.shortRun + 1 else 0 := by
  rw [CornerPart.shortRunNext, shortCounts_eq, limitPeriod_reach]

theorem leakRunNext_above (k : CornerPart) {params : Params} {im : Int} (h : (params.leakLevel : Int) < im) :
    k.leakRunNext params im = k.diag.leakRun + 1 := if_pos h

theorem leakRunNext_below (k : CornerPart) {params : Params} {im : Int} (h : im ≤ params.leakLevel) :
    k.leakRunNext params im = 0 := if_neg (not_lt.mpr h)

section Lines

variable {c : Corner} {im : Int} {p : Part}

theorem handoff_nothing (h : (p.corner c).judged = .nothing) : handoff c im p = p.modCorner c (fun k => k.setRuns 0 0 0) := by
  rw [handoff, h]

theorem handoff_regulating (h : (p.corner c).judged = .regulating)
    (hopen : ¬(openPeriod p.params (p.corner c) im = true ∧ p.params.satRun ≤ (p.corner c).diag.openRun + 1))
    (hshort : ¬(limitPeriod p.pwm (p.corner c).reg = true ∧ p.params.tripRun ≤ (p.corner c).diag.shortRun + 1)) :
    handoff c im p = p.modCorner c
      (fun k => k.setRuns ((p.corner c).openRunNext p.params im) ((p.corner c).shortRunNext p.pwm) 0) := by
  rw [← openMet_iff] at hopen
  rw [← shortMet_iff] at hshort
  rw [handoff, h]
  dsimp only
  rw [handoffRegulating, if_neg hopen, if_neg hshort]
  refine modCorner_eq ?_
  rfl

theorem handoff_leak (h : (p.corner c).judged = .leak) (hrun : (p.corner c).leakRunNext p.params im < Config.leakPeriods) :
    handoff c im p = p.modCorner c (fun k => k.setRuns 0 0 ((p.corner c).leakRunNext p.params im)) := by
  rw [handoff, h]
  dsimp only
  rw [handoffLeak, if_neg (Nat.not_le.mpr hrun)]
  refine modCorner_eq ?_
  rfl

theorem handoff_testing {r : TestRecord} (h : (p.corner c).judged = .testing r)
    (hopen : ¬(openPeriod p.params (p.corner c) im = true ∧ p.params.satRun ≤ (p.corner c).diag.openRun + 1))
    (hend : ((r.drive (p.corner c).reg.duty).take im).driven ≠ ((r.drive (p.corner c).reg.duty).take im).duration) :
    handoff c im p = p.modCorner c (fun k => { k.setRuns ((p.corner c).openRunNext p.params im) 0 0 with
      state := .test .drive ((r.drive (p.corner c).reg.duty).take im) }) := by
  rw [← openMet_iff] at hopen
  rw [handoff, h]
  dsimp only
  rw [handoffTesting, if_neg hopen, if_neg hend]
  refine modCorner_eq ?_
  rfl

end Lines

/-- A test's record after a driven period (R128). -/
theorem take_drive (r : TestRecord) (duty : Nat) (im : Int) : (r.drive duty).take im =
    if r.duration - r.duration / 2 < r.driven + 1 then
      { r with
        driven := r.driven + 1
        finalDuty := duty
        count := r.count + 1
        sum := r.sum + im
        least := some (match r.least with | none => im | some y => min y im)
        greatest := some (match r.greatest with | none => im | some y => max y im) }
    else { r with driven := r.driven + 1, finalDuty := duty } := rfl

theorem take_driven (r : TestRecord) (im : Int) : (r.take im).driven = r.driven ∧ (r.take im).duration = r.duration := by
  unfold TestRecord.take
  split <;> exact ⟨rfl, rfl⟩

/-! ## The sample -/

theorem concludeCalibration_of_ne {c : Corner} {p : Part} (h : ∀ x, (p.corner c).reg.calibration = some x → x.taken ≠ 64) :
    concludeCalibration c p = p := by
  unfold concludeCalibration
  split
  next x hx => exact if_neg (h x hx)
  next => rfl

theorem exec_currentSample {c : Corner} {s : State} (h : (s.part.corner c).reg.sampled = false) (raw : BitVec 12) :
    exec (.currentSample c raw) s = .next ⟨currentSample c raw s.part, s.pending⟩ := by
  have hfirst : (!(s.part.corner c).reg.sampled) = true := by rw [h]; rfl
  exact congrArg (fun q => Host.Outcome.next (State.mk q s.pending)) (onlyWhen_pos hfirst _)

theorem handed_state (c : Corner) (raw : BitVec 12) (p : Part) : ((handed c raw p).corner c).state = (p.corner c).state := by
  rw [handed_corner_self, atSample_eq, Part.pass_corner]
  rfl

/-- A hand-off that sets a corner's runs and, in a test, its record. No calibration is at its end. -/
theorem exec_currentSample_handed {c : Corner} {raw : BitVec 12} {s : State} {f : CornerPart → CornerPart}
    (hs : (s.part.corner c).reg.sampled = false) (hf : ∀ k, (f k).reg = k.reg)
    (hcal : ∀ x, ((handed c raw s.part).corner c).reg.calibration = some x → x.taken ≠ 64)
    (h : handoff c (measuredCurrent s.part.params (s.part.corner c).reg raw) (handed c raw s.part) =
      (handed c raw s.part).modCorner c f) :
    exec (.currentSample c raw) s = .next ⟨(handed c raw s.part).modCorner c f, s.pending⟩ := by
  have hrunning : ∀ x, (((handed c raw s.part).modCorner c f).corner c).reg.calibration = some x → x.taken ≠ 64 := by
    rw [Part.corner_modCorner_self, hf]
    exact hcal
  rw [exec_currentSample hs, currentSample_eq, h, concludeCalibration_of_ne hrunning]

theorem answers_currentSample {c : Corner} {raw : BitVec 12} {s : State} {o sh l : Nat}
    (hs : (s.part.corner c).reg.sampled = false)
    (hcal : ∀ x, ((handed c raw s.part).corner c).reg.calibration = some x → x.taken ≠ 64)
    (h : handoff c (measuredCurrent s.part.params (s.part.corner c).reg raw) (handed c raw s.part) =
      (handed c raw s.part).modCorner c (fun k => k.setRuns o sh l)) :
    answers (.currentSample c raw) s (sampledPart c raw o sh l s.part) := by
  rw [answers, exec_currentSample_handed hs (fun _ => by rfl) hcal h, handed_setRuns]

theorem not_calibrating {r : Regulator} (h : r.calibration = none) : ∀ x, r.calibration = some x → x.taken ≠ 64 := by
  rw [h]
  exact fun _ => nofun

/-- Settles O45: the sample hands the period on, and each line of R94's table sets the runs. -/
theorem currentSample : Obligations.CurrentSample := by
  rintro c raw im k s rfl hk
  rw [← handed_corner_self] at hk
  subst hk
  have hstate := handed_state c raw s.part
  refine ⟨fun hsecond => ?_, fun hs => ⟨?_, ?_, ?_, ?_, ?_, ?_⟩⟩
  · have htaken : ¬(!(s.part.corner c).reg.sampled) = true := by rw [hsecond]; decide
    exact congrArg (fun q => Host.Outcome.next (State.mk q s.pending)) (if_neg htaken)
  · intro hcontrol he hw hcal hopen hshort
    rw [← limitPeriod_reach _ (s.part.corner c).reg.point] at hshort
    have hline := handoff_regulating (judged_regulating (hstate.trans hcontrol) he hw) hopen hshort
    rw [openRunNext_eq, handed_pwm, shortRunNext_reach] at hline
    exact answers_currentSample hs (not_calibrating hcal) hline
  · exact fun he hw hcal => answers_currentSample hs (not_calibrating hcal) (handoff_nothing (judged_ramping he hw))
  · exact fun hfault hcal =>
      answers_currentSample hs (not_calibrating hcal) (handoff_nothing (judged_fault (hstate.trans hfault)))
  · intro x he hx hshort
    refine answers_currentSample hs (fun y hy => ?_) (handoff_nothing (judged_calibrating he hx))
    rw [hx] at hy
    cases hy
    omega
  · intro he hcal hfault
    rw [← hstate] at hfault
    have hleak : ((handed c raw s.part).corner c).judged = .leak := by
      rw [judged_disabled he hfault, hcal]
      rfl
    refine ⟨fun habove hrun => ?_, fun hbelow => ?_⟩
    · have hnext := leakRunNext_above ((handed c raw s.part).corner c) habove
      have hline := handoff_leak hleak (hnext.trans_lt hrun)
      rw [handed_params, hnext] at hline
      exact answers_currentSample hs (not_calibrating hcal) hline
    · have hnext := leakRunNext_below ((handed c raw s.part).corner c) hbelow
      have hline := handoff_leak hleak (hnext.trans_lt (by decide))
      rw [handed_params, hnext] at hline
      exact answers_currentSample hs (not_calibrating hcal) hline
  · intro r htest he hw hcal hopen hend
    have hline := handoff_testing (judged_testing (hstate.trans htest) he hw) hopen
      (by rw [(take_driven _ _).1, (take_driven _ _).2]; exact hend)
    have hexec := exec_currentSample_handed hs (fun _ => by rfl) (not_calibrating hcal) hline
    refine ⟨_, hexec, rfl, ?_, ?_, ?_⟩
    · dsimp only
      rw [Part.corner_modCorner_self]
      exact congrArg (CornerState.test .drive) (take_drive _ _ _)
    · dsimp only
      rw [Part.corner_modCorner_self]
      rfl
    · dsimp only
      rw [Part.corner_modCorner_self, handed_modCorner, handed_corner_self]
      rfl

end Sys2Proof.CurrentSamples

/-! # CLEAR_FAULT (R108, R122) -/

namespace Sys2Proof.FaultClearing

open Sys2Proof Sys2Proof.Machine Sys2Proof.Claims Sys2Proof.Estimation Sys2Proof.GainSchedule Sys2Proof.Supervisory
  Sys2Proof.ParityFailures Sys2Proof.CornerOutcomes

theorem reasons_none_iff (r : Reasons) : r.none = true ↔ r = ⟨false, false, false, false, false⟩ := by
  obtain ⟨stale, sensor, link, supply, map⟩ := r
  simp [Reasons.none, and_assoc]

/-- The corner with its fault record cleared (R108). -/
def recordCleared (k : CornerPart) : CornerPart := { k with diag := faultCleared k.diag }

/-! ## The handler -/

section Handler

variable {c : Corner} {p : Part}

theorem clearFault_of_malformed {args : List Byte} (h : ∀ c : Corner, args ≠ [BitVec.ofNat 8 c.index]) (p : Part) :
    clearFault args p = (p, .refusedArgument []) := by
  unfold clearFault
  split
  next corner =>
    split
    · rfl
    next c hc =>
      refine absurd ?_ (h c)
      rw [← index_of_ofIndex hc, BitVec.ofNat_toNat, BitVec.setWidth_eq]
  next => rfl

theorem clearFault_of_not_fault (h : (p.corner c).state ≠ .fault) :
    clearFault [BitVec.ofNat 8 c.index] p = (p, .refusedState []) := by
  simp only [clearFault, ofIndex_byte, if_pos h]

theorem clearFault_of_fault (h : (p.corner c).state = .fault) : clearFault [BitVec.ofNat 8 c.index] p =
    (leaveFault c (p.modCorner c recordCleared),
      .done [BitVec.ofNat 8 c.index, ((leaveFault c (p.modCorner c recordCleared)).corner c).state.code]) := by
  simp only [clearFault, ofIndex_byte, if_neg (not_not.mpr h)]
  rfl

/-! ## Where the cleared corner goes -/

theorem leaveFault_engaging (h : p.control = .engaging) : leaveFault c p = p.modCorner c CornerPart.beginEngage := by
  simp only [leaveFault, h]

theorem leaveFault_free (h : p.control = .engaged) (hr : (p.corner c).reasons.none = true) :
    leaveFault c p = p.modCorner c returned := by
  simp only [leaveFault, h, hr, if_true]
  rfl

theorem leaveFault_reason (h : p.control = .engaged) (hr : (p.corner c).reasons.none = false) :
    leaveFault c p = enterPassive c p := by
  simp only [leaveFault, h, hr, Bool.false_eq_true, if_false]

theorem leaveFault_elsewhere (h : p.control ≠ .engaging) (h' : p.control ≠ .engaged) :
    leaveFault c p = p.modCorner c turnedOff := by
  rw [← funext turnOff_eq]
  unfold leaveFault
  split
  · contradiction
  · contradiction
  · rfl

end Handler

/-- An entry to PASSIVE changes its corner and the pending events (R122). -/
theorem enterPassive_eq (c : Corner) (p : Part) :
    enterPassive c p = { p.modCorner c passivated with events := (enterPassive c p).events } := rfl

theorem enterPassive_recordCleared (c : Corner) (p : Part) : enterPassive c (p.modCorner c recordCleared) = { p with
    events := (enterPassive c (p.modCorner c recordCleared)).events
    corners := p.corners.set c { p.corner c with
      state := .passive false
      reg := { ramping (p.corner c).reg with calibration := none }
      diag := abandoned (faultCleared (p.corner c).diag)
      counters := { (p.corner c).counters with
        passiveEntry := min 4294967295 ((p.corner c).counters.passiveEntry + 1) } } } := by
  rw [← abandon_eq, enterPassive_eq, modCorner_modCorner]
  rfl

/-- CLEAR_FAULT taken of a corner in FAULT that leaves no event. -/
theorem answers_clearFault {o : OrderIn} {c : Corner} {s : State} (ht : takesOrders s.part)
    (ho : o.args = [BitVec.ofNat 8 c.index]) (hs : (s.part.corner c).state = .fault) {f : CornerPart → CornerPart}
    (hf : leaveFault c ((goodFrame .s s.part).modCorner c recordCleared) =
      ((goodFrame .s s.part).modCorner c recordCleared).modCorner c f) :
    answers (.clearFault o) s (afterOrder o 0x33 0 0
      [BitVec.ofNat 8 c.index, (f (recordCleared (s.part.corner c))).state.code]
      (fun q => { q with corners := q.corners.set c (f (recordCleared (q.corner c))) }) s.part) := by
  refine answers_of_handler rfl ht ?_ fun _ => rfl
  rw [ho, clearFault_of_fault (p := goodFrame .s s.part) hs, hf, modCorner_modCorner, Part.corner_modCorner_self]
  rfl

/-- Settles O39: the refusals, then the four ways out of FAULT. -/
theorem clearFault : Obligations.ClearFault := by
  intro o s ht
  refine ⟨fun h => answers_of_handler rfl ht (clearFault_of_malformed h _) fun p => rfl, fun c ho => ⟨fun hs => ?_,
    fun hs => ?_⟩⟩
  · refine answers_of_handler rfl ht ?_ fun p => rfl
    rw [ho]
    exact clearFault_of_not_fault hs
  · have hreasons : (((goodFrame .s s.part).modCorner c recordCleared).corner c).reasons = (s.part.corner c).reasons := by
      rw [Part.corner_modCorner_self]
      rfl
    refine ⟨fun hc => answers_clearFault ht ho hs (leaveFault_engaging hc), fun hc hr => ?_, fun hc hr => ?_,
      fun hc hc' => answers_clearFault ht ho hs (leaveFault_elsewhere hc hc')⟩
    · exact answers_clearFault ht ho hs (leaveFault_free hc (by rwa [hreasons, reasons_none_iff]))
    · have hpassive : leaveFault c ((goodFrame .s s.part).modCorner c recordCleared) =
          enterPassive c ((goodFrame .s s.part).modCorner c recordCleared) :=
        leaveFault_reason hc (by rwa [hreasons, ← Bool.not_eq_true, reasons_none_iff])
      have hanswer : answers (.clearFault o) s (afterOrder o 0x33 0 0 [BitVec.ofNat 8 c.index, 4]
          (fun q => enterPassive c (q.modCorner c recordCleared)) s.part) := by
        refine answers_of_handler rfl ht ?_ fun _ => rfl
        rw [ho, clearFault_of_fault (p := goodFrame .s s.part) hs, hpassive, enterPassive_corner_state]
        rfl
      refine ⟨_, hanswer, rfl, ?_, ?_⟩
      · dsimp only
        rw [pendingEvent, afterOrder_events]
        exact pendingEvent_enterPassive c _
      · dsimp only
        refine afterOrder_congr _ _ _ _ _ ?_
        rw [afterOrder_events]
        exact enterPassive_recordCleared c _

end Sys2Proof.FaultClearing

/-! # Open and short suspicions (R94 to R97, R99, R100, R103, R104) -/

namespace Sys2Proof.Suspicion

open Sys2Proof Sys2Proof.Machine Sys2Proof.Claims Sys2Proof.CornerOutcomes Sys2Proof.Trips Sys2Proof.CalibrationOutcomes
  Sys2Proof.CurrentSamples

theorem set_set {α : Type} (q : Quad α) (c : Corner) (x y : α) : (q.set c x).set c y = q.set c y := by cases c <;> rfl

/-- Outside RELEASING an entry to FAULT replaces its corner and raises VALVE_FAULT; nothing else changes (R104). -/
theorem enterFault_eq {p : Part} (hc : p.control ≠ .releasing) (c : Corner) (kind : FaultKind) : enterFault c kind p = { p with
    events := (enterFault c kind p).events
    corners := p.corners.set c { p.corner c with
      state := .fault
      reg := { driverDisabled (p.corner c).reg with calibration := none }
      diag := latched (p.corner c).diag kind } } := by
  rw [enterFault_of_ne hc, ← latch_eq]
  rfl

theorem enterFault_state (c : Corner) (kind : FaultKind) (p : Part) : ((enterFault c kind p).corner c).state = .fault := by
  obtain ⟨-, m, hm⟩ := enterFault_outcome c kind p
  rw [hm]

/-! ## What a suspicion leaves of the part (R99, R100, R104) -/

/-- A suspicion changes its corner and, at an entry to FAULT alone, the pending events. -/
structure Suspected (c : Corner) (kind : FaultKind) (p q : Part) : Prop where
  frame : q = { p with corners := p.corners.set c (q.corner c), events := q.events }
  fault : (q.corner c).state = .fault → faultRaised q c kind
  noFault : (q.corner c).state ≠ .fault → q.events = p.events

namespace Suspected

variable {c : Corner} {kind : FaultKind} {p q : Part}

theorem modCorner {f : CornerPart → CornerPart} (hf : (f (p.corner c)).state ≠ .fault) :
    Suspected c kind p (p.modCorner c f) where
  frame := by
    rw [Part.corner_modCorner_self]
    rfl
  fault h := by
    rw [Part.corner_modCorner_self] at h
    exact absurd h hf
  noFault _ := rfl

theorem enterFault (hc : p.control ≠ .releasing) : Suspected c kind p (enterFault c kind p) where
  frame := by
    have hframe := enterFault_eq hc c kind
    have hcorner := congrArg (fun q => q.corner c) hframe
    dsimp only [Part.corner] at hcorner
    rw [Quad.get_set_self] at hcorner
    rw [Part.corner, hcorner]
    exact hframe
  fault _ := (enterFault_outcome c kind p).1
  noFault h := absurd (enterFault_state c kind p) h

/-- The corner may be updated before. -/
theorem after_modCorner {f : CornerPart → CornerPart} (h : Suspected c kind (p.modCorner c f) q) : Suspected c kind p q where
  frame := by
    have hframe := h.frame
    rw [Part.modCorner_corners, set_set] at hframe
    exact hframe
  fault := h.fault
  noFault := h.noFault

theorem suspicion (hc : p.control ≠ .releasing) : Suspected c kind p (suspicion c kind p) := by
  unfold Machine.suspicion
  dsimp only
  split
  · exact after_modCorner (modCorner nofun)
  · split
    · exact after_modCorner (modCorner nofun)
    · exact after_modCorner (enterFault hc)

theorem suspicion_modCorner {f : CornerPart → CornerPart} (hc : p.control ≠ .releasing) :
    Suspected c kind p (Machine.suspicion c kind (p.modCorner c f)) :=
  after_modCorner (suspicion (p := p.modCorner c f) hc)

end Suspected

/-! ## The hand-off that brings one about (R95 to R97) -/

section Handoff

variable {c : Corner} {im : Int} {p : Part}

/-- The open condition comes before the short one. -/
theorem handoff_open (h : (p.corner c).judged = .regulating) (hopen : (p.corner c).openMet p.params im = true) :
    handoff c im p = suspicion c .openWinding (p.modCorner c fun k => k.setRuns 0 (k.shortRunNext p.pwm) 0) := by
  simp only [handoff, h, handoffRegulating, if_pos hopen]

/-- A tripped period does not count toward the open run. -/
theorem handoff_short (h : (p.corner c).judged = .regulating) (hshort : (p.corner c).shortMet p.params p.pwm = true) :
    handoff c im p = suspicion c .shortWinding (p.modCorner c fun k => k.setRuns 0 0 0) := by
  have hcounts : (p.corner c).reg.shortCounts p.pwm = true := (Bool.and_eq_true_iff.mp hshort).1
  have hopen : (p.corner c).openMet p.params im = false := by
    rw [CornerPart.openMet, CornerPart.openCounts_of_shortCounts p.params im hcounts]
    rfl
  simp only [handoff, h, handoffRegulating, hopen, Bool.false_eq_true, if_false, if_pos hshort]

/-- A suspicion that sets the runs it does not look at is one of the corner with its leak run at 0. -/
theorem afterSuspicion_setRuns {kind : FaultKind} (hc : p.control ≠ .releasing) {f : CornerPart → CornerPart} {o s : Nat}
    (hf : f (p.corner c) = (p.corner c).setRuns o s 0) : afterSuspicion kind p
      { p.corner c with diag := { (p.corner c).diag with leakRun := 0 } }
      ((suspicion c kind (p.modCorner c f)).corner c) := by
  have hafter := suspicion_corner (p := p.modCorner c f) hc c kind
  rw [Part.corner_modCorner_self, hf] at hafter
  exact afterSuspicion_runs o s hafter

end Handoff

theorem exec_openCondition {c : Corner} {im : Int} {s : State} (h : openDue c im s.part = true) :
    exec (.openCondition c im) s = .next ⟨handoff c im s.part, s.pending⟩ :=
  congrArg (fun q => Host.Outcome.next (State.mk q s.pending)) (onlyWhen_pos h _)

theorem exec_shortSuspicion {c : Corner} {s : State} (h : shortDue c s.part = true) (im : Int) :
    exec (.shortSuspicion c im) s = .next ⟨handoff c im s.part, s.pending⟩ :=
  congrArg (fun q => Host.Outcome.next (State.mk q s.pending)) (onlyWhen_pos h _)

/-- Settles O48: either condition makes the hand-off a suspicion of its kind. -/
theorem suspicions : Obligations.Suspicions := by
  intro c im s hc hs he hw
  have hjudged := judged_regulating hs he hw
  have hne : s.part.control ≠ .releasing := by
    rw [hc]
    decide
  refine ⟨fun hopen hrun => ?_, fun hlimit hrun => ?_⟩
  · have hmet := (openMet_iff (s.part.corner c) s.part.params im).mpr ⟨hopen, hrun⟩
    refine ⟨_, exec_openCondition (by simp only [openDue, hjudged, hmet]), rfl, ?_⟩
    rw [handoff_open hjudged hmet]
    obtain ⟨hframe, hfault, hnone⟩ := Suspected.suspicion_modCorner hne
    exact ⟨hframe, afterSuspicion_setRuns hne rfl, hfault, hnone⟩
  · have hmet := (shortMet_iff (s.part.corner c) s.part.params s.part.pwm).mpr ⟨hlimit, hrun⟩
    refine ⟨_, exec_shortSuspicion (by simp only [shortDue, hjudged, hmet, decide_true, Bool.and_self]) im, rfl, ?_⟩
    rw [handoff_short hjudged hmet]
    obtain ⟨hframe, hfault, hnone⟩ := Suspected.suspicion_modCorner hne
    exact ⟨hframe, afterSuspicion_setRuns hne rfl, hfault, hnone⟩

end Sys2Proof.Suspicion

/-! # The leak condition, and the episode recovered (R98, R102, R104) -/

namespace Sys2Proof.LeakAndRecovery

open Sys2Proof Sys2Proof.Machine Sys2Proof.Claims Sys2Proof.CalibrationOutcomes Sys2Proof.CurrentSamples Sys2Proof.Suspicion

/-- A leak run at its end puts the corner in FAULT (R98). -/
theorem handoff_leak_met {c : Corner} {im : Int} {p : Part} (h : (p.corner c).judged = .leak)
    (hrun : Config.leakPeriods ≤ (p.corner c).leakRunNext p.params im) : handoff c im p = enterFault c .leak p := by
  simp only [handoff, h, handoffLeak, if_pos hrun]

theorem exec_leakFault {c : Corner} {im : Int} {s : State} (h : leakDue c im s.part = true) :
    exec (.leakFault c im) s = .next ⟨handoff c im s.part, s.pending⟩ :=
  congrArg (fun q => Host.Outcome.next (State.mk q s.pending)) (onlyWhen_pos h _)

theorem exec_episodeRecovered {c : Corner} {s : State} (h : recoveryDue c s.part = true) :
    exec (.episodeRecovered c) s = .next ⟨episodeAtCycleStart c s.part, s.pending⟩ :=
  congrArg (fun q => Host.Outcome.next (State.mk q s.pending)) (onlyWhen_pos h _)

/-- The last cycle start of a proving window ends the episode recovered (R102). -/
theorem episodeAtCycleStart_recovers {c : Corner} {limit : Nat} {p : Part} (hs : (p.corner c).state = .control)
    (he : (p.corner c).diag.episode = some ⟨limit, some 1⟩) : episodeAtCycleStart c p =
      raise (.valveRecovered c) (p.corner c).diag.record.kind.code
        (p.modCorner c fun k => { k with diag := k.diag.recover }) := by
  simp only [episodeAtCycleStart, hs, he, countWindow, le_refl, if_true]

/-- Settles O50: the eighth leak period enters FAULT, the last cycle start of a proving window recovers. -/
theorem leakAndRecovery : Obligations.LeakAndRecovery := by
  refine fun c s => ⟨fun im hc hs he hcal habove hrun => ?_, fun limit hs he => ?_⟩
  · have hjudged : (s.part.corner c).judged = .leak := by
      rw [judged_disabled he hs, hcal]
      rfl
    have heighth : Config.leakPeriods ≤ (s.part.corner c).leakRunNext s.part.params im := by
      rw [leakRunNext_above _ habove]
      exact Nat.succ_le_succ hrun
    have hrests : driverDisabled (s.part.corner c).reg =
        { driverDisabled (s.part.corner c).reg with calibration := none } := by
      rw [← hcal]
      rfl
    refine ⟨_, exec_leakFault (by simp only [leakDue, hjudged, heighth, decide_true, Bool.and_self]), rfl, ?_⟩
    rw [handoff_leak_met hjudged heighth, hrests]
    exact ⟨(enterFault_outcome c .leak s.part).1, enterFault_eq hc c .leak⟩
  · have hdue : recoveryDue c s.part = true := by
      rw [recoveryDue, hs, he]
      rfl
    refine ⟨_, exec_episodeRecovered hdue, rfl, ?_⟩
    rw [episodeAtCycleStart_recovers hs he]
    exact ⟨exists_mem_raiseIn_parameter _ _ _ _, rfl⟩

end Sys2Proof.LeakAndRecovery

/-! # The supply flags (R109 to R111, R122, R124) -/

namespace Sys2Proof.SupplyMonitor

open Sys2Proof Sys2Proof.Machine Sys2Proof.Claims Sys2Proof.Estimation Sys2Proof.Supervisory Sys2Proof.ParityFailures
  Sys2Proof.ValidationReading Sys2Proof.PeriodStarts Sys2Proof.CalibrationOutcomes
  Sys2Proof.FaultClearing

/-! ## The detectors (R109, R110) -/

/-- Whether a supply sample counts toward the low flag's next change (R109). -/
def lowCounts (p : Part) (mv : Nat) : Bool :=
  if p.supply.low then decide (p.params.supplyLowOff ≤ mv) else decide (mv < p.params.supplyLowOn)

/-- A sample that does not count restarts the run, one that does lengthens it, and the eighth in a row changes the flag. -/
theorem stepLow_eq (p : Part) (mv : Nat) : p.supply.stepLow p.params mv =
    if lowCounts p mv then
      if 7 ≤ p.supply.lowRun then { p.supply with low := !p.supply.low, lowRun := 0 }
      else { p.supply with lowRun := p.supply.lowRun + 1 }
    else { p.supply with lowRun := 0 } := by
  change (if (!lowCounts p mv) = true then _ else if 8 ≤ p.supply.lowRun + 1 then _ else _) = _
  cases lowCounts p mv with
  | true => simp only [Bool.not_true, Bool.false_eq_true, if_false, if_true, Nat.reduceLeDiff]
  | false => rfl

theorem step_high (p : Part) (mv : Nat) : (p.supply.step p.params mv).high = highAfter p mv := by
  have hhigh : (p.supply.stepLow p.params mv).high = p.supply.high := by
    rw [stepLow_eq]
    split
    · split <;> rfl
    · rfl
  rw [Supply.step, Supply.stepHigh, hhigh]
  rfl

/-- The eighth sample that counts changes the low flag. -/
theorem step_of_eighth {p : Part} {mv : Nat} (h : lowCounts p mv = true) (hrun : 7 ≤ p.supply.lowRun) :
    p.supply.step p.params mv = ⟨!p.supply.low, 0, highAfter p mv⟩ := by
  rw [← step_high]
  have hlow := stepLow_eq p mv
  rw [if_pos h, if_pos hrun] at hlow
  unfold Supply.step
  rw [hlow]
  rfl

/-- The eighth sample in a row below SUPPLY_LOW_ON (R109). -/
theorem step_asserts_low {p : Part} {mv : Nat} (h : p.supply.low = false) (hmv : mv < p.params.supplyLowOn)
    (hrun : 7 ≤ p.supply.lowRun) : p.supply.step p.params mv = ⟨true, 0, highAfter p mv⟩ := by
  have hcounts : lowCounts p mv = true := by
    rw [lowCounts, h]
    exact decide_eq_true hmv
  rw [step_of_eighth hcounts hrun, h]
  rfl

/-- The eighth sample in a row at or above SUPPLY_LOW_OFF (R109). -/
theorem step_clears_low {p : Part} {mv : Nat} (h : p.supply.low = true) (hmv : p.params.supplyLowOff ≤ mv)
    (hrun : 7 ≤ p.supply.lowRun) : p.supply.step p.params mv = ⟨false, 0, highAfter p mv⟩ := by
  have hcounts : lowCounts p mv = true := by
    rw [lowCounts, h]
    exact decide_eq_true hmv
  rw [step_of_eighth hcounts hrun, h]
  rfl

theorem lowStepped_step (p : Part) (mv : Nat) : lowStepped p mv (p.supply.step p.params mv) := by
  have hlow := stepLow_eq p mv
  refine ⟨fun (h : lowCounts p mv = false) => ?_, fun (h : lowCounts p mv = true) hrun => ?_,
    fun (h : lowCounts p mv = true) hrun => ?_⟩
  · rw [h, if_neg Bool.false_ne_true] at hlow
    exact ⟨(congrArg Supply.low hlow :), (congrArg Supply.lowRun hlow :)⟩
  · rw [if_pos h, if_neg (Nat.not_le.mpr hrun)] at hlow
    exact ⟨(congrArg Supply.low hlow :), (congrArg Supply.lowRun hlow :)⟩
  · rw [if_pos h, if_pos hrun] at hlow
    exact ⟨(congrArg Supply.low hlow :), (congrArg Supply.lowRun hlow :)⟩

/-! ## What a sample comes to (R111) -/

/-- The part with its detectors stepped. -/
def sampled (mv : Nat) (p : Part) : Part := p.setSupply (p.supply.step p.params mv)

section Outcome

variable {mv : Nat} {p : Part}

/-- Where the high flag asserts, its assertion comes last (log entry 24). -/
theorem supplySample_high (h : p.supply.high = false) (h' : highAfter p mv = true) :
    ∃ q, (q = sampled mv p ∨ q = assertSupply 0 (sampled mv p)) ∧ supplySample mv p = assertSupply 1 q := by
  unfold supplySample
  simp only [step_high, h, h', Bool.not_false, Bool.and_self, Bool.or_true, Bool.not_true, Bool.and_false,
    Bool.false_eq_true, if_true, if_false]
  split
  · exact ⟨_, .inr rfl, rfl⟩
  · exact ⟨_, .inl rfl, rfl⟩

theorem supplySample_low (h : p.supply.low = false) (h' : (p.supply.step p.params mv).low = true) :
    supplySample mv p = assertSupply 0 (sampled mv p) ∨
      supplySample mv p = assertSupply 1 (assertSupply 0 (sampled mv p)) := by
  unfold supplySample
  simp only [h, h', Bool.not_false, Bool.and_self, Bool.true_or, Bool.not_true, Bool.and_false,
    Bool.false_eq_true, if_true, if_false]
  split
  · exact .inr rfl
  · exact .inl rfl

/-- The reason goes with the last flag. -/
theorem supplySample_clear (h : p.supply.low = true ∨ p.supply.high = true) (hl : (p.supply.step p.params mv).low = false)
    (hh : highAfter p mv = false) : supplySample mv p = forCorners (putReason .supply false) (sampled mv p) := by
  unfold supplySample
  simp only [step_high, hl, hh, Bool.false_and, Bool.or_self, Bool.not_false, Bool.and_true, Bool.false_eq_true, if_false]
  rw [if_pos ((Bool.or_eq_true _ _).mpr h)]
  rfl

/-- With the high flag set before and after, the low flag's end changes the supply monitor alone. -/
theorem supplySample_stays (h : p.supply.high = true) (hl : (p.supply.step p.params mv).low = false)
    (hh : highAfter p mv = true) : supplySample mv p = sampled mv p := by
  unfold supplySample
  simp only [step_high, h, hl, hh, Bool.false_and, Bool.or_true, Bool.not_true, Bool.and_false, Bool.false_eq_true, if_false]
  rfl

end Outcome

/-! ## What it leaves of the part -/

/-- A change of reasons touches the corners and the events only. -/
theorem putReasons_eq (which : Reason) (present : Bool) (p : Part) : forCorners (putReason which present) p = { p with
    corners := (forCorners (putReason which present) p).corners
    events := (forCorners (putReason which present) p).events } :=
  forCorners_keeps (P := fun q => q = { p with corners := q.corners, events := q.events })
    (fun c q hq => by
      rw [putReason, supervise_eq, hq]
      rfl) rfl

theorem assertSupply_eq (detector : Byte) (p : Part) : assertSupply detector p =
    { p with corners := (assertSupply detector p).corners, events := (assertSupply detector p).events } :=
  putReasons_eq .supply true (raise .supply detector p)

theorem supplySample_eq (mv : Nat) (p : Part) : supplySample mv p = { p with
    supply := p.supply.step p.params mv
    corners := (supplySample mv p).corners
    events := (supplySample mv p).events } := by
  obtain ⟨q, rfl, h | ⟨x, h⟩ | ⟨x, y, h⟩ | h⟩ := supplySample_cases mv p
  · rw [h]
    rfl
  · rw [h]
    exact assertSupply_eq _ _
  · rw [h, assertSupply_eq x, assertSupply_eq y]
    rfl
  · rw [h]
    exact putReasons_eq _ _ _

/-! ## The event of an assertion (R111) -/

/-- The supervisor raises no event but CORNER_PASSIVE, which leaves the entries of the others. -/
theorem mem_supervise {c : Corner} {p : Part} {x : Entry} (hx : x ∈ p.events) (hne : x.event ≠ .cornerPassive c) :
    x ∈ (supervise c p).events := by
  have hpassive : x ∈ (enterPassive c p).events := mem_raiseIn_of_ne hx hne _ _
  unfold supervise
  split
  case h_4 => split <;> exact hx
  case h_5 => exact hx
  all_goals
    split
    · exact hx
    · exact hpassive

theorem mem_putReasons {p : Part} {x : Entry} (hx : x ∈ p.events) (hne : ∀ c, x.event ≠ .cornerPassive c) (which : Reason)
    (present : Bool) : x ∈ (forCorners (putReason which present) p).events :=
  forCorners_keeps (P := fun q => x ∈ q.events)
    (fun c q hq => mem_supervise (p := q.modCorner c fun k => { k with reasons := k.reasons.put which present }) hq (hne c)) hx

/-- An assertion leaves SUPPLY pending with its detector. -/
theorem exists_mem_assertSupply (detector : Byte) (p : Part) :
    ∃ x ∈ (assertSupply detector p).events, x.event = .supply ∧ x.parameter = detector := by
  obtain ⟨x, hx, he, hb⟩ := exists_mem_raiseIn_parameter .supply p.tracker.record.number detector p.events
  have hne (c : Corner) : x.event ≠ .cornerPassive c := by
    rw [he]
    exact nofun
  exact ⟨x, mem_putReasons (p := raise .supply detector p) hx hne .supply true, he, hb⟩

theorem pendingEvent_assertSupply (detector : Byte) (p : Part) : pendingEvent (assertSupply detector p) .supply := by
  obtain ⟨x, hx, he, -⟩ := exists_mem_assertSupply detector p
  exact ⟨x, hx, he⟩

/-! ## The corners (R122, R124) -/

section Corners

variable {k : CornerPart}

theorem reasons_withSupply (engaged present : Bool) (k : CornerPart) :
    (reaction engaged (withSupply present k)).reasons = { k.reasons with supply := present } := reaction_reasons _ _

/-- In ENGAGED a corner that regulates, or has just entered PASSIVE, is PASSIVE once it has the reason. -/
theorem withSupply_passive (hs : k.state = .control ∨ k.state = .passive false) :
    (reaction true (withSupply true k)).state = .passive false := by
  have hr : (withSupply true k).reasons.none = false := by simp [withSupply, Reasons.none, Reasons.put]
  rcases hs with hs | hs
  · rw [reaction_of_control (k := withSupply true k) hs hr]
    rfl
  · rw [reaction_of_passive (k := withSupply true k) true hs hr]
    exact hs

/-- In ENGAGED a PASSIVE corner left without a reason returns to CONTROL. -/
theorem withoutSupply_returns (hs : ∃ x, k.state = .passive x)
    (hr : { k.reasons with supply := false } = (⟨false, false, false, false, false⟩ : Reasons)) :
    (reaction true (withSupply false k)).state = .control ∧ (reaction true (withSupply false k)).reg.wanted = .tracking := by
  obtain ⟨x, hs⟩ := hs
  have hreturn : reaction true (withSupply false k) = returned (withSupply false k) := by
    have hs' : (withSupply false k).state = .passive x := hs
    have hr' : (withSupply false k).reasons.none = true := (reasons_none_iff _).mpr hr
    simp only [reaction, hs', hr', if_true]
  rw [hreturn]
  exact ⟨rfl, rfl⟩

end Corners

theorem assertSupply_assertSupply_corner (x y : Byte) (c : Corner) (p : Part) :
    (assertSupply x (assertSupply y p)).corner c = reaction (decide (p.control = .engaged)) (withSupply true (p.corner c)) := by
  rw [assertSupply_corner, assertSupply_corner, assertSupply_control, withSupply_reaction, reaction_reaction]

section Samples

variable {mv : Nat} {p : Part}

/-- Every corner gains the reason at an assertion, whichever the detector. -/
theorem supplySample_corner_of_high (h : p.supply.high = false) (h' : highAfter p mv = true) (c : Corner) :
    (supplySample mv p).corner c = reaction (decide (p.control = .engaged)) (withSupply true (p.corner c)) := by
  obtain ⟨q, rfl | rfl, hq⟩ := supplySample_high h h'
  · rw [hq]
    exact assertSupply_corner _ _ _
  · rw [hq]
    exact assertSupply_assertSupply_corner _ _ _ _

theorem supplySample_corner_of_low (h : p.supply.low = false) (h' : (p.supply.step p.params mv).low = true) (c : Corner) :
    (supplySample mv p).corner c = reaction (decide (p.control = .engaged)) (withSupply true (p.corner c)) := by
  rcases supplySample_low h h' with hq | hq
  · rw [hq]
    exact assertSupply_corner _ _ _
  · rw [hq]
    exact assertSupply_assertSupply_corner _ _ _ _

theorem supplySample_corner_of_clear (h : p.supply.low = true ∨ p.supply.high = true)
    (hl : (p.supply.step p.params mv).low = false) (hh : highAfter p mv = false) (c : Corner) :
    (supplySample mv p).corner c = reaction (decide (p.control = .engaged)) (withSupply false (p.corner c)) := by
  rw [supplySample_clear h hl hh]
  exact putSupply_corner _ _ _

end Samples

/-! ## The row as a command of its own -/

theorem exec_supplyLowAssert {mv : Nat} {s : State} (h : s.part.supply.low = false)
    (h' : (s.part.supply.step s.part.params mv).low = true) :
    exec (.supplyLowAssert mv) s = .next ⟨supplySample mv s.part, s.pending⟩ := by
  have hasserts : (!s.part.supply.low && (s.part.supply.step s.part.params mv).low) = true := by
    rw [h, h']
    rfl
  exact congrArg (fun q => Host.Outcome.next (State.mk q s.pending)) (onlyWhen_pos hasserts _)

theorem exec_supplyLowClear {mv : Nat} {s : State} (h : s.part.supply.low = true)
    (h' : (s.part.supply.step s.part.params mv).low = false) :
    exec (.supplyLowClear mv) s = .next ⟨supplySample mv s.part, s.pending⟩ := by
  have hclears : (s.part.supply.low && !(s.part.supply.step s.part.params mv).low) = true := by
    rw [h, h']
    rfl
  exact congrArg (fun q => Host.Outcome.next (State.mk q s.pending)) (onlyWhen_pos hclears _)

/-! ## The sample of a period start -/

/-- The part that a period start's supply sample finds. -/
def beforeSample (mv : Nat) (p : Part) : Part := scrub (regulated mv p)

theorem beforeSample_supply (mv : Nat) (p : Part) : (beforeSample mv p).supply = p.supply :=
  (scrub_supply _).trans (onlySupervisory_regulated mv p).supply

theorem beforeSample_params (mv : Nat) (p : Part) : (beforeSample mv p).params = p.params :=
  (scrub_params _).trans (onlySupervisory_regulated mv p).params

theorem beforeSample_engaged {mv : Nat} {p : Part} (h : p.control = .engaged) : (beforeSample mv p).control = .engaged :=
  (scrub_engaged _).mpr ((regulated_engaged mv p).mpr h)

theorem beforeSample_high (mv : Nat) (p : Part) : highAfter (beforeSample mv p) mv = highAfter p mv := by
  rw [highAfter, highAfter, beforeSample_supply, beforeSample_params]

/-- In ENGAGED a PASSIVE corner's ramp may end with the period, but the corner stays PASSIVE (R123). -/
theorem regulatorPeriodStart_passive {c : Corner} {p : Part} (hc : p.control = .engaged)
    (hs : ∃ x, (p.corner c).state = .passive x) : ∃ x, ((regulatorPeriodStart c p).corner c).state = .passive x := by
  obtain ⟨x, hs⟩ := hs
  have hne : (RampEnds.advanced c p).control ≠ .releasing := by
    rw [RampEnds.advanced, Part.modCorner_control, hc]
    decide
  have hs' : ((RampEnds.advanced c p).corner c).state = .passive x := (RampEnds.advanced_state c c p).trans hs
  have hrest := RampEnds.rampDone_passive hne hs'
  unfold regulatorPeriodStart
  dsimp only
  rw [Part.corner_modCorner_self]
  split
  · refine ⟨true, ?_⟩
    change ((rampDone c (RampEnds.advanced c p)).corner c).state = _
    rw [hrest, Part.corner_modCorner_self]
    rfl
  · exact ⟨x, hs'⟩

theorem regulated_passive {mv : Nat} {c : Corner} {p : Part} (hc : p.control = .engaged)
    (hs : ∃ x, (p.corner c).state = .passive x) : ∃ x, ((regulated mv p).corner c).state = .passive x := by
  obtain ⟨q, ⟨hq, m, hm⟩, -, m', hm'⟩ := Beside.forCorners (f := regulatorPeriodStart)
    (fun q h => Beside.regulatorPeriodStart h q) c
    ((p.modPwm (fun w => w.start p.params)).modPins (fun x => { x with supplyMv := mv }))
  have hs' : ∃ x, (q.corner c).state = .passive x := by
    rw [hm]
    exact hs
  rw [regulated, hm']
  exact regulatorPeriodStart_passive (hq.engaged.mpr hc) hs'

/-- In ENGAGED a regulating corner comes to the sample regulating, or PASSIVE by the scrub (R70, R122). -/
theorem beforeSample_regulating {mv : Nat} {c : Corner} {p : Part} (hc : p.control = .engaged)
    (hs : (p.corner c).state = .control) :
    ((beforeSample mv p).corner c).state = .control ∨ ((beforeSample mv p).corner c).state = .passive false := by
  obtain ⟨r, hr⟩ := regulated_corner mv c p
  have hs' := hr.regulating hc hs
  have hscrub := scrubbed_scrub c (regulated mv p)
  rw [decide_eq_true ((regulated_engaged mv p).mpr hc)] at hscrub
  unfold beforeSample
  generalize (scrub (regulated mv p)).corner c = k at hscrub
  cases hscrub with
  | intact => exact .inl hs'
  | upset m id =>
    rw [reaction_of_control (k := corrupted id _) hs' (corrupted_reasons_none id _)]
    exact .inr rfl

theorem beforeSample_passive {mv : Nat} {c : Corner} {p : Part} (hc : p.control = .engaged)
    (hs : ∃ x, (p.corner c).state = .passive x) : ∃ x, ((beforeSample mv p).corner c).state = .passive x := by
  obtain ⟨x, hs'⟩ := regulated_passive (mv := mv) hc hs
  have hscrub := scrubbed_scrub c (regulated mv p)
  unfold beforeSample
  generalize (scrub (regulated mv p)).corner c = k at hscrub
  cases hscrub with
  | intact => exact ⟨x, hs'⟩
  | upset m id =>
    rw [reaction_of_passive (k := corrupted id _) _ hs' (corrupted_reasons_none id _)]
    exact ⟨x, hs'⟩

/-- The reading of validation, which comes last, changes neither supply nor events, and of a corner the banks alone. -/
theorem periodStart_after_sample (mv : Nat) (p : Part) :
    (periodStart mv p).supply = (supplySample mv (beforeSample mv p)).supply ∧
      (periodStart mv p).events = (supplySample mv (beforeSample mv p)).events ∧
      ∀ c, ∃ b, (periodStart mv p).corner c = { (supplySample mv (beforeSample mv p)).corner c with banks := b } := by
  have hread := onlyReading_validationReading (supplySample mv (beforeSample mv p))
  refine ⟨(congrArg Part.supply hread :), (congrArg Part.events hread :), fun c => ?_⟩
  have hcorner := readFor_validationReading c (supplySample mv (beforeSample mv p))
  change ∃ b, (validationReading (supplySample mv (beforeSample mv p))).corner c = _
  generalize (validationReading (supplySample mv (beforeSample mv p))).corner c = k at hcorner
  obtain ⟨b, -⟩ := hcorner
  exact ⟨b, rfl⟩

theorem periodStart_supply (mv : Nat) (p : Part) : (periodStart mv p).supply = p.supply.step p.params mv := by
  rw [(periodStart_after_sample mv p).1, supplySample_eq, beforeSample_supply, beforeSample_params]

/-- The high flag asserts at a period start. -/
theorem periodStart_high {mv : Nat} {p : Part} (h : p.supply.high = false) (h' : highAfter p mv = true) :
    (∃ x ∈ (periodStart mv p).events, x.event = .supply ∧ x.parameter = 1) ∧
      ∀ c, ((periodStart mv p).corner c).reasons.supply = true ∧
        (p.control = .engaged → (p.corner c).state = .control → ((periodStart mv p).corner c).state = .passive false) := by
  obtain ⟨-, hevents, hcorners⟩ := periodStart_after_sample mv p
  have hbefore : (beforeSample mv p).supply.high = false := by rw [beforeSample_supply, h]
  have hafter : highAfter (beforeSample mv p) mv = true := by rw [beforeSample_high, h']
  constructor
  · obtain ⟨q, -, hq⟩ := supplySample_high hbefore hafter
    rw [hevents, hq]
    exact exists_mem_assertSupply 1 q
  · intro c
    obtain ⟨b, hb⟩ := hcorners c
    rw [hb, supplySample_corner_of_high hbefore hafter]
    refine ⟨congrArg Reasons.supply (reasons_withSupply _ true _), fun hc hs => ?_⟩
    rw [decide_eq_true (beforeSample_engaged hc)]
    exact withSupply_passive (beforeSample_regulating hc hs)

/-- The high flag clears at a period start and the low one is clear. -/
theorem periodStart_clear {mv : Nat} {p : Part} (h : p.supply.high = true) (hl : (p.supply.step p.params mv).low = false)
    (hh : highAfter p mv = false) (c : Corner) : ((periodStart mv p).corner c).reasons.supply = false ∧
      (p.control = .engaged → (∃ x, (p.corner c).state = .passive x) →
        ((periodStart mv p).corner c).reasons = ⟨false, false, false, false, false⟩ →
        ((periodStart mv p).corner c).state = .control ∧ ((periodStart mv p).corner c).reg.wanted = .tracking) := by
  obtain ⟨-, -, hcorners⟩ := periodStart_after_sample mv p
  obtain ⟨b, hb⟩ := hcorners c
  rw [← beforeSample_supply mv] at h
  rw [← beforeSample_supply mv, ← beforeSample_params mv] at hl
  rw [← beforeSample_high] at hh
  rw [hb, supplySample_corner_of_clear (.inr h) hl hh]
  refine ⟨congrArg Reasons.supply (reasons_withSupply _ false _), fun hc hs hr => ?_⟩
  dsimp only at hr
  rw [reasons_withSupply] at hr
  rw [decide_eq_true (beforeSample_engaged hc)]
  exact withoutSupply_returns (beforeSample_passive hc hs) hr

/-- Settles O51: the sample of a period start, then the low flag's two rows. -/
theorem supplyFlags : Obligations.SupplyFlags := by
  refine fun mv s => ⟨?_, fun hlow hmv hrun => ?_, fun hlow hmv hrun => ?_⟩
  · refine ⟨_, rfl, rfl, ?_, ?_, fun h hmv => periodStart_high h ?_, fun h hmv hl c => ?_⟩
    · dsimp only
      rw [periodStart_supply, step_high]
    · dsimp only
      rw [periodStart_supply]
      exact lowStepped_step s.part mv
    · rw [highAfter, h]
      exact decide_eq_true hmv
    · dsimp only at hl
      rw [periodStart_supply] at hl
      have hh : highAfter s.part mv = false := by
        rw [highAfter, h]
        exact decide_eq_false (Nat.not_lt.mpr hmv)
      obtain ⟨hreason, hreturns⟩ := periodStart_clear h hl hh c
      exact ⟨hreason, fun x hc hs => hreturns hc ⟨x, hs⟩⟩
  · have hstep := step_asserts_low hlow hmv hrun
    have hasserts : (s.part.supply.step s.part.params mv).low = true := congrArg Supply.low hstep
    refine ⟨_, exec_supplyLowAssert hlow hasserts, rfl, ?_, ?_, fun c => ?_⟩
    · dsimp only
      rw [← hstep]
      exact supplySample_eq mv s.part
    · dsimp only
      rcases supplySample_low hlow hasserts with h | h <;> rw [h] <;> exact pendingEvent_assertSupply _ _
    · dsimp only
      rw [supplySample_corner_of_low hlow hasserts]
      refine ⟨reasons_withSupply _ true _, fun hc hs => ?_⟩
      rw [decide_eq_true hc]
      exact withSupply_passive (.inl hs)
  · have hstep := step_clears_low hlow hmv hrun
    have hclears : (s.part.supply.step s.part.params mv).low = false := congrArg Supply.low hstep
    refine ⟨_, exec_supplyLowClear hlow hclears, rfl, ?_, fun hh h => ?_, fun hh c => ?_⟩
    · dsimp only
      rw [← hstep]
      exact supplySample_eq mv s.part
    · dsimp only
      rw [supplySample_stays h hclears hh]
      exact ⟨rfl, rfl⟩
    · dsimp only
      rw [supplySample_corner_of_clear (.inl hlow) hclears hh]
      refine ⟨reasons_withSupply _ false _, fun x hc hs hr => ?_⟩
      rw [decide_eq_true hc]
      exact withoutSupply_returns ⟨x, hs⟩ hr

end Sys2Proof.SupplyMonitor

/-! # The ends of a valve test (R94, R95, R127 to R129) -/

namespace Sys2Proof.ValveTests

open Sys2Proof Sys2Proof.Machine Sys2Proof.Claims Sys2Proof.CornerOutcomes Sys2Proof.CalibrationOutcomes
  Sys2Proof.CurrentSamples Sys2Proof.Suspicion

/-! ## The end of a test (R129) -/

/-- With the slot held, the reply is placed in the reserved place and the slot released. -/
theorem endTest_eq {p : Part} {h : HeldOrder} (hslot : p.slot = some h) (c : Corner) (x : TestOutcome) (r : TestRecord) :
    endTest c x r p = testOver c x.code r h p := by
  have hheld : (p.modCorner c CornerPart.turnOff).slot = some h := hslot
  rw [endTest, answerHeld, hheld, funext turnOff_eq]
  rfl

/-- The end of a test finds of its corner no more than what turning it off leaves. -/
theorem testOver_modCorner {c : Corner} {f : CornerPart → CornerPart} {k : CornerPart} {p : Part}
    (hf : turnedOff (f (p.corner c)) = turnedOff k) (x : Byte) (r : TestRecord) (h : HeldOrder) :
    testOver c x r h (p.modCorner c f) = testOver c x r h { p with corners := p.corners.set c k } := by
  simp only [testOver, Part.corner_modCorner_self, Part.modCorner_corners, set_set, hf]
  simp only [Part.corner, Quad.get_set_self]
  rfl

theorem testOver_modCorner_self {c : Corner} {f : CornerPart → CornerPart} {p : Part}
    (hf : turnedOff (f (p.corner c)) = turnedOff (p.corner c)) (x : Byte) (r : TestRecord) (h : HeldOrder) :
    testOver c x r h (p.modCorner c f) = testOver c x r h p := by
  simp only [testOver, Part.corner_modCorner_self, Part.modCorner_corners, set_set, hf]
  rfl

/-! ## What ends it (R127, R128) -/

section Ends

variable {c : Corner} {im : Int} {r : TestRecord} {h : HeldOrder} {p : Part}

/-- The hand-off that meets the open condition ends the test OPEN. -/
theorem handoff_testing_open (hslot : p.slot = some h) (hj : (p.corner c).judged = .testing r)
    (hopen : (p.corner c).openMet p.params im = true) : handoff c im p =
      testOver c 1 (r.drive (p.corner c).reg.duty) h
        { p with corners := p.corners.set c ((p.corner c).setRuns 0 0 0) } := by
  simp only [handoff, hj, handoffTesting, if_pos hopen]
  rw [endTest_eq (by exact hslot)]
  exact testOver_modCorner (by rfl) _ _ _

/-- The hand-off of the last period ends it COMPLETE. -/
theorem handoff_testing_last (hslot : p.slot = some h) (hj : (p.corner c).judged = .testing r)
    (hopen : (p.corner c).openMet p.params im = false)
    (hlast : ((r.drive (p.corner c).reg.duty).take im).driven = ((r.drive (p.corner c).reg.duty).take im).duration) :
    handoff c im p = testOver c 0 ((r.drive (p.corner c).reg.duty).take im) h
      { p with corners := p.corners.set c ((p.corner c).setRuns ((p.corner c).openRunNext p.params im) 0 0) } := by
  simp only [handoff, hj, handoffTesting, hopen, Bool.false_eq_true, if_false, if_pos hlast]
  rw [endTest_eq (by exact hslot)]
  exact testOver_modCorner (by rfl) _ _ _

/-- A LATCH trip, whose driver is disabled before it is reported, ends it TRIPPED. -/
theorem latchTrip_testing (hslot : p.slot = some h) (hs : (p.corner c).state = .test .drive r) :
    latchTrip c p = testOver c 2 r h p := by
  have hs' : ((p.modCorner c fun k => { k with reg := k.reg.disable }).corner c).state = .test .drive r := by
    rw [Part.corner_modCorner_self]
    exact hs
  have hreport : latchTrip c p = endTest c .tripped r (p.modCorner c fun k => { k with reg := k.reg.disable }) := by
    unfold latchTrip latchReport
    split <;> simp_all
  rw [hreport, endTest_eq (by exact hslot)]
  exact testOver_modCorner_self rfl _ _ _

/-- A refused candidate ends it OFFSET. -/
theorem calibrationOutcome_testing (hslot : p.slot = some h) (hs : (p.corner c).state = .test .cal r) {sum : Nat}
    (hx : accepted (offsetOf sum) = false) :
    calibrationOutcome c sum p = testOver c 3 { r with candidate := offsetOf sum } h p := by
  have hx' : accepted (candidateOf sum) = false := hx
  simp only [calibrationOutcome, hs, hx', Bool.false_eq_true, if_false]
  rw [endTest_eq (by exact hslot)]
  refine testOver_modCorner_self ?_ _ _ _
  rw [conclude_of_refused hx']
  rfl

end Ends

/-- The record of the last period, which lies in the second half of a test of two periods or more (R128). -/
theorem take_drive_last {r : TestRecord} (hlast : r.driven + 1 = r.duration) (hlong : 2 ≤ r.duration) (duty : Nat) (im : Int) :
    (r.drive duty).take im = { r with
      driven := r.driven + 1
      finalDuty := duty
      count := r.count + 1
      sum := r.sum + im
      least := some (match r.least with | none => im | some y => min y im)
      greatest := some (match r.greatest with | none => im | some y => max y im) } :=
  (take_drive r duty im).trans (if_pos (by omega))

/-! ## The row as a command of its own -/

theorem answers_valveTestEnd {c : Corner} {cause : TestEndCause} {s : State} {q : Part}
    (hends : testEnds c cause s.part = true) (hq : endByCause c cause s.part = q) : answers (.valveTestEnd c cause) s q := by
  subst hq
  exact congrArg (fun q => Host.Outcome.next (State.mk q s.pending)) (onlyWhen_pos hends _)

/-- Settles O52: one clause for each end. -/
theorem valveTestEnds : Obligations.ValveTestEnds := by
  intro c r h s hslot
  refine ⟨fun im hs he hw => ⟨fun hopen hrun => ?_, fun hopen hlast hlong => ?_⟩, fun hs he hlatch => ?_,
    fun raw sum hs hcal hout => ?_⟩
  · have hjudged := judged_testing hs he hw
    have hmet := (openMet_iff (s.part.corner c) s.part.params im).mpr ⟨hopen, hrun⟩
    refine answers_valveTestEnd ?_ (handoff_testing_open hslot hjudged hmet)
    simp only [testEnds, hs, hjudged, hmet, Bool.true_or]
  · have hjudged := judged_testing hs he hw
    have hmet : (s.part.corner c).openMet s.part.params im = false := by
      rwa [← Bool.not_eq_true, openMet_iff]
    have hrecord := take_drive_last hlast hlong (s.part.corner c).reg.duty im
    have hends : ((r.drive (s.part.corner c).reg.duty).take im).driven = r.duration := by
      rw [hrecord]
      exact hlast
    have hend := handoff_testing_last hslot hjudged hmet (hends.trans (take_driven (r.drive _) im).2.symm)
    rw [hrecord, openRunNext_eq] at hend
    refine answers_valveTestEnd ?_ hend
    simp only [testEnds, hs, hjudged, hends, decide_true, Bool.or_true]
  · refine answers_valveTestEnd ?_ (latchTrip_testing hslot hs)
    simp only [testEnds, hs, he, hlatch, Bool.and_self]
  · have hx : accepted (offsetOf (sum + raw.toNat)) = false := by
      rw [← Bool.not_eq_true, accepted_iff]
      omega
    have hdue : completionDue c s.part = true := by
      rw [completionDue, hcal]
      rfl
    have hsum : (s.part.corner c).reg.calibrationSum = sum := by rw [Regulator.calibrationSum, hcal]
    refine answers_valveTestEnd ?_ ?_
    · have hx' : accepted (candidateOf (sum + raw.toNat)) = false := hx
      simp only [testEnds, hs, hdue, hsum, hx', Bool.not_false, Bool.and_self]
    · rw [endByCause, hsum]
      exact calibrationOutcome_testing hslot hs hx

end Sys2Proof.ValveTests

/-! # Engagement (R114, R115) -/

namespace Sys2Proof.Engagement

open Sys2Proof Sys2Proof.Machine Sys2Proof.Claims Sys2Proof.Estimation Sys2Proof.GainSchedule
  Sys2Proof.CalibrationOutcomes

/-- A corner as ENGAGE leaves it: an OFF corner starts its calibration, any other stays (R114). -/
def begun (k : CornerPart) : CornerPart := if k.state = .off then k.beginEngage else k

theorem begun_of_off {k : CornerPart} (h : k.state = .off) : begun k = k.beginEngage := if_pos h

theorem begun_of_not_off {k : CornerPart} (h : k.state ≠ .off) : begun k = k := if_neg h

/-- The part in ENGAGING, its OFF corners calibrating (R114). -/
def begunPart (p : Part) : Part := { p with control := .engaging, selection := none, corners := p.corners.map begun }

theorem begunPart_corner (c : Corner) (p : Part) : (begunPart p).corner c = begun (p.corner c) := Quad.get_map _ _ _

/-- What ENGAGE does at one corner (R114). -/
def beginCorner (c : Corner) (p : Part) : Part :=
  if (p.corner c).state = .off then p.modCorner c CornerPart.beginEngage else p

theorem beginCorner_eq (c : Corner) (p : Part) : beginCorner c p = p.modCorner c begun := by
  unfold beginCorner
  split
  next hoff => exact congrArg (fun k => { p with corners := p.corners.set c k }) (begun_of_off hoff).symm
  next hoff =>
    have hself : p.corners.set c (begun (p.corner c)) = p.corners := by
      rw [begun_of_not_off hoff]
      exact Quad.set_get_self _ _
    exact congrArg (fun x => { p with corners := x }) hself.symm

/-- An operation of each corner on that corner alone maps the corners. -/
theorem forCorners_modCorner (f : CornerPart → CornerPart) (p : Part) :
    forCorners (fun c q => q.modCorner c f) p = { p with corners := p.corners.map f } := rfl

theorem engage_of_locked {p : Part} (hc : p.control = .standby) (ht : p.tracker.state = .locked) :
    engage [] p = (judgeEngaged (begunPart p), .done [cornerMask p.offCorners]) := by
  have hbegun : forCorners beginCorner ((p.setControl .engaging).setSelection none) = begunPart p := by
    rw [funext fun c => funext (beginCorner_eq c), forCorners_modCorner]
    rfl
  rw [← hbegun]
  simp only [engage, if_neg (not_not.mpr hc), if_neg (not_not.mpr ht)]
  rfl

theorem engage_elsewhere {p : Part} (hc : p.control ≠ .standby) : engage [] p = (p, .refusedState []) := if_pos hc

theorem engage_unlocked {p : Part} (hc : p.control = .standby) (ht : p.tracker.state ≠ .locked) :
    engage [] p = (p, .refusedNoCycle) := by
  simp only [engage, if_neg (not_not.mpr hc), if_pos ht]

theorem engage_of_args {args : List Byte} (h : args ≠ []) (p : Part) : engage args p = (p, .refusedArgument []) := by
  unfold engage
  split
  · contradiction
  · rfl

/-- With no corner CALIBRATING the entry to ENGAGED changes the control state alone (R116). -/
theorem enterEngaged_of_none {p : Part} (h : ∀ d y b, (p.corner d).state ≠ .calibrating y b) :
    enterEngaged p = p.setControl .engaged := by
  refine forCorners_keeps (P := fun q => q = p.setControl .engaged) (fun c q hq => ?_) rfl
  subst hq
  refine if_neg fun hcal => ?_
  obtain ⟨y, b, hs⟩ := (isCalibrating_iff _).mp hcal
  exact h c y b hs

/-- A corner that starts its calibration keeps the part in ENGAGING (R115). -/
theorem judgeEngaged_of_off {p : Part} {d : Corner} (h : (p.corner d).state = .off) :
    judgeEngaged (begunPart p) = begunPart p := by
  have hcorner : (begunPart p).corner d = (p.corner d).beginEngage := (begunPart_corner d p).trans (begun_of_off h)
  refine judgeEngaged_of_calibrating (d := d) ⟨.engage, false, ?_⟩ ?_
  · rw [hcorner]
    rfl
  · rw [hcorner]
    rfl

/-- With every corner in FAULT or TEST the part is ENGAGED at once (R115). -/
theorem judgeEngaged_of_latched {p : Part}
    (h : ∀ c, (p.corner c).state = .fault ∨ ∃ phase r, (p.corner c).state = .test phase r) :
    judgeEngaged (begunPart p) = { p with control := .engaged, selection := none } := by
  have hstays (c : Corner) : (begunPart p).corner c = p.corner c := by
    rw [begunPart_corner]
    exact begun_of_not_off (by rcases h c with hs | ⟨phase, r, hs⟩ <;> simp [hs])
  have hnone (c : Corner) (y : Purpose) (b : Bool) : ((begunPart p).corner c).state ≠ .calibrating y b := by
    rw [hstays]
    rcases h c with hs | ⟨phase, r, hs⟩ <;> simp [hs]
  have hcorners : (begunPart p).corners = p.corners := Quad.ext_get hstays
  calc judgeEngaged (begunPart p)
      = enterEngaged (begunPart p) := judgeEngaged_of_none rfl fun d ⟨y, b, hs⟩ => absurd hs (hnone d y b)
    _ = (begunPart p).setControl .engaged := enterEngaged_of_none hnone
    _ = { p with control := .engaged, selection := none } :=
        congrArg (fun x => { p with control := .engaged, selection := none, corners := x }) hcorners

theorem offCorners_of_latched {p : Part}
    (h : ∀ c, (p.corner c).state = .fault ∨ ∃ phase r, (p.corner c).state = .test phase r) :
    p.offCorners = .fill false := by
  refine Quad.ext_get fun c => ?_
  rw [Part.offCorners, Quad.get_map, Quad.get_fill, decide_eq_false_iff_not]
  change (p.corner c).state ≠ .off
  rcases h c with hs | ⟨phase, r, hs⟩ <;> simp [hs]

/-- Settles O36: each refusal, then the part that waits for a calibration and the one that has none to wait for. -/
theorem engage : Obligations.Engage := by
  intro o s ht
  refine ⟨fun ho => answers_of_handler rfl ht (engage_of_args ho _) fun _ => rfl,
    fun ho hc => answers_of_handler rfl ht ?_ fun _ => rfl, fun ho hc hl => answers_of_handler rfl ht ?_ fun _ => rfl,
    fun ho hc hl => ⟨fun ⟨d, hd⟩ => ?_, fun h => ?_⟩⟩
  · rw [ho]
    exact engage_elsewhere hc
  · rw [ho]
    exact engage_unlocked hc hl
  · have hanswer : answers (.engage o) s
        (afterOrder o 0x30 0 0 [cornerMask (s.part.corners.map fun k => decide (k.state = .off))] begunPart s.part) := by
      refine answers_of_handler rfl ht ?_ fun _ => rfl
      rw [ho, engage_of_locked (p := goodFrame .s s.part) hc hl, judgeEngaged_of_off (p := goodFrame .s s.part) hd]
      rfl
    refine ⟨_, hanswer, rfl, ?_, fun c => ?_⟩
    · dsimp only
      refine afterOrder_congr _ _ _ _ _ ?_
      rw [afterOrder_corners]
      rfl
    · dsimp only
      rw [afterOrder_corner, begunPart_corner, goodFrame_corner]
      exact ⟨begun_of_off, begun_of_not_off⟩
  · refine answers_of_handler rfl ht ?_ fun _ => rfl
    rw [ho, engage_of_locked (p := goodFrame .s s.part) hc hl, judgeEngaged_of_latched (p := goodFrame .s s.part) h,
      offCorners_of_latched (p := goodFrame .s s.part) h]
    rfl

end Sys2Proof.Engagement

/-! # The start of a valve test (R126, R164) -/

namespace Sys2Proof.TestStart

open Sys2Proof Sys2Proof.Machine Sys2Proof.Claims Sys2Proof.GainSchedule Sys2Proof.ParityFailures

/-- An order taken that owes its reply leaves its effect and holds the slot (R164). -/
theorem answers_of_held {o : OrderIn} {i : Instr} {code : Byte} {handler : Handler} {s : State} {q : Part}
    (hexec : exec i s = s.onPart (orderArrival o code handler)) (ht : takesOrders s.part)
    (hh : handler o.args (goodFrame .s s.part) = (q, .held)) : answers i s { q with slot := some ⟨o.src, o.tag, code⟩ } := by
  unfold answers
  rw [hexec, State.onPart_eq, orderArrival_taken o code handler s.part ht.1 ht.2, hh, settleOrder_held]

theorem ofIndex_of_le {n : Nat} (h : 4 ≤ n) : Corner.ofIndex n = none := by
  unfold Corner.ofIndex
  split
  case h_5 => rfl
  all_goals omega

theorem valveTest_of_malformed {args : List Byte}
    (h : args.length ≠ 5 ∨ ∃ corner rest, args = corner :: rest ∧ 4 ≤ corner.toNat) (p : Part) :
    valveTest args p = (p, .refusedArgument []) := by
  unfold valveTest
  split
  · rcases h with h | ⟨corner, rest, heq, hle⟩
    · exact absurd rfl h
    · obtain ⟨rfl, -⟩ := List.cons.inj heq
      rw [ofIndex_of_le hle]
  · rfl

section Corner

variable {c : Corner} {i1 i0 d1 d0 : Byte} {p : Part}

theorem valveTest_of_out_of_bounds (h : p.params.currentLimit < nat16 i1 i0 ∨ nat16 d1 d0 < 100 ∨ 10000 < nat16 d1 d0) :
    valveTest [BitVec.ofNat 8 c.index, i1, i0, d1, d0] p = (p, .refusedArgument []) := by
  simp only [valveTest, ofIndex_byte, if_pos h]

variable (hcurrent : nat16 i1 i0 ≤ p.params.currentLimit) (hshort : 100 ≤ nat16 d1 d0) (hlong : nat16 d1 d0 ≤ 10000)

include hcurrent hshort hlong

theorem valveTest_not_free (h : ¬ ((p.control = .unloaded ∨ p.control = .standby) ∧ (p.corner c).state = .off)) :
    valveTest [BitVec.ofNat 8 c.index, i1, i0, d1, d0] p = (p, .refusedState []) := by
  have hbounds : ¬ (p.params.currentLimit < nat16 i1 i0 ∨ nat16 d1 d0 < 100 ∨ 10000 < nat16 d1 d0) := by omega
  simp only [valveTest, ofIndex_byte, if_neg hbounds, if_pos h]

theorem valveTest_free (hc : p.control = .unloaded ∨ p.control = .standby) (hs : (p.corner c).state = .off) :
    valveTest [BitVec.ofNat 8 c.index, i1, i0, d1, d0] p =
      (p.modCorner c fun k => k.beginTest (.fresh (nat16 i1 i0) (nat16 d1 d0)), .held) := by
  have hbounds : ¬ (p.params.currentLimit < nat16 i1 i0 ∨ nat16 d1 d0 < 100 ∨ 10000 < nat16 d1 d0) := by omega
  simp only [valveTest, ofIndex_byte, if_neg hbounds, if_neg (not_not.mpr (And.intro hc hs))]

end Corner

/-- Settles O38: the start at an OFF corner, and each refusal. -/
theorem valveTest : Obligations.ValveTest := by
  intro o s ht
  refine ⟨fun c i1 i0 d1 d0 ho => ⟨fun hcurrent hshort hlong => ⟨fun hc hs => ?_, fun hu hs => ?_, fun hs => ?_⟩,
    fun hout => ?_⟩, fun h => answers_of_handler rfl ht (valveTest_of_malformed h _) fun _ => rfl⟩
  · have hbegins := valveTest_free (p := goodFrame .s s.part) hcurrent hshort hlong hc hs
    rw [← ho] at hbegins
    exact answers_of_held (i := .valveTest o) rfl ht hbegins
  · refine answers_of_handler rfl ht ?_ fun _ => rfl
    rw [ho]
    exact valveTest_not_free (p := goodFrame .s s.part) hcurrent hshort hlong fun h => h.1.elim hu hs
  · refine answers_of_handler rfl ht ?_ fun _ => rfl
    rw [ho]
    exact valveTest_not_free (p := goodFrame .s s.part) hcurrent hshort hlong fun h => hs h.2
  · refine answers_of_handler rfl ht ?_ fun _ => rfl
    rw [ho]
    exact valveTest_of_out_of_bounds (p := goodFrame .s s.part) hout

end Sys2Proof.TestStart

/-! # MAP_SWAP (R113, R142 to R144) -/

namespace Sys2Proof.MapSwaps

open Sys2Proof Sys2Proof.Machine Sys2Proof.Claims Sys2Proof.Estimation Sys2Proof.GainSchedule Sys2Proof.DamperMaps
  Sys2Proof.Supervisory Sys2Proof.ParityFailures

/-! ## The banks at a swap (R143) -/

/-- The bank named before a swap, as the swap leaves it (R143). -/
def retired (b : Bank) : Bank :=
  if b.state = .active then { b with state := .ready } else if b.state = .corrupt then { b with state := .empty } else b

theorem retired_words (b : Bank) : (retired b).words = b.words := by
  unfold retired
  repeat' split
  all_goals rfl

theorem retired_check (b : Bank) : (retired b).check = b.check := by
  unfold retired
  repeat' split
  all_goals rfl

theorem retired_state (b : Bank) : (retired b).state =
    match b.state with
    | .active => .ready
    | .corrupt => .empty
    | x => x := by
  unfold retired
  cases h : b.state <;> simp [h]

/-- The model's swap is the one of the statements: the shadow is ACTIVE, and the bank named before retires. -/
theorem swapped_swap (k : Banks) : swapped k k.swap := by
  obtain ⟨a, b, active, pending⟩ := k
  refine ⟨rfl, rfl, fun id => ?_⟩
  rcases active with _ | _ | _
  case none =>
    cases id with
    | a => exact ⟨rfl, rfl, fun _ => rfl, nofun⟩
    | b => exact ⟨rfl, rfl, nofun, nofun⟩
  case some.a =>
    cases id with
    | a => exact ⟨retired_words a, retired_check a, nofun, fun _ => retired_state a⟩
    | b => exact ⟨rfl, rfl, fun _ => rfl, nofun⟩
  case some.b =>
    cases id with
    | a => exact ⟨rfl, rfl, fun _ => rfl, nofun⟩
    | b => exact ⟨retired_words b, retired_check b, nofun, fun _ => retired_state b⟩

theorem inUse_swap (k : Banks) : k.swap.inUse = some k.shadow := by
  obtain ⟨hactive, -, hbanks⟩ := swapped_swap k
  obtain ⟨-, -, hstate, -⟩ := hbanks k.shadow
  simp only [Banks.inUse, hactive, hstate rfl, if_true]

/-! ## What a swap outcome makes of its corner -/

/-- The corner as its outcome leaves it, its motion record aside (R142, R143). -/
def acted : SwapOutcome → CornerPart → CornerPart
  | .swapped, k => { k with banks := k.banks.swap, reasons := { k.reasons with map := false } }
  | .pending, k => { k with banks := { k.banks with swapPending := true } }
  | _, k => k

theorem acted_of_none {x : SwapOutcome} (hs : x ≠ .swapped) (hp : x ≠ .pending) (k : CornerPart) : acted x k = k := by
  cases x with
  | swapped => exact absurd rfl hs
  | pending => exact absurd rfl hp
  | _ => rfl

/-- Banks and motion record aside, a corner loses MAP where it swapped, and nothing else. -/
theorem acted_rest (x : SwapOutcome) (k : CornerPart) (n : Motion) :
    { { acted x k with motion := n } with banks := k.banks, motion := k.motion } =
      { k with reasons := { k.reasons with map := if x = .swapped then false else k.reasons.map } } := by
  cases x <;> rfl

/-- A swap before the loaded condition is judged (R143). -/
def swapRaised (c : Corner) (p : Part) : Part :=
  raise (.mapSwapped c) (p.corner c).banks.shadow.code
    (putReason .map false c (p.modCorner c (CornerPart.modBanks Banks.swap)))

theorem swapEffect_eq (c : Corner) (p : Part) : swapEffect c p = judgeLoaded (swapRaised c p) := rfl

theorem swapRaised_control (c : Corner) (p : Part) : (swapRaised c p).control = p.control := by simp [swapRaised]

theorem swapRaised_schedule (c : Corner) (p : Part) : (swapRaised c p).schedule = p.schedule := by simp [swapRaised]

theorem swapRaised_motion (c d : Corner) (p : Part) : ((swapRaised c p).corner d).motion = (p.corner d).motion := by
  rw [swapRaised, raise_corner, putReason_corner_motion, Part.corner_modCorner]
  split
  next h => rw [h]; rfl
  next => rfl

theorem swapRaised_banks (c d : Corner) (p : Part) :
    ((swapRaised c p).corner d).banks = if d = c then (p.corner c).banks.swap else (p.corner d).banks := by
  rw [swapRaised, raise_corner, putReason_corner_banks, Part.corner_modCorner]
  split <;> rfl

/-- Outside ENGAGED the supervisor leaves the corner whose reason goes (R122, R124). -/
theorem swapRaised_corner_self {c : Corner} {p : Part} (h : p.control ≠ .engaged) :
    (swapRaised c p).corner c = acted .swapped (p.corner c) := by
  rw [swapRaised, raise_corner, putReason, supervise_corner_self, Part.modCorner_control, Part.modCorner_control,
    decide_eq_false h, Part.corner_modCorner_self, Part.corner_modCorner_self]
  rfl

theorem onlySupervisory_swapRaised (c : Corner) (p : Part) : OnlySupervisory p (swapRaised c p) :=
  ((OnlySupervisory.modCorner c _ p).trans (.putReason .map false c _)).trans (.raise _ _ _)

theorem onlySupervisory_swapAct (x : SwapOutcome) (c : Corner) (p : Part) : OnlySupervisory p (swapAct x c p) := by
  cases x with
  | swapped => exact (onlySupervisory_swapRaised c p).trans (.judgeLoaded _)
  | pending => exact .modCorner c _ p
  | _ => exact .refl p

theorem beside_swapAct {c d : Corner} (h : c ≠ d) (x : SwapOutcome) (p : Part) : Beside c p (swapAct x d p) := by
  cases x with
  | swapped =>
    exact ((((Beside.modCorner h _ p).trans (.modCorner h _ _)).trans (.supervise h _)).trans (.raise c _ _ _)).trans
      (.judgeLoaded c _)
  | pending => exact .modCorner h _ p
  | _ => exact .refl c p

theorem swapAct_corner_self {x : SwapOutcome} {c : Corner} {p : Part} (h : x = .swapped → p.control ≠ .engaged) :
    ∃ m, (swapAct x c p).corner c = { acted x (p.corner c) with motion := m } := by
  cases x with
  | swapped =>
    obtain ⟨-, m, hm⟩ := Beside.judgeLoaded c (swapRaised c p)
    exact ⟨m, hm.trans (by rw [swapRaised_corner_self (h rfl)])⟩
  | pending => exact ⟨_, Part.corner_modCorner_self _ _ _⟩
  | _ => exact ⟨_, rfl⟩

theorem swapAct_events {x : SwapOutcome} (h : x ≠ .swapped) (c : Corner) (p : Part) : (swapAct x c p).events = p.events := by
  cases x with
  | swapped => contradiction
  | _ => rfl

/-! ## The loaded condition through a swap (R113) -/

/-- The control state is in UNLOADED or STANDBY, where it follows the loaded condition. -/
def Free (p : Part) : Prop := p.control = .unloaded ∨ p.control = .standby

/-- The control state is as the loaded condition has it. -/
def Follows (p : Part) : Prop := p.control = if p.loaded then .standby else .unloaded

theorem free_of_follows {p : Part} (h : Follows p) : Free p := by
  unfold Follows at h
  split at h
  · exact .inr h
  · exact .inl h

theorem enterUnloaded_loaded (p : Part) : (enterUnloaded p).loaded = p.loaded :=
  Upkeep.loaded_congr (fun c => by rw [enterUnloaded_corner_banks]) (enterUnloaded_schedule p)

theorem follows_judgeLoaded {p : Part} (h : Free p) : Follows (judgeLoaded p) := by
  unfold Follows
  rcases h with hc | hc
  · rw [judgeLoaded_unloaded hc]
    cases hl : p.loaded with
    | true => exact (if_pos hl).symm
    | false => simp [hl, hc]
  · rw [judgeLoaded_standby hc]
    cases hl : p.loaded with
    | true => simp [hl, hc]
    | false =>
      have hstays : (enterUnloaded p).loaded = false := (enterUnloaded_loaded p).trans hl
      simp only [Bool.false_eq_true, if_false, hstays]
      rfl

theorem follows_swapEffect {c : Corner} {p : Part} (h : Free p) : Follows (swapEffect c p) :=
  follows_judgeLoaded (p := swapRaised c p) (by rwa [Free, swapRaised_control])

theorem swapAct_pending_loaded (c : Corner) (p : Part) : (swapAct .pending c p).loaded = p.loaded := by
  refine Upkeep.loaded_congr (fun d => ?_) rfl
  rw [swapAct, Part.corner_modCorner]
  split
  next h => rw [h]; rfl
  next => rfl

theorem follows_swapAct (x : SwapOutcome) (c : Corner) {p : Part} (h : Follows p) : Follows (swapAct x c p) := by
  cases x with
  | swapped => exact follows_swapEffect (free_of_follows h)
  | pending => rwa [Follows, swapAct_pending_loaded]
  | _ => exact h

theorem free_swapAct (x : SwapOutcome) (c : Corner) {p : Part} (h : Free p) : Free (swapAct x c p) := by
  cases x with
  | swapped => exact free_of_follows (follows_swapEffect h)
  | _ => exact h

theorem swapAct_control (x : SwapOutcome) (c : Corner) {p : Part} (h : ¬ Free p) : (swapAct x c p).control = p.control := by
  cases x with
  | swapped =>
    obtain ⟨hu, hs⟩ := not_or.mp h
    rw [← swapRaised_control c p] at hu hs ⊢
    exact congrArg Part.control (judgeLoaded_eq_self hu hs)
  | _ => rfl

/-- A swap never unloads a part: the bank it names is ACTIVE (R113, R143). -/
theorem swapRaised_loaded {c : Corner} {p : Part} (h : p.loaded = true) : (swapRaised c p).loaded = true := by
  rw [← h]
  refine Upkeep.loaded_congr (fun d => ?_) (swapRaised_schedule c p)
  have hused : (p.corner d).banks.inUse.isSome = true := (inUse_isSome_iff _).mpr (((loaded_iff p).mp h).1 d)
  rw [swapRaised_banks, hused]
  split
  · rw [inUse_swap]
    rfl
  · exact hused

/-- From one part to another no motion record changes, and STANDBY stands for a loaded part. -/
structure MotionKept (p q : Part) : Prop where
  motion : ∀ d, (q.corner d).motion = (p.corner d).motion
  loaded : q.control = .standby → q.loaded = true

theorem motionKept_swapRaised {p q : Part} (h : MotionKept p q) (c : Corner) : MotionKept p (swapRaised c q) where
  motion d := (swapRaised_motion c d q).trans (h.motion d)
  loaded hc := swapRaised_loaded (h.loaded (by rwa [swapRaised_control] at hc))

theorem motionKept_judgeLoaded {p q : Part} (h : MotionKept p q) : MotionKept p (judgeLoaded q) := by
  unfold judgeLoaded
  split
  · split
    next hl => exact ⟨h.motion, fun _ => hl⟩
    next => exact h
  next hc =>
    rw [if_pos (h.loaded hc)]
    exact h
  · exact h

theorem motionKept_swapAct {p q : Part} (h : MotionKept p q) (x : SwapOutcome) (c : Corner) : MotionKept p (swapAct x c q) := by
  cases x with
  | swapped => exact motionKept_judgeLoaded (motionKept_swapRaised h c)
  | pending =>
    refine ⟨fun d => ?_, fun hc => (swapAct_pending_loaded c q).trans (h.loaded hc)⟩
    rw [← h.motion d, swapAct, Part.corner_modCorner]
    split
    next hd => rw [hd]; rfl
    next => rfl
  | _ => exact h

/-! ## The four corners together -/

/-- What MAP_SWAP does with these outcomes (R142). -/
def swapAll (outcome : Corner → SwapOutcome) (p : Part) : Part := forCorners (fun c => swapAct (outcome c) c) p

/-- What one corner's operation establishes where a condition holds that every operation keeps, holds after the four. -/
theorem forCorners_establishes_from {P R : Part → Prop} {f : Corner → Part → Part} (condition : ∀ c q, R q → R (f c q))
    (keeps : ∀ c q, P q → P (f c q)) {d : Corner} (own : ∀ q, R q → P (f d q)) {p : Part} (hp : R p) :
    P (forCorners f p) := by
  unfold forCorners
  cases d with
  | fl => exact keeps _ _ (keeps _ _ (keeps _ _ (own _ hp)))
  | fr => exact keeps _ _ (keeps _ _ (own _ (condition _ _ hp)))
  | rl => exact keeps _ _ (own _ (condition _ _ (condition _ _ hp)))
  | rr => exact own _ (condition _ _ (condition _ _ (condition _ _ hp)))

section All

variable (outcome : Corner → SwapOutcome) (p : Part)

theorem onlySupervisory_swapAll : OnlySupervisory p (swapAll outcome p) :=
  .forCorners (fun c q => onlySupervisory_swapAct (outcome c) c q) p

theorem swapAll_control_of_not_free (h : ¬ Free p) : (swapAll outcome p).control = p.control := by
  refine forCorners_keeps (P := fun q => q.control = p.control) (fun c q hq => ?_) rfl
  exact (swapAct_control (outcome c) c (by rwa [Free, hq])).trans hq

theorem follows_swapAll {d : Corner} (hd : outcome d = .swapped) (h : Free p) : Follows (swapAll outcome p) := by
  refine forCorners_establishes_from (d := d) (fun c q hq => free_swapAct (outcome c) c hq)
    (fun c q hq => follows_swapAct (outcome c) c hq) (fun q hq => ?_) h
  rw [hd]
  exact follows_swapEffect hq

theorem swapAll_events (h : ∀ c, outcome c ≠ .swapped) : (swapAll outcome p).events = p.events :=
  forCorners_same Part.events (fun c q => swapAct_events (h c) c q) p

theorem swapAll_motion (h : p.control = .standby → p.loaded = true) (c : Corner) :
    ((swapAll outcome p).corner c).motion = (p.corner c).motion := by
  have hself : MotionKept p p := ⟨fun _ => rfl, h⟩
  have hkept : MotionKept p (swapAll outcome p) :=
    forCorners_keeps (P := MotionKept p) (fun d q hq => motionKept_swapAct hq (outcome d) d) hself
  exact hkept.motion c

theorem swapAll_corner {c : Corner} (h : outcome c = .swapped → p.control ≠ .engaged) :
    ∃ m, (swapAll outcome p).corner c = { acted (outcome c) (p.corner c) with motion := m } := by
  obtain ⟨q, ⟨honly, m, hq⟩, -, m', hafter⟩ :=
    Beside.forCorners (fun {_ d} q hd => beside_swapAct hd (outcome d) q) c p
  obtain ⟨m'', hself⟩ := swapAct_corner_self (c := c) (p := q) fun hs => mt honly.engaged.mp (h hs)
  refine ⟨m', hafter.trans ?_⟩
  rw [hself, hq]
  cases outcome c <;> rfl

theorem pendingEvent_swapAll {c : Corner} (hc : outcome c = .swapped) : pendingEvent (swapAll outcome p) (.mapSwapped c) := by
  refine forCorners_establishes_from (R := fun _ => True) (P := fun q => pendingEvent q (.mapSwapped c)) (d := c)
    (fun _ _ _ => trivial) (fun d q hq => (onlySupervisory_swapAct (outcome d) d q).events _ hq) (fun q _ => ?_) trivial
  rw [hc]
  exact (OnlySupervisory.judgeLoaded _).events _ (pendingEvent_raise_self _ _ _)

end All

/-! ## The handler (R142) -/

theorem swapCase_eq (p : Part) (isNamed : Bool) (c : Corner) : swapCase p isNamed c = (swapOutcome p isNamed c).code.toNat := by
  unfold swapCase swapOutcome
  cases isNamed with
  | false => rfl
  | true =>
    simp only [Bool.true_eq_false, if_false, Bool.not_true, Bool.false_eq_true, shadowBank, apply_ite SwapOutcome.code,
      apply_ite BitVec.toNat]
    rfl

theorem swapCase_byte (p : Part) (isNamed : Bool) (c : Corner) :
    BitVec.ofNat 8 (swapCase p isNamed c) = (swapOutcome p isNamed c).code := by
  rw [swapCase_eq, BitVec.ofNat_toNat, BitVec.setWidth_eq]

theorem swapCase_eq_one (p : Part) (isNamed : Bool) (c : Corner) :
    swapCase p isNamed c = 1 ↔ swapOutcome p isNamed c = .swapped := by
  rw [swapCase_eq]
  cases swapOutcome p isNamed c <;> decide

theorem swapCase_eq_two (p : Part) (isNamed : Bool) (c : Corner) :
    swapCase p isNamed c = 2 ↔ swapOutcome p isNamed c = .pending := by
  rw [swapCase_eq]
  cases swapOutcome p isNamed c <;> decide

theorem control_of_swapped {p : Part} {isNamed : Bool} {c : Corner} (h : swapOutcome p isNamed c = .swapped) :
    p.control ≠ .engaged := by
  intro hc
  simp only [swapOutcome, hc, or_true, if_true] at h
  repeat' split at h
  all_goals exact nomatch h

theorem control_of_pending {p : Part} {isNamed : Bool} {c : Corner} (h : swapOutcome p isNamed c = .pending) : ¬ Free p := by
  rintro (hc | hc)
  all_goals
    simp only [swapOutcome, hc, reduceCtorEq, or_self, if_false] at h
    repeat' split at h
    all_goals exact nomatch h

/-- The outcomes of a MAP_SWAP with this mask (R142). -/
def outcomes (m : Byte) (p : Part) (c : Corner) : SwapOutcome := swapOutcome p (named m c) c

theorem cornersOf_get (m : Byte) (c : Corner) : (cornersOf m).get c = named m c := by cases c <;> rfl

theorem maskNamesCorners_iff (m : Byte) : maskNamesCorners m = true ↔ 1 ≤ m.toNat ∧ m.toNat ≤ 15 := by
  simp only [maskNamesCorners, Bool.and_eq_true, decide_eq_true_eq]
  omega

theorem mapSwap_of_malformed {args : List Byte} (h : ∀ m, args = [m] → m.toNat = 0 ∨ 16 ≤ m.toNat) (p : Part) :
    mapSwap args p = (p, .refusedArgument []) := by
  unfold mapSwap
  split
  next m =>
    refine if_neg fun hm => ?_
    obtain ⟨hlow, hhigh⟩ := (maskNamesCorners_iff m).mp hm
    have hout := h m rfl
    omega
  next => rfl

theorem mapSwap_eq {m : Byte} (hlow : 1 ≤ m.toNat) (hhigh : m.toNat ≤ 15) (p : Part) :
    mapSwap [m] p = if Corner.all.any (fun c => decide (outcomes m p c = .pending) || decide (outcomes m p c = .swapped)) then
      (swapAll (outcomes m p) p, .done (Corner.all.map fun c => (outcomes m p c).code))
      else (p, .refusedState (Corner.all.map fun c => (outcomes m p c).code)) := by
  simp only [mapSwap, (maskNamesCorners_iff m).mpr ⟨hlow, hhigh⟩, if_true, cornersOf_get]
  rfl

theorem any_all (test : Corner → Bool) : Corner.all.any test = true ↔ ∃ c, test c = true := by
  rw [List.any_eq_true]
  exact exists_congr fun c => and_iff_right (by cases c <;> decide)

/-- A corner takes effect at once or is marked: the outcomes act (R142). -/
theorem mapSwap_of_some {m : Byte} (hlow : 1 ≤ m.toNat) (hhigh : m.toNat ≤ 15) {p : Part} {c : Corner}
    (h : outcomes m p c = .swapped ∨ outcomes m p c = .pending) :
    mapSwap [m] p = (swapAll (outcomes m p) p, .done (Corner.all.map fun c => (outcomes m p c).code)) := by
  rw [mapSwap_eq hlow hhigh, if_pos ((any_all _).mpr ⟨c, ?_⟩)]
  rwa [Bool.or_eq_true, decide_eq_true_eq, decide_eq_true_eq, or_comm]

theorem mapSwap_of_none {m : Byte} (hlow : 1 ≤ m.toNat) (hhigh : m.toNat ≤ 15) {p : Part}
    (h : ∀ c, outcomes m p c ≠ .swapped ∧ outcomes m p c ≠ .pending) :
    mapSwap [m] p = (p, .refusedState (Corner.all.map fun c => (outcomes m p c).code)) := by
  rw [mapSwap_eq hlow hhigh, if_neg fun hany => ?_]
  obtain ⟨c, hc⟩ := (any_all _).mp hany
  rw [Bool.or_eq_true, decide_eq_true_eq, decide_eq_true_eq] at hc
  exact hc.elim (h c).2 (h c).1

/-! ## The order taken -/

/-- The effect of a MAP_SWAP with this mask, its outcomes judged on the part before it (R142). -/
def swapOrder (m : Byte) (p : Part) : Part := swapAll (outcomes m p) p

section Answer

variable {o : OrderIn} {m : Byte} {s : State} (ht : takesOrders s.part) (ho : o.args = [m]) (hlow : 1 ≤ m.toNat)
  (hhigh : m.toNat ≤ 15)

include ht ho hlow hhigh

theorem answers_mapSwap {c : Corner} (h : outcomes m s.part c = .swapped ∨ outcomes m s.part c = .pending) :
    answers (.mapSwap o) s (afterOrder o 0x23 0 0 (Corner.all.map fun c => (outcomes m s.part c).code) (swapOrder m) s.part) := by
  refine answers_of_handler rfl ht ?_ fun p => (onlySupervisory_swapAll _ p).straps
  rw [ho]
  exact mapSwap_of_some hlow hhigh (p := goodFrame .s s.part) h

theorem answers_mapSwap_refused (h : ∀ c, outcomes m s.part c ≠ .swapped ∧ outcomes m s.part c ≠ .pending) :
    answers (.mapSwap o) s (afterOrder o 0x23 3 1 (Corner.all.map fun c => (outcomes m s.part c).code) id s.part) := by
  refine answers_of_handler rfl ht ?_ fun _ => rfl
  rw [ho]
  exact mapSwap_of_none hlow hhigh (p := goodFrame .s s.part) h

end Answer

theorem placeReply_loaded (f : Frame) (p : Part) : (placeReply f p).loaded = p.loaded :=
  Upkeep.loaded_congr (fun c => by rw [placeReply_corner]) (placeReply_schedule f p)

/-- Settles O34: outcome by outcome, with the loaded condition judged after each swap. -/
theorem mapSwap : Obligations.MapSwap := by
  intro o s ht
  refine ⟨fun h => answers_of_handler rfl ht (mapSwap_of_malformed h _) fun _ => rfl, ?_⟩
  rintro m outcome ho hlow hhigh rfl
  simp only [swapCase_byte, Ne, swapCase_eq_one, swapCase_eq_two]
  refine ⟨fun h => answers_mapSwap_refused ht ho hlow hhigh h, ?_⟩
  rintro ⟨c, hc⟩
  refine ⟨_, answers_mapSwap ht ho hlow hhigh hc, rfl, ?_⟩
  dsimp only
  simp only [afterOrder_corners, afterOrder_corner, afterOrder_events, pendingEvent,
    show ∀ data, (afterOrder o 0x23 0 0 data (swapOrder m) s.part).control = (swapOrder m (goodFrame .s s.part)).control from
      fun data => placeReply_control _ _,
    show ∀ data, (afterOrder o 0x23 0 0 data (swapOrder m) s.part).loaded = (swapOrder m (goodFrame .s s.part)).loaded from
      fun data => placeReply_loaded _ _]
  refine ⟨afterOrder_congr _ _ _ _ _ (onlySupervisory_swapAll _ _).frame, fun hu hs => ?_, fun hfree => ?_, fun h => ?_,
    fun d => ?_⟩
  · exact swapAll_control_of_not_free _ _ (not_or.mpr ⟨hu, hs⟩)
  · have hswapped : outcomes m s.part c = .swapped := hc.resolve_right fun hp => control_of_pending hp hfree
    exact follows_swapAll _ (goodFrame .s s.part) hswapped hfree
  · exact swapAll_events _ (goodFrame .s s.part) h
  · obtain ⟨n, hn⟩ : ∃ n, (swapOrder m (goodFrame .s s.part)).corner d =
        { acted (outcomes m s.part d) (s.part.corner d) with motion := n } := swapAll_corner _ _ control_of_swapped
    refine ⟨?_, fun h => swapAll_motion _ (goodFrame .s s.part) h d, fun hp => ?_, fun hs => ?_, fun hs hp => ?_⟩
    · rw [hn]
      exact acted_rest _ _ n
    · rw [hn, outcomes, hp]
      rfl
    · obtain ⟨hactive, hmark, hbanks⟩ := swapped_swap (s.part.corner d).banks
      refine ⟨pendingEvent_swapAll _ (goodFrame .s s.part) hs, ?_⟩
      rw [hn, outcomes, hs]
      refine ⟨rfl, hactive, hmark, fun id => ?_⟩
      obtain ⟨hwords, -, hstates⟩ := hbanks id
      exact ⟨hwords, hstates⟩
    · rw [hn]
      exact (congrArg CornerPart.banks (acted_of_none hs hp (s.part.corner d)) :)

end Sys2Proof.MapSwaps

/-! # Loading a map (R133, R135 to R139, R164) -/

namespace Sys2Proof.MapLoads

open Sys2Proof Sys2Proof.Machine Sys2Proof.Claims Sys2Proof.Estimation Sys2Proof.GainSchedule Sys2Proof.DamperMaps
  Sys2Proof.ParityFailures Sys2Proof.TestStart Sys2Proof.MapSwaps

/-! ## Sets of corners (R135, R186) -/

theorem anyCorner_iff (q : Quad Bool) : anyCorner q = true ↔ ∃ c, q.get c = true := by
  constructor
  · intro h
    simp only [anyCorner, Bool.or_eq_true] at h
    rcases h with ((h | h) | h) | h
    · exact ⟨.fl, h⟩
    · exact ⟨.fr, h⟩
    · exact ⟨.rl, h⟩
    · exact ⟨.rr, h⟩
  · rintro ⟨c, h⟩
    cases c <;> simp_all [anyCorner, Quad.get]

theorem not_anyCorner {q : Quad Bool} (h : ∀ c, q.get c = false) : ¬ anyCorner q = true := by
  rw [anyCorner_iff]
  rintro ⟨c, hc⟩
  exact absurd (hc.symm.trans (h c)) (by decide)

theorem get_whichCorners (q : Quad Bool) (test : Corner → Bool) (c : Corner) :
    (whichCorners q test).get c = (q.get c && test c) := by
  cases c <;> rfl

/-- A named corner meets the test. -/
theorem anyCorner_named (m : Byte) (test : Corner → Bool) :
    anyCorner (whichCorners (cornersOf m) test) = true ↔ ∃ c, named m c = true ∧ test c = true := by
  simp only [anyCorner_iff, get_whichCorners, cornersOf_get, Bool.and_eq_true]

/-- A mask that names nothing beyond the four corners is read back from the set it names (R186). -/
theorem cornerMask_cornersOf {m : Byte} (h : m.toNat ≤ 15) : cornerMask (cornersOf m) = m := by
  have hsmall : ∀ n : Fin 16, cornerMask (cornersOf (BitVec.ofNat 8 n)) = BitVec.ofNat 8 n := by decide
  simpa using hsmall ⟨m.toNat, by omega⟩

/-! ## The orders refused -/

/-- An order that its handler refuses leaves its reply alone. -/
theorem answers_of_refusal {o : OrderIn} {i : Instr} {code result reason : Byte} {args data : List Byte} {handler : Handler}
    {s : State} (hexec : exec i s = s.onPart (orderArrival o code handler)) (ht : takesOrders s.part) (ho : o.args = args)
    (hh : handler args (goodFrame .s s.part) = (goodFrame .s s.part, .reply result reason data)) :
    answers i s (afterOrder o code result reason data id s.part) :=
  answers_of_handler hexec ht (ho ▸ hh) fun _ => rfl

/-! ## The banks of each corner reworked -/

/-- The part with each corner's banks reworked by that corner's operation. -/
def bankwise (f : Corner → Banks → Banks) (p : Part) : Part :=
  { p with corners := .ofCorners fun c => (p.corner c).modBanks (f c) }

theorem bankwise_corner (f : Corner → Banks → Banks) (c : Corner) (p : Part) :
    (bankwise f p).corner c = { p.corner c with banks := f c (p.corner c).banks } := Quad.get_ofCorners _ _

theorem forCorners_modBanks (f : Corner → Banks → Banks) (p : Part) :
    forCorners (fun c q => q.modCorner c (CornerPart.modBanks (f c))) p = bankwise f p := rfl

/-- The part with the banks of the load group's corners reworked. -/
def groupwise (f : Banks → Banks) (p : Part) : Part := bankwise (fun c => if p.store.group.get c then f else id) p

theorem groupwise_corner_of_member {p : Part} {c : Corner} (h : p.store.group.get c = true) (f : Banks → Banks) :
    (groupwise f p).corner c = { p.corner c with banks := f (p.corner c).banks } := by
  rw [groupwise, bankwise_corner, if_pos h]

theorem groupwise_corner_of_not_member {p : Part} {c : Corner} (h : p.store.group.get c = false) (f : Banks → Banks) :
    (groupwise f p).corner c = p.corner c := by
  rw [groupwise, bankwise_corner, h]
  rfl

theorem modCorner_of_member (f : Banks → Banks) (c : Corner) (p : Part) :
    (if p.store.group.get c then p.modCorner c (CornerPart.modBanks f) else p) =
      p.modCorner c (CornerPart.modBanks (if p.store.group.get c then f else id)) := by
  split
  · rfl
  · exact congrArg (fun x => { p with corners := x }) (Quad.set_get_self p.corners c).symm

theorem forCorners_groupwise (f : Banks → Banks) (p : Part) :
    forCorners (fun c q => if q.store.group.get c then q.modCorner c (CornerPart.modBanks f) else q) p = groupwise f p := by
  simp only [modCorner_of_member]
  rfl

/-! ## MAP_OPEN (R133, R135, R136) -/

@[simp] theorem modBank_swapPending (id : BankId) (f : Bank → Bank) (k : Banks) :
    (k.modBank id f).swapPending = k.swapPending := by
  cases id <;> rfl

/-- A bank of a corner that MAP_OPEN does not name: no load goes on in it (R136). -/
def dropped (b : Bank) : Bank := if b.state = .loading then { b with state := .empty } else b

theorem dropped_words (b : Bank) : (dropped b).words = b.words := by
  unfold dropped
  split <;> rfl

theorem dropped_state (b : Bank) : (dropped b).state = if b.state = .loading then .empty else b.state := by
  unfold dropped
  split <;> rfl

theorem get_opened_unnamed (k : Banks) (id : BankId) : (k.opened false).get id = dropped (k.get id) := by
  cases id <;> rfl

theorem get_opened_shadow (k : Banks) :
    (k.opened true).get k.shadow = { k.get k.shadow with state := .loading, check := none } := get_modBank_self _ _ _

theorem get_opened_of_ne {k : Banks} {id : BankId} (h : id ≠ k.shadow) : (k.opened true).get id = k.get id :=
  get_modBank_of_ne h _ _

theorem opened_active (isNamed : Bool) (k : Banks) : (k.opened isNamed).active = k.active := by
  cases isNamed with
  | false => rfl
  | true => exact modBank_active _ _ _

theorem opened_swapPending (isNamed : Bool) (k : Banks) : (k.opened isNamed).swapPending = k.swapPending := by
  cases isNamed with
  | false => rfl
  | true => exact modBank_swapPending _ _ _

theorem opened_words (isNamed : Bool) (k : Banks) (id : BankId) : ((k.opened isNamed).get id).words = (k.get id).words := by
  cases isNamed with
  | false => rw [get_opened_unnamed, dropped_words]
  | true =>
    by_cases h : id = k.shadow
    · rw [h, get_opened_shadow]
    · rw [get_opened_of_ne h]

/-- The effect of a MAP_OPEN with this mask (R136). -/
def openLoad (m : Byte) (p : Part) : Part :=
  (bankwise (fun c => Banks.opened (named m c)) p).modStore fun k => { k with group := cornersOf m, pointer := 0 }

theorem openLoad_corner (m : Byte) (c : Corner) (p : Part) :
    (openLoad m p).corner c = { p.corner c with banks := (p.corner c).banks.opened (named m c) } := bankwise_corner _ _ _

theorem mapOpen_of_malformed {args : List Byte} (h : ∀ m, args = [m] → m.toNat = 0 ∨ 16 ≤ m.toNat) (p : Part) :
    mapOpen args p = (p, .refusedArgument []) := by
  unfold mapOpen
  split
  next m =>
    refine if_neg fun hm => ?_
    obtain ⟨hlow, hhigh⟩ := (maskNamesCorners_iff m).mp hm
    have hout := h m rfl
    omega
  next => rfl

section MapOpen

variable {m : Byte} {p : Part} (hlow : 1 ≤ m.toNat) (hhigh : m.toNat ≤ 15)

include hlow hhigh

theorem mapOpen_of_checking (h : ∃ c, named m c = true ∧ (shadowBank (p.corner c)).state = .checking) :
    mapOpen [m] p = (p, .busy [cornerMask
      (whichCorners (cornersOf m) fun c => decide ((shadowBank (p.corner c)).state = .checking))]) := by
  have hany := (anyCorner_named m fun c => decide ((shadowBank (p.corner c)).state = .checking)).mpr (by simpa using h)
  simp only [mapOpen, (maskNamesCorners_iff m).mpr ⟨hlow, hhigh⟩, if_true]
  exact if_pos hany

variable (hchecking : ∀ c, named m c = true → (shadowBank (p.corner c)).state ≠ .checking)

include hchecking

theorem mapOpen_of_no_checking : mapOpen [m] p =
    if anyCorner (whichCorners (cornersOf m) fun c => (p.corner c).banks.swapPending) then
      (p, .refusedState [cornerMask (whichCorners (cornersOf m) fun c => (p.corner c).banks.swapPending)])
    else (openLoad m p, .done [m, 0]) := by
  have hnone : ¬ anyCorner (whichCorners (cornersOf m) fun c => decide ((shadowBank (p.corner c)).state = .checking)) = true := by
    rw [anyCorner_named]
    rintro ⟨c, hc, hs⟩
    exact hchecking c hc (of_decide_eq_true hs)
  simp only [mapOpen, (maskNamesCorners_iff m).mpr ⟨hlow, hhigh⟩, if_true, cornerMask_cornersOf hhigh, cornersOf_get,
    forCorners_modBanks]
  exact if_neg hnone

theorem mapOpen_of_pending (h : ∃ c, named m c = true ∧ (p.corner c).banks.swapPending = true) :
    mapOpen [m] p =
      (p, .refusedState [cornerMask (whichCorners (cornersOf m) fun c => (p.corner c).banks.swapPending)]) := by
  rw [mapOpen_of_no_checking hlow hhigh hchecking, if_pos ((anyCorner_named _ _).mpr h)]

theorem mapOpen_of_free (h : ∀ c, named m c = true → (p.corner c).banks.swapPending = false) :
    mapOpen [m] p = (openLoad m p, .done [m, 0]) := by
  rw [mapOpen_of_no_checking hlow hhigh hchecking, if_neg]
  rw [anyCorner_named]
  rintro ⟨c, hc, hs⟩
  exact absurd (hs.symm.trans (h c hc)) (by decide)

end MapOpen

/-- Settles O30: each refusal, then the load opened corner by corner. -/
theorem mapOpen : Obligations.MapOpen := by
  intro o s ht
  refine ⟨fun m ho hlow hhigh => ⟨fun h => ?_, fun hchecking h => ?_, fun hfree => ?_⟩,
    fun h => answers_of_refusal rfl ht rfl (mapOpen_of_malformed h _)⟩
  · exact answers_of_refusal rfl ht ho (mapOpen_of_checking (p := goodFrame .s s.part) hlow hhigh h)
  · exact answers_of_refusal rfl ht ho (mapOpen_of_pending (p := goodFrame .s s.part) hlow hhigh hchecking h)
  · have hanswer : answers (.mapOpen o) s (afterOrder o 0x20 0 0 [m, 0] (openLoad m) s.part) := by
      refine answers_of_handler rfl ht ?_ fun _ => rfl
      rw [ho]
      exact mapOpen_of_free (p := goodFrame .s s.part) hlow hhigh (fun c hc => (hfree c hc).1) fun c hc => (hfree c hc).2
    refine ⟨_, hanswer, rfl, ?_, fun c => ?_⟩
    · dsimp only
      refine afterOrder_congr _ _ _ _ _ ?_
      rw [afterOrder_corners]
      rfl
    · dsimp only
      rw [afterOrder_corner, openLoad_corner, goodFrame_corner]
      refine ⟨rfl, opened_active _ _, opened_swapPending _ _, fun id => ⟨opened_words _ _ _, fun hc hid => ?_, fun hc hid => ?_,
        fun hc => ?_⟩⟩
      · subst hid
        rw [hc, get_opened_shadow]
        exact ⟨rfl, rfl⟩
      · rw [hc]
        exact get_opened_of_ne hid
      · rw [hc, get_opened_unnamed, dropped_state]

/-! ## MAP_DATA (R137, R138) -/

/-- The word at a place of a MAP_DATA is made of its two bytes (R191). -/
theorem getElem?_wordsOf (k : Nat) {bytes : List Byte} {hi lo : Byte} (hhi : bytes[2 * k]? = some hi)
    (hlo : bytes[2 * k + 1]? = some lo) : (wordsOf bytes)[k]? = some (hi ++ lo) := by
  induction k generalizing bytes with
  | zero =>
    match bytes, hhi, hlo with
    | a :: b :: rest, hhi, hlo =>
      cases hhi
      cases hlo
      rfl
  | succ k ih =>
    match bytes, hhi, hlo with
    | a :: b :: rest, hhi, hlo => exact ih hhi hlo

section Run

variable {words : List Word}

/-- A run of words leaves every other index. -/
theorem memRead_memWriteRun_outside {n : Nat} : ∀ {start : Nat} {m : WordMem}, memWf m = true →
    start + words.length ≤ Config.imageWords → n < start ∨ start + words.length ≤ n →
    memRead (memWriteRun start words m) n = memRead m n := by
  induction words with
  | nil =>
    intro start m hm hend hn
    rfl
  | cons w rest ih =>
    intro start m hm hend hn
    rw [List.length_cons] at hend hn
    rw [memWriteRun, ih (memWf_memWrite hm (by omega) _) (by omega) (by omega), memRead_memWrite _ _ _ _ hm,
      if_neg (by omega)]

/-- A run of words puts each at its index, intact. -/
theorem memRead_memWriteRun_inside {k : Nat} {x : Word} : ∀ {start : Nat} {m : WordMem}, memWf m = true →
    start + words.length ≤ Config.imageWords → words[k]? = some x →
    memRead (memWriteRun start words m) (start + k) = ⟨x, true⟩ := by
  induction words generalizing k with
  | nil =>
    intro start m hm hend hk
    exact nomatch hk
  | cons w rest ih =>
    intro start m hm hend hk
    rw [List.length_cons] at hend
    have hwritten : memWf (memWrite m start ⟨w, true⟩) = true := memWf_memWrite hm (by omega) _
    rw [memWriteRun]
    cases k with
    | zero =>
      cases hk
      rw [memRead_memWriteRun_outside hwritten (by omega) (by omega), memRead_memWrite _ _ _ _ hm, if_pos (Nat.add_zero start)]
    | succ k =>
      rw [Nat.add_comm k 1, ← Nat.add_assoc]
      exact ih hwritten (by omega) hk

end Run

theorem memWf_of_canonical {k : Banks} (h : k.canonical) (id : BankId) : memWf (k.get id).words = true := by
  cases id with
  | a => exact h.1
  | b => exact h.2

/-- A load changes words alone. -/
theorem get_load_rest (start : Nat) (words : List Word) (k : Banks) (id : BankId) :
    ((k.load start words).get id).state = (k.get id).state ∧ ((k.load start words).get id).check = (k.get id).check := by
  by_cases h : id = k.shadow
  · rw [h, Banks.load, get_modBank_self]
    exact ⟨rfl, rfl⟩
  · rw [Banks.load, get_modBank_of_ne h]
    exact ⟨rfl, rfl⟩

theorem get_load_shadow (start : Nat) (words : List Word) (k : Banks) :
    ((k.load start words).get k.shadow).words = memWriteRun start words (k.get k.shadow).words := by
  rw [Banks.load, get_modBank_self]

theorem memRead_load_of_not_written {start : Nat} {words : List Word} {k : Banks} (hk : k.canonical)
    (hend : start + words.length ≤ Config.imageWords) {id : BankId} {n : Nat}
    (h : id ≠ k.shadow ∨ n < start ∨ start + words.length ≤ n) :
    memRead ((k.load start words).get id).words n = memRead (k.get id).words n := by
  by_cases hid : id = k.shadow
  · rw [hid, get_load_shadow]
    exact memRead_memWriteRun_outside (memWf_of_canonical hk _) hend (h.resolve_left (not_not.mpr hid))
  · rw [Banks.load, get_modBank_of_ne hid]

/-- The effect of a MAP_DATA with these words from this index on (R138). -/
def loadWords (start : Nat) (words : List Word) (p : Part) : Part :=
  (groupwise (Banks.load start words) p).modStore fun k => { k with pointer := start + words.length }

theorem mapData_of_malformed {args : List Byte} (h : ∀ start count bytes, args = start :: count :: bytes →
    ¬ (1 ≤ count.toNat ∧ count.toNat ≤ 24 ∧ bytes.length = 2 * count.toNat)) (p : Part) :
    mapData args p = (p, .refusedArgument [u8 p.store.pointer]) := by
  unfold mapData
  split
  · exact if_pos (h _ _ _ rfl)
  · rfl

section MapData

variable {start count : Byte} {bytes : List Byte} {p : Part}
  (hform : 1 ≤ count.toNat ∧ count.toNat ≤ 24 ∧ bytes.length = 2 * count.toNat)

include hform

theorem mapData_out_of_sequence (h : (∀ c, p.store.group.get c = false) ∨ start.toNat ≠ p.store.pointer) :
    mapData (start :: count :: bytes) p = (p, .refusedSequence [u8 p.store.pointer]) := by
  rw [mapData, if_neg (not_not.mpr hform)]
  rcases h with h | h
  · exact if_pos (not_anyCorner h)
  · rw [if_pos h, ite_self]

variable (hgroup : ∃ c, p.store.group.get c = true) (hstart : start.toNat = p.store.pointer)

include hgroup hstart

theorem mapData_in_sequence : mapData (start :: count :: bytes) p =
    if 144 < start.toNat + count.toNat then (p, .refusedArgument [u8 p.store.pointer])
    else (loadWords start.toNat (wordsOf bytes) p, .done [u8 (start.toNat + count.toNat)]) := by
  have hwords : (wordsOf bytes).length = count.toNat := wordsOf_length _ _ hform.2.2
  rw [loadWords, hwords, ← forCorners_groupwise, mapData, if_neg (not_not.mpr hform),
    if_neg (not_not.mpr ((anyCorner_iff _).mpr hgroup)), if_neg (not_not.mpr hstart)]
  rfl

end MapData

/-- Settles O31: each refusal, then the words read back at a corner of the group. -/
theorem mapData : Obligations.MapData := by
  intro o s ht hcanonical
  refine ⟨fun h => answers_of_refusal rfl ht rfl (mapData_of_malformed h _), fun start count bytes ho hone hmost hlength =>
    ⟨fun h => ?_, fun hg hs hend => ?_, fun hg hs hend => ?_⟩⟩
  · exact answers_of_refusal rfl ht ho (mapData_out_of_sequence (p := goodFrame .s s.part) ⟨hone, hmost, hlength⟩ h)
  · have hcase := mapData_in_sequence (p := goodFrame .s s.part) ⟨hone, hmost, hlength⟩ hg hs
    exact answers_of_refusal rfl ht ho (hcase.trans (if_pos hend))
  · have hanswer : answers (.mapData o) s (afterOrder o 0x21 0 0 [u8 (start.toNat + count.toNat)]
        (loadWords start.toNat (wordsOf bytes)) s.part) := by
      refine answers_of_handler rfl ht ?_ fun _ => rfl
      rw [ho, mapData_in_sequence (p := goodFrame .s s.part) ⟨hone, hmost, hlength⟩ hg hs, if_neg (by omega)]
      rfl
    have hwords : (wordsOf bytes).length = count.toNat := wordsOf_length _ _ hlength
    have hend' : start.toNat + (wordsOf bytes).length ≤ Config.imageWords := hwords ▸ hend
    refine ⟨_, hanswer, rfl, ?_, fun c => ?_⟩
    · dsimp only
      refine afterOrder_congr _ _ _ _ _ ?_
      rw [afterOrder_corners, ← hwords]
      rfl
    · dsimp only
      rw [afterOrder_corner, loadWords, Part.modStore_corner]
      refine ⟨fun hc => groupwise_corner_of_not_member (p := goodFrame .s s.part) hc _, fun hc => ?_⟩
      rw [groupwise_corner_of_member (p := goodFrame .s s.part) hc, goodFrame_corner]
      refine ⟨rfl, modBank_active _ _ _, modBank_swapPending _ _ _, fun id => ?_⟩
      obtain ⟨hstate, hcheck⟩ := get_load_rest start.toNat (wordsOf bytes) (s.part.corner c).banks id
      refine ⟨hstate, hcheck, fun k hi lo hid hk hhi hlo => ?_, fun n hn => ?_⟩
      · subst hid
        rw [get_load_shadow]
        exact memRead_memWriteRun_inside (memWf_of_canonical (hcanonical c) _) hend' (getElem?_wordsOf k hhi hlo)
      · exact memRead_load_of_not_written (hcanonical c) hend' (hwords ▸ hn)

/-! ## MAP_CLOSE (R139, R164) -/

/-- The effect of an accepted MAP_CLOSE with this check value (R139). -/
def closeLoad (check : Word) (p : Part) : Part :=
  (groupwise (Banks.closed check) p).modStore fun k => { k with
    group := .fill false
    pointer := 0
    validation := some ⟨Corner.all.filter (fun c => k.group.get c), [], .fill .none⟩ }

theorem mapClose_of_malformed {args : List Byte} (h : args.length ≠ 2) (p : Part) :
    mapClose args p = (p, .refusedArgument []) := by
  unfold mapClose
  split
  · exact absurd rfl h
  · rfl

section MapClose

variable {k1 k0 : Byte} {p : Part}

theorem mapClose_without_load (h : ∀ c, p.store.group.get c = false) : mapClose [k1, k0] p = (p, .refusedSequence []) :=
  if_pos (not_anyCorner h)

variable (hgroup : ∃ c, p.store.group.get c = true)

include hgroup

theorem mapClose_with_load : mapClose [k1, k0] p =
    if p.store.pointer < 144 then (p, .invalidIncomplete [u8 p.store.pointer]) else (closeLoad (wordOf k1 k0) p, .held) := by
  rw [closeLoad, ← forCorners_groupwise, mapClose, if_neg (not_not.mpr ((anyCorner_iff _).mpr hgroup))]
  rfl

end MapClose

/-- Settles O32: each refusal, then the complete load whose order holds the slot. -/
theorem mapClose : Obligations.MapClose := by
  intro o s ht
  refine ⟨fun h => answers_of_refusal rfl ht rfl (mapClose_of_malformed h _), fun k1 k0 ho => ?_⟩
  have hcase := mapClose_with_load (k1 := k1) (k0 := k0) (p := goodFrame .s s.part)
  refine ⟨fun h => ?_, fun hg hshort => ?_, fun hg hfull => ?_⟩
  · exact answers_of_refusal rfl ht ho (mapClose_without_load (p := goodFrame .s s.part) h)
  · exact answers_of_refusal rfl ht ho ((hcase hg).trans (if_pos hshort))
  · have hcloses := (hcase hg).trans (if_neg (not_lt.mpr hfull))
    rw [← ho] at hcloses
    refine ⟨_, answers_of_held rfl ht hcloses, rfl, rfl, fun c => ⟨fun hc => ?_, fun hc => ?_⟩⟩
    · exact groupwise_corner_of_not_member (p := goodFrame .s s.part) hc _
    · exact groupwise_corner_of_member (p := goodFrame .s s.part) hc _

end Sys2Proof.MapLoads

/-! # Frames on the line, queues, transmitters and the arrival of orders (chapters 9 and 12) -/

namespace Sys2Proof.LinkPorts

open Sys2Proof Sys2Proof.Machine Sys2Proof.Claims

/-! ## A received run (R149, R187) -/

section Header

variable (dst src kind len : Byte) (rest : List Byte)

theorem lengthPasses_header :
    lengthPasses (dst :: src :: kind :: len :: rest) ↔ len.toNat ≤ 60 ∧ rest.length = len.toNat + 2 := by
  simp only [lengthPasses, List.length_cons, List.getElem?_cons_succ, List.getElem?_cons_zero, Option.some.injEq,
    exists_eq_left']
  omega

/-- Behind a header the check is formed over header and payload, and stands in the last two bytes. -/
theorem receive_header (h : lengthPasses (dst :: src :: kind :: len :: rest)) :
    receive (dst :: src :: kind :: len :: rest) =
      if rest.drop len.toNat = wordBytes (frameCheck (dst :: src :: kind :: len :: rest.take len.toNat)) then
        .good ⟨dst, src, kind, rest.take len.toNat⟩
      else .badCheck := by
  obtain ⟨hlen, hrest⟩ := (lengthPasses_header ..).mp h
  refine if_pos ?_
  simp only [List.length_cons]
  omega

end Header

/-- A run that passes the length test holds a header. -/
theorem exists_header {run : List Byte} (h : lengthPasses run) :
    ∃ dst src kind len rest, run = dst :: src :: kind :: len :: rest := by
  obtain ⟨hshort, -⟩ := h
  match run, hshort with
  | dst :: src :: kind :: len :: rest, _ => exact ⟨dst, src, kind, len, rest, rfl⟩

theorem receive_of_not_lengthPasses {run : List Byte} (h : ¬ lengthPasses run) : receive run = .badLength := by
  unfold receive
  split
  next dst src kind len rest =>
    refine if_neg fun ⟨_, _, hlen, hrun⟩ => h ((lengthPasses_header ..).mpr ⟨hlen, ?_⟩)
    simpa using hrun
  · rfl

/-- A run that passes the length test is judged by its last two bytes. -/
theorem receive_of_lengthPasses {run : List Byte} (h : lengthPasses run) : ∃ f, receive run =
    if run.drop (run.length - 2) = wordBytes (frameCheck (run.take (run.length - 2))) then .good f else .badCheck := by
  obtain ⟨dst, src, kind, len, rest, rfl⟩ := exists_header h
  have hcut : (dst :: src :: kind :: len :: rest).length - 2 = len.toNat + 4 := by
    have hrest := ((lengthPasses_header ..).mp h).2
    simp only [List.length_cons]
    omega
  exact ⟨_, by rw [receive_header _ _ _ _ _ h, hcut]; rfl⟩

theorem receive_eq_badLength_iff (run : List Byte) : receive run = .badLength ↔ ¬ lengthPasses run := by
  refine ⟨fun hr h => ?_, receive_of_not_lengthPasses⟩
  obtain ⟨f, hf⟩ := receive_of_lengthPasses h
  rw [hf] at hr
  split at hr <;> cases hr

theorem receive_eq_badCheck_iff (run : List Byte) : receive run = .badCheck ↔
    lengthPasses run ∧ run.drop (run.length - 2) ≠ wordBytes (frameCheck (run.take (run.length - 2))) := by
  by_cases h : lengthPasses run
  · obtain ⟨f, hf⟩ := receive_of_lengthPasses h
    simp [hf, h]
  · simp [receive_of_not_lengthPasses h, h]

/-- Settles O16: the two tests of R149 on the run, then what each failure counts at its port. -/
theorem badRunsDropped : Obligations.BadRunsDropped := by
  refine ⟨receive_eq_badLength_iff, receive_eq_badCheck_iff, fun instant q run s => ⟨fun h => ?_, fun h => ?_⟩⟩
  all_goals
    simp only [answers, exec, execFrameReceived, State.onPart_eq, receiveRun, h]
    cases q <;> rfl

/-! ## The bytes of frames and fields (R186 to R188) -/

theorem wordOf_extract (w : Word) : wordOf (w.extractLsb' 8 8) (w.extractLsb' 0 8) = w := by
  rw [wordOf, BitVec.extractLsb'_append_extractLsb'_eq_extractLsb' (by decide)]
  exact BitVec.extractLsb'_eq_self

theorem decodeCyc_bytes (x : CycPayload) : decodeCyc x.bytes = some x := by
  simp only [CycPayload.bytes, wordBytes, List.cons_append, List.nil_append, decodeCyc, wordOf_extract]

theorem receive_bytes {f : Frame} (h : f.payload.length ≤ 60) : receive f.bytes = .good f := by
  have hlen : (u8 f.payload.length).toNat = f.payload.length := by
    rw [u8, BitVec.toNat_ofNat]
    omega
  have hpasses : lengthPasses f.bytes := by
    refine (lengthPasses_header ..).mpr ?_
    rw [hlen]
    simp [h, wordBytes]
  refine (receive_header _ _ _ _ _ hpasses).trans ?_
  simp [hlen, Frame.body]

/-- Settles O14: the length byte is the payload's length, so the check stands where `receive` looks for it. -/
theorem framesReadBack : Obligations.FramesReadBack := ⟨fun _ => receive_bytes, decodeCyc_bytes⟩

/-! ## The arbiters (R153, R156) -/

section Arbiters

variable {f : Frame} {rest : List Frame} {p : Part}

theorem arbitrateS_of_sending (h : p.portS.sending.isSome = true) : arbitrateS p = p := if_pos h

theorem arbitrateW_of_sending (h : p.portW.sending.isSome = true) : arbitrateW p = p := if_pos h

section PortS

variable (hs : p.portS.sending = none)

include hs

theorem arbitrateS_reply (hr : p.link.replies = f :: rest) :
    arbitrateS p = beginSending .s f (p.modLink fun k => { k with replies := rest }) := by
  simp only [arbitrateS, hs, hr, Option.isSome_none, Bool.false_eq_true, if_false]

theorem arbitrateS_chassisBound (hr : p.link.replies = []) (hc : p.link.chassisBound = f :: rest) :
    arbitrateS p = beginSending .s f (p.modLink fun k => { k with chassisBound := rest }) := by
  simp only [arbitrateS, hs, hr, hc, Option.isSome_none, Bool.false_eq_true, if_false]

theorem arbitrateS_report (hr : p.link.replies = []) (hc : p.link.chassisBound = []) (hf : p.link.report = some f) :
    arbitrateS p = beginSending .s f (p.modLink fun k => { k with report := none }) := by
  simp only [arbitrateS, hs, hr, hc, hf, Option.isSome_none, Bool.false_eq_true, if_false]

theorem arbitrateS_without_frame (hr : p.link.replies = []) (hc : p.link.chassisBound = []) (hf : p.link.report = none) :
    arbitrateS p = p := by
  simp only [arbitrateS, hs, hr, hc, hf, Option.isSome_none, Bool.false_eq_true, if_false]

end PortS

section PortW

variable (hw : p.portW.sending = none)

include hw

theorem arbitrateW_substitute (hf : p.link.substitute = some f) :
    arbitrateW p = beginSending .w f (p.modLink fun k => { k with substitute := none }) := by
  simp only [arbitrateW, hw, hf, Option.isSome_none, Bool.false_eq_true, if_false]

theorem arbitrateW_wheelBound (hf : p.link.substitute = none) (hq : p.link.wheelBound = f :: rest) :
    arbitrateW p = beginSending .w f (p.modLink fun k => { k with wheelBound := rest }) := by
  simp only [arbitrateW, hw, hf, hq, Option.isSome_none, Bool.false_eq_true, if_false]

theorem arbitrateW_without_frame (hf : p.link.substitute = none) (hq : p.link.wheelBound = []) : arbitrateW p = p := by
  simp only [arbitrateW, hw, hf, hq, Option.isSome_none, Bool.false_eq_true, if_false]

end PortW

end Arbiters

/-- The part at the completion of a transmission, before the port's arbiter chooses. -/
def completed (q : Port) (x : Sending) (p : Part) : Part :=
  (p.reach x.doneAt).modPort q fun k => { k with sending := none }

theorem answers_transmissionComplete {q : Port} {x : Sending} {s : State} {p : Part}
    (h : (s.part.port q).sending = some x) (hp : arbitrate q (completed q x s.part) = p) :
    answers (.transmissionComplete q) s p := by
  subst hp
  simp only [answers, exec, execTransmissionComplete, State.onPart_eq, h]
  rfl

/-- Settles O17: each arbiter's choice, at the part whose transmitter has just become IDLE. -/
theorem transmissionCompletes : Obligations.TransmissionCompletes := by
  refine fun x s => ⟨fun h => ?_, fun h => ?_⟩
  · have complete : ∀ {p}, arbitrateS (completed .s x s.part) = p → answers (.transmissionComplete .s) s p :=
      answers_transmissionComplete (q := .s) (s := s) h
    have idle : (completed .s x s.part).portS.sending = none := rfl
    exact ⟨fun f rest hr => complete (arbitrateS_reply idle hr),
      fun f rest hr hc => complete (arbitrateS_chassisBound idle hr hc),
      fun f hr hc hf => complete (arbitrateS_report idle hr hc hf),
      fun hr hc hf => complete (arbitrateS_without_frame idle hr hc hf)⟩
  · have complete : ∀ {p}, arbitrateW (completed .w x s.part) = p → answers (.transmissionComplete .w) s p :=
      answers_transmissionComplete (q := .w) (s := s) h
    have idle : (completed .w x s.part).portW.sending = none := rfl
    exact ⟨fun f hf => complete (arbitrateW_substitute idle hf),
      fun f rest hf hq => complete (arbitrateW_wheelBound idle hf hq),
      fun hf hq => complete (arbitrateW_without_frame idle hf hq)⟩

/-! ## Placing frames (R152 to R156) -/

theorem modLink_eq_self {g : Link → Link} {p : Part} (h : g p.link = p.link) : p.modLink g = p := by
  rw [Part.modLink, h]

section Placing

variable {f : Frame} {p : Part}

/-- A frame that joins an empty queue and leaves it at once leaves the queues as they were. -/
theorem beginSending_of_passing {q : Port} {join leave : Link → Link} (h : leave (join p.link) = p.link) :
    beginSending q f ((p.modLink join).modLink leave) = beginSending q f p :=
  congrArg (beginSending q f) (modLink_eq_self (g := leave ∘ join) h)

theorem placeWheelBound_of_room (h : p.link.wheelBound.length < 16) :
    placeWheelBound f p = arbitrateW (p.modLink fun k => { k with wheelBound := k.wheelBound ++ [f] }) := if_pos h

theorem placeWheelBound_of_full (h : p.link.wheelBound.length = 16) :
    placeWheelBound f p = countPort .w (fun k => { k with forwardDrop := inc k.forwardDrop }) p := if_neg h.not_lt

theorem placeWheelBound_of_idle (hw : p.portW.sending = none) (hq : p.link.wheelBound = []) (hf : p.link.substitute = none) :
    placeWheelBound f p = beginSending .w f p := by
  have hjoined : (p.link.wheelBound ++ [f]) = f :: [] := by rw [hq, List.nil_append]
  rw [placeWheelBound_of_room (by simp [hq])]
  exact Eq.trans (arbitrateW_wheelBound hw hf hjoined) (beginSending_of_passing (by rw [← hq]))

theorem placeChassisBound_of_room (h : p.link.chassisBound.length < 16) :
    placeChassisBound f p = arbitrateS (p.modLink fun k => { k with chassisBound := k.chassisBound ++ [f] }) := if_pos h

theorem placeChassisBound_of_full (h : p.link.chassisBound.length = 16) :
    placeChassisBound f p = countPort .s (fun k => { k with forwardDrop := inc k.forwardDrop }) p := if_neg h.not_lt

theorem placeChassisBound_of_idle (hs : p.portS.sending = none) (hr : p.link.replies = []) (hc : p.link.chassisBound = []) :
    placeChassisBound f p = beginSending .s f p := by
  have hjoined : (p.link.chassisBound ++ [f]) = f :: [] := by rw [hc, List.nil_append]
  rw [placeChassisBound_of_room (by simp [hc])]
  exact Eq.trans (arbitrateS_chassisBound hs hr hjoined) (beginSending_of_passing (by rw [← hc]))

theorem placeReply_of_idle (hs : p.portS.sending = none) (hr : p.link.replies = []) :
    placeReply f p = beginSending .s f p := by
  have hjoined : (p.link.replies ++ [f]) = f :: [] := by rw [hr, List.nil_append]
  rw [placeReply]
  exact Eq.trans (arbitrateS_reply hs hjoined) (beginSending_of_passing (by rw [← hr]))

theorem placeReport_of_free (hf : p.link.report = none) :
    placeReport f p = arbitrateS (p.modLink fun k => { k with report := some f }) := by
  simp only [placeReport, hf, Option.isSome_none, Bool.false_eq_true, if_false]

theorem placeReport_of_taken (hf : p.link.report.isSome = true) : placeReport f p =
    arbitrateS ((p.modGlobals fun g => { g with reportOverrun := inc g.reportOverrun }).modLink
      fun k => { k with report := some f }) := by
  simp only [placeReport, hf, if_true]

theorem placeReport_of_idle (hs : p.portS.sending = none) (hr : p.link.replies = []) (hc : p.link.chassisBound = [])
    (hf : p.link.report = none) : placeReport f p = beginSending .s f p := by
  rw [placeReport_of_free hf]
  exact Eq.trans (arbitrateS_report hs hr hc rfl) (beginSending_of_passing (by rw [← hf]))

end Placing

/-- Settles O18: per queue, the busy transmitter, the full queue or replaced report, and the IDLE transmitter. -/
theorem framesPlaced : Obligations.FramesPlaced := by
  intro f p
  refine ⟨fun hw hq => ?_, placeWheelBound_of_full, placeWheelBound_of_idle, fun hs hc => ?_, placeChassisBound_of_full,
    placeChassisBound_of_idle, fun hs => ?_, placeReply_of_idle, placeReport_of_idle, fun hs hf => ?_, fun g hs hf => ?_⟩
  · exact (placeWheelBound_of_room hq).trans (arbitrateW_of_sending hw)
  · exact (placeChassisBound_of_room hc).trans (arbitrateS_of_sending hs)
  · exact arbitrateS_of_sending hs
  · exact (placeReport_of_free hf).trans (arbitrateS_of_sending hs)
  · exact (placeReport_of_taken (hf ▸ rfl)).trans (arbitrateS_of_sending hs)

/-! ## The arrival of an order (R154, R163, R165) -/

/-- Every order row is the arrival of its order. -/
theorem exec_of_orderRow {i : Instr} {o : OrderIn} {code : Byte} (h : orderRow i = some (o, code)) :
    ∃ handler, ∀ s, exec i s = s.onPart (orderArrival o code handler) := by
  cases i <;> cases h <;> exact ⟨_, fun _ => rfl⟩

/-- Settles O23: no handler acts where the order finds no place, or the slot HELD. -/
theorem orderDroppedOrBusy : Obligations.OrderDroppedOrBusy := by
  intro i o code s hrow
  obtain ⟨handler, hexec⟩ := exec_of_orderRow hrow
  refine ⟨fun hfull => ?_, fun hheld hroom => ?_⟩
  · refine ⟨_, hexec s, rfl, ?_⟩
    simp only [orderArrival_dropped _ _ _ _ hfull]
    exact ⟨rfl, CalibrationOutcomes.exists_mem_raiseIn_parameter _ _ _ _⟩
  · rw [answers, hexec, State.onPart_eq, orderArrival_busy _ _ _ _ hheld hroom]
    rfl

end Sys2Proof.LinkPorts

/-! # Supervision of the ports: the interval's judgment and the quality window (9.6, R157 to R159) -/

namespace Sys2Proof.Supervision

open Sys2Proof Sys2Proof.Machine Sys2Proof.Claims

/-! ## The judgment of an interval (R157, R158) -/

theorem judged_judge (losTime : Nat) (k : PortPart) : judged losTime k (k.judge losTime) := by
  unfold judged PortPart.judge
  cases k.los with
  | false =>
    cases k.goodMark with
    | false => by_cases h : losTime ≤ min 32 (k.silentRun + 1) <;> simp [h, satAdd]
    | true => simp
  | true =>
    cases k.goodMark with
    | false => simp
    | true => by_cases h : 7 ≤ k.cleanRun <;> simp [h, Config.cleanIntervals]

/-- The judgment changes the port's runs and flag alone. -/
theorem judge_rest (losTime : Nat) (k : PortPart) : (k.judge losTime).sending = k.sending ∧
    (k.judge losTime).alarm = k.alarm ∧ (k.judge losTime).errored = k.errored ∧ (k.judge losTime).window = k.window ∧
    (k.judge losTime).counters = k.counters := by
  unfold PortPart.judge
  repeat' split
  all_goals exact ⟨rfl, rfl, rfl, rfl, rfl⟩

theorem modPort_congr {q : Port} {f g : PortPart → PortPart} {p : Part} (h : f (p.port q) = g (p.port q)) :
    p.modPort q f = p.modPort q g := by
  cases q
  case s => exact congrArg (fun k => { p with portS := k }) h
  case w => exact congrArg (fun k => { p with portW := k }) h

/-- What an assertion or a clearing does beyond its port leaves both ports. -/
theorem judgeLos_port (q r : Port) (p : Part) :
    (judgeLos q p).port r = (p.modPort q fun k => k.judge p.params.losTime).port r := by
  rw [modPort_congr (g := fun _ => (p.port q).judge p.params.losTime) rfl]
  unfold judgeLos
  dsimp only
  split
  · exact losAsserted_port ..
  · split
    · exact losCleared_port ..
    · rfl

/-! ## The quality window (R159) -/

theorem windowEnd_port (q r : Port) (p : Part) :
    (windowEnd q p).port r = (p.modPort q fun k => k.endWindow p.params).port r := by
  unfold windowEnd
  dsimp only
  split
  · exact raise_port ..
  · rfl

theorem windowEnd_events_of_rise {q : Port} {p : Part} (ha : (p.port q).alarm = false)
    (he : p.params.qualOn ≤ (p.port q).errored) :
    (windowEnd q p).events = raiseIn (.linkQuality q) p.tracker.record.number (u8 (p.port q).errored) p.events := by
  simp [windowEnd, PortPart.endWindow, alarmAfter, ha, he, raise]

theorem windowEnd_events_of_no_rise {q : Port} {p : Part}
    (h : (p.port q).alarm = true ∨ (p.port q).errored < p.params.qualOn) : (windowEnd q p).events = p.events := by
  have hrise : ¬ ((!(p.port q).alarm && ((p.port q).endWindow p.params).alarm) = true) := by
    rcases h with h | h
    · simp [h]
    · cases ha : (p.port q).alarm <;> simp [PortPart.endWindow, alarmAfter, ha, h]
  simp [windowEnd, hrise]

/-- The end of a window touches the ports and the pending events alone. -/
theorem windowEnd_eq (q : Port) (p : Part) : windowEnd q p =
    { p with portS := (windowEnd q p).portS, portW := (windowEnd q p).portW, events := (windowEnd q p).events } := by
  unfold windowEnd
  dsimp only
  split <;> cases q <;> rfl

/-- Settles O22: the row's condition holds at the 256th interval, and the window's end acts. -/
theorem qualityWindowEnds : Obligations.QualityWindowEnds := by
  intro q s hw
  have hdue : decide (Config.qualityWindow ≤ (s.part.port q).window + 1) = true :=
    decide_eq_true (Nat.succ_le_succ hw)
  refine ⟨⟨windowEnd q s.part, s.pending⟩, ?_, rfl, ?_, fun ha he => ?_, windowEnd_events_of_no_rise, windowEnd_eq q _,
    fun r hr => ?_⟩
  · show execQualityWindowEnd q s = _
    rw [execQualityWindowEnd, State.onPart_eq, onlyWhen_pos hdue]
  · exact (windowEnd_port q q s.part).trans (Part.port_modPort_self ..)
  · rw [windowEnd_events_of_rise ha he]
    exact CalibrationOutcomes.exists_mem_raiseIn_parameter _ _ _ _
  · exact (windowEnd_port q r s.part).trans (Part.port_modPort_of_ne hr _ _)

/-! ## The interval's end at one port (R157 to R159) -/

/-- The interval counts in the port's window, whose 256th interval ends it. -/
def windowed (params : Params) (k : PortPart) : PortPart :=
  if 256 ≤ k.window + 1 then k.endWindow params else { k with window := k.window + 1 }

theorem windowStep_port (q r : Port) (p : Part) :
    (windowStep q p).port r = (p.modPort q (windowed p.params)).port r := by
  by_cases h : 256 ≤ (p.port q).window + 1
  · have hend : windowStep q p = windowEnd q p := if_pos h
    have hwindowed : p.modPort q (windowed p.params) = p.modPort q fun k => k.endWindow p.params := modPort_congr (if_pos h)
    rw [hend, hwindowed, windowEnd_port]
  · have hcount : windowStep q p = p.modPort q fun k => { k with window := k.window + 1 } := if_neg h
    have hwindowed : p.modPort q (windowed p.params) = p.modPort q fun k => { k with window := k.window + 1 } :=
      modPort_congr (if_neg h)
    rw [hcount, hwindowed]

/-- A port after the end of an interval: judged, its mark cleared, its window counted. -/
def afterInterval (params : Params) (k : PortPart) : PortPart :=
  windowed params { k.judge params.losTime with goodMark := false }

theorem intervalEnd_port (q r : Port) (p : Part) :
    (intervalEnd q p).port r = (p.modPort q (afterInterval p.params)).port r := by
  rw [intervalEnd, windowStep_port, Part.modPort_params, judgeLos_params]
  by_cases h : r = q
  · subst h
    simp only [Part.port_modPort_self, judgeLos_port, afterInterval]
  · simp only [Part.port_modPort_of_ne h, judgeLos_port]

section AfterInterval

variable (params : Params) (k : PortPart)

/-- The window's count and end leave the port's transmission, judgment and counters. -/
theorem windowed_rest : (windowed params k).sending = k.sending ∧ (windowed params k).los = k.los ∧
    (windowed params k).silentRun = k.silentRun ∧ (windowed params k).cleanRun = k.cleanRun ∧
    (windowed params k).goodMark = k.goodMark ∧ (windowed params k).counters = k.counters := by
  unfold windowed
  split <;> exact ⟨rfl, rfl, rfl, rfl, rfl, rfl⟩

theorem judged_afterInterval : judged params.losTime k (afterInterval params k) := by
  obtain ⟨-, hlos, hsilent, hclean, -, -⟩ := windowed_rest params { k.judge params.losTime with goodMark := false }
  have h := judged_judge params.losTime k
  simp only [judged] at h ⊢
  rwa [afterInterval, hlos, hsilent, hclean]

theorem afterInterval_rest : (afterInterval params k).goodMark = false ∧ (afterInterval params k).sending = k.sending ∧
    (afterInterval params k).counters = k.counters := by
  obtain ⟨hsending, -, -, -, hmark, hcounters⟩ := windowed_rest params { k.judge params.losTime with goodMark := false }
  obtain ⟨hsending', -, -, -, hcounters'⟩ := judge_rest params.losTime k
  exact ⟨hmark, hsending.trans hsending', hcounters.trans hcounters'⟩

variable {k}

theorem afterInterval_of_lt (h : k.window < 255) : (afterInterval params k).window = k.window + 1 ∧
    (afterInterval params k).errored = k.errored ∧ (afterInterval params k).alarm = k.alarm := by
  obtain ⟨-, halarm, herrored, hwindow, -⟩ := judge_rest params.losTime k
  have hgoesOn : ¬ 256 ≤ (k.judge params.losTime).window + 1 := by omega
  rw [afterInterval, windowed, if_neg hgoesOn]
  exact ⟨congrArg (· + 1) hwindow, herrored, halarm⟩

theorem afterInterval_of_last (h : k.window = 255) :
    (afterInterval params k).window = 0 ∧ (afterInterval params k).errored = 0 := by
  obtain ⟨-, -, -, hwindow, -⟩ := judge_rest params.losTime k
  have hends : 256 ≤ (k.judge params.losTime).window + 1 := by omega
  rw [afterInterval, windowed, if_pos hends]
  exact ⟨rfl, rfl⟩

end AfterInterval

/-! ## The interval's end at both ports -/

section Corners

variable {α : Type} {g : CornerPart → α} (hg : ∀ present c d p, g ((putReason .link present c p).corner d) = g (p.corner d))

include hg

/-- Beyond the ports a judgment reaches the corners by the reason LINK alone. -/
theorem judgeLos_corner_same (q : Port) (c : Corner) (p : Part) : g ((judgeLos q p).corner c) = g (p.corner c) := by
  have hlink : ∀ present r, g ((forCorners (putReason .link present) r).corner c) = g (r.corner c) := fun present r =>
    forCorners_same (fun r => g (r.corner c)) (fun d r => hg present d c r) r
  unfold judgeLos
  dsimp only
  split
  · cases q with
    | s =>
      unfold losAsserted
      dsimp only
      split <;> simp
    | w => simp [losAsserted, hlink]
  · split
    · cases q with
      | s => simp [losCleared]
      | w => simp [losCleared, hlink]
    · simp

theorem intervalEnd_corner_same (q : Port) (c : Corner) (p : Part) : g ((intervalEnd q p).corner c) = g (p.corner c) := by
  rw [intervalEnd, windowStep_corner, Part.modPort_corner, judgeLos_corner_same hg]

theorem bothPorts_corner_same (c : Corner) (p : Part) :
    g ((intervalEnd .w (intervalEnd .s p)).corner c) = g (p.corner c) := by
  rw [intervalEnd_corner_same hg, intervalEnd_corner_same hg]

end Corners

/-- The part at the interval's end, before the ports judge: the clock there, the grid set ahead (9.6). -/
def gridAhead (p : Part) : Part := (p.reach p.intervalAt).setIntervalAt (p.intervalAt + 20000)

theorem exec_supervisionIntervalEnd (s : State) : exec .supervisionIntervalEnd s =
    .next ⟨intervalEnd .w (intervalEnd .s (gridAhead s.part)), s.pending⟩ := rfl

/-- Each port ends its interval once, by the parameters as they stand. -/
theorem bothPorts_port (p : Part) (q : Port) :
    (intervalEnd .w (intervalEnd .s p)).port q = afterInterval p.params (p.port q) := by
  rw [intervalEnd_port, intervalEnd_params]
  cases q with
  | s =>
    rw [Part.port_modPort_of_ne (by decide), intervalEnd_port, Part.port_modPort_self]
  | w =>
    rw [Part.port_modPort_self, intervalEnd_port, Part.port_modPort_of_ne (by decide)]

/-- Settles O20: each port's state is `afterInterval`, and what follows an assertion or clearing keeps the rest. -/
theorem intervalEnds : Obligations.IntervalEnds := by
  intro s
  refine ⟨_, exec_supervisionIntervalEnd s, rfl, ?_, ?_, fun q => ?_, ?_⟩
  · simp only [intervalEnd_intervalAt]
    rfl
  · simp only [intervalEnd_now]
    rfl
  · have hport : (intervalEnd .w (intervalEnd .s (gridAhead s.part))).port q =
        afterInterval s.part.params (s.part.port q) := by
      rw [bothPorts_port]
      cases q <;> rfl
    simp only [hport]
    obtain ⟨hmark, hsending, hcounters⟩ := afterInterval_rest s.part.params (s.part.port q)
    exact ⟨judged_afterInterval _ _, hmark, hsending, hcounters, afterInterval_of_lt _, afterInterval_of_last _⟩
  · simp only [intervalEnd_link, intervalEnd_params, intervalEnd_slot, intervalEnd_control, intervalEnd_schedule,
      intervalEnd_store]
    exact ⟨rfl, rfl, rfl, rfl, rfl, rfl, fun c =>
      ⟨bothPorts_corner_same (g := CornerPart.banks) (fun _ _ _ _ => putReason_corner_banks ..) c _,
        bothPorts_corner_same (g := CornerPart.motion) (fun _ _ _ _ => putReason_corner_motion ..) c _⟩⟩

end Sys2Proof.Supervision

/-! # Orders that answer and change nothing (R163 to R168, R186, R190) -/

namespace Sys2Proof.StatusViews

open Sys2Proof Sys2Proof.Machine Sys2Proof.Claims Sys2Proof.GainSchedule Sys2Proof.ParityFailures Sys2Proof.MapLoads

/-! ## Fields, most significant byte first (R186) -/

theorem byteOf_mod (n : Nat) : byteOf (n % 65536) = byteOf n := by
  apply BitVec.eq_of_toNat_eq
  simp only [byteOf, BitVec.toNat_ofNat]
  omega

theorem byteOf_mod_div (n : Nat) : byteOf (n % 65536 / 256) = byteOf (n / 256) := by
  apply BitVec.eq_of_toNat_eq
  simp only [byteOf, BitVec.toNat_ofNat]
  omega

theorem wordBytes_eq (w : Word) : wordBytes w = field16 w.toNat := by
  have hhigh : w.extractLsb' 8 8 = byteOf (w.toNat / 256) := by
    apply BitVec.eq_of_toNat_eq
    simp [byteOf, Nat.shiftRight_eq_div_pow]
  have hlow : w.extractLsb' 0 8 = byteOf w.toNat := by
    apply BitVec.eq_of_toNat_eq
    simp [byteOf]
  rw [wordBytes, hhigh, hlow, field16]

theorem u16_eq (n : Nat) : u16 n = field16 n := by
  rw [u16, wordBytes_eq, BitVec.toNat_ofNat, field16, byteOf_mod, byteOf_mod_div, field16]

theorem s16_eq (x : Int) : s16 x = signed16 x := wordBytes_eq _

theorem u32_eq (n : Nat) : u32 n = field32 n := by
  rw [u32, u16_eq, u16_eq, field16, field16, byteOf_mod, byteOf_mod_div, Nat.div_div_eq_div_mul]
  rfl

/-! ## Sets of members, one bit each (R186) -/

theorem maskByte_five (b0 b1 b2 b3 b4 : Bool) : maskByte [b0, b1, b2, b3, b4] = byteOf (setOf b0 b1 b2 b3 b4) := by
  revert b0 b1 b2 b3 b4
  decide

/-- A last member that is absent sets no bit. -/
theorem maskByte_append_false (bits : List Bool) : maskByte (bits ++ [false]) = maskByte bits := by
  rw [maskByte, List.foldr_append]
  rfl

theorem maskByte_four (b0 b1 b2 b3 : Bool) : maskByte [b0, b1, b2, b3] = byteOf (setOf b0 b1 b2 b3 false) := by
  rw [← maskByte_append_false]
  exact maskByte_five ..

theorem maskByte_three (b0 b1 b2 : Bool) : maskByte [b0, b1, b2] = byteOf (setOf b0 b1 b2 false false) := by
  rw [← maskByte_append_false]
  exact maskByte_four ..

theorem maskByte_two (b0 b1 : Bool) : maskByte [b0, b1] = byteOf (setOf b0 b1 false false false) := by
  rw [← maskByte_append_false]
  exact maskByte_three ..

theorem flag_eq (b : Bool) : flag b = byteOf b.toNat := by cases b <;> rfl

/-! ## Enumerated fields (R186) -/

theorem controlState_code (x : ControlState) : x.code = byteOf (controlCode x) := by cases x <;> rfl

theorem trackerState_code (x : TrackerState) : x.code = byteOf (trackerCode x) := by cases x <;> rfl

theorem mode_code (x : Mode) : x.code = byteOf (modeNumber x) := by cases x <;> rfl

theorem contextSource_code (x : ContextSource) : x.code = byteOf (sourceCode x) := by cases x <;> rfl

theorem cornerState_code (x : CornerState) : x.code = byteOf (cornerCode x) := by cases x <;> rfl

theorem faultKind_code (x : FaultKind) : x.code = byteOf (faultCode x) := by cases x <;> rfl

theorem bankState_code (x : BankState) : x.code = byteOf (bankCode x) := by cases x <;> rfl

/-- A DISABLED regulator shows its calibration, an enabled one its mode (R81, R186). -/
theorem regulator_modeCode (r : Regulator) : r.modeCode = byteOf (regulatorCode r) := by
  have hdisabled : (if r.calibration.isSome then 1 else 0 : Byte) = byteOf (if r.calibration.isSome then 1 else 0) := by
    cases r.calibration <;> rfl
  unfold Regulator.modeCode Regulator.mode regulatorCode
  cases r.enabled with
  | false => simpa using hdisabled
  | true =>
    cases r.wanted with
    | disabled => simpa using hdisabled
    | tracking => rfl
    | ramping => rfl

/-- An episode without a window, and no episode, carry 0. -/
theorem windowByte_eq (e : Option Episode) : windowByte e = byteOf ((e.bind (·.window)).getD 0) := by
  rcases e with _ | ⟨limit, _ | w⟩ <;> rfl

/-! ## The two views (R167) -/

theorem statusPart_eq (p : Part) : statusPart p = partBytes p := by
  simp only [statusPart, partBytes, controlState_code, trackerState_code, mode_code, contextSource_code, wordBytes_eq, u16_eq,
    s16_eq, cornerMask, Quad.toList, maskByte_two, maskByte_four]
  cases p.selection <;> rfl

theorem statusCorner_eq (c : Corner) (k : CornerPart) : statusCorner c k = cornerBytes c k := by
  simp only [statusCorner, cornerBytes, cornerState_code, CornerState.detail, Reasons.byte, reasonSet, Channels.byte, stuckSet,
    faultKind_code, bankState_code, regulator_modeCode, windowByte_eq, wordBytes_eq, u16_eq, u32_eq, flag_eq, maskByte_two,
    maskByte_three, maskByte_five]
  rfl

theorem partBytes_length (p : Part) : (partBytes p).length = 26 := by
  unfold partBytes
  cases p.selection <;> rfl

theorem cornerBytes_length (c : Corner) (k : CornerPart) : (cornerBytes c k).length = 28 := rfl

/-- The good frame of the order itself shows in no field of view PART. -/
theorem partBytes_goodFrame (q : Port) (p : Part) : partBytes (goodFrame q p) = partBytes p := by cases q <;> rfl

/-! ## QUERY_STATUS (R167) and READ_PARAM (R168) -/

theorem queryStatus_part (corner : Byte) (p : Part) : queryStatus [0, corner] p = (p, .done (partBytes p)) := by
  rw [← statusPart_eq]
  rfl

theorem queryStatus_corner (c : Corner) (p : Part) :
    queryStatus [1, BitVec.ofNat 8 c.index] p = (p, .done (cornerBytes c (p.corner c))) := by
  have hview : ¬ (1 : Byte) = 0 := by decide
  simp only [queryStatus, if_neg hview, if_true, ofIndex_byte, statusCorner_eq]

theorem byte_of_ofIndex {b : Byte} {c : Corner} (h : Corner.ofIndex b.toNat = some c) : b = BitVec.ofNat 8 c.index := by
  rw [← index_of_ofIndex h, BitVec.ofNat_toNat, BitVec.setWidth_eq]

theorem queryStatus_of_malformed {args : List Byte} (hpart : ∀ x, args ≠ [0, x])
    (hcorner : ∀ c : Corner, args ≠ [1, BitVec.ofNat 8 c.index]) (p : Part) :
    queryStatus args p = (p, .refusedArgument []) := by
  unfold queryStatus
  split
  next view corner =>
    have hview : ¬ view = 0 := fun h => hpart corner (by rw [h])
    rw [if_neg hview]
    split
    next hone =>
      split
      next c hc => exact absurd (by rw [hone, byte_of_ofIndex hc]) (hcorner c)
      next => rfl
    next => rfl
  next => rfl

theorem readParam_of_id {id : Byte} {x : ParamId} (hx : ParamId.ofCode id.toNat = some x) (p : Part) :
    readParam [id] p = (p, .done (id :: u32 (p.params.get x))) := by
  simp only [readParam, hx]

theorem readParam_of_malformed {args : List Byte}
    (h : ∀ (id : Byte) x, ParamId.ofCode id.toNat = some x → args ≠ [id]) (p : Part) :
    readParam args p = (p, .refusedArgument []) := by
  unfold readParam
  split
  next id =>
    split
    next x hx => exact absurd rfl (h id x hx)
    next => rfl
  next => rfl

/-- Settles O24: each handler leaves the part it is given, and its data are the fields of R190. -/
theorem ordersThatOnlyAnswer : Obligations.OrdersThatOnlyAnswer := by
  intro o s ht
  refine ⟨fun code => ?_, fun x ho => ⟨?_, partBytes_length _⟩, fun c ho => ⟨?_, cornerBytes_length _ _⟩,
    fun hpart hcorner => ?_, fun id x ho hx => ?_, fun h => ?_⟩
  · exact answers_of_refusal (handler := unknownOrder) rfl ht rfl rfl
  · refine answers_of_refusal rfl ht ho ?_
    rw [queryStatus_part, partBytes_goodFrame]
    rfl
  · refine answers_of_refusal rfl ht ho ?_
    rw [queryStatus_corner, goodFrame_corner]
    rfl
  · exact answers_of_refusal rfl ht rfl (queryStatus_of_malformed hpart hcorner _)
  · exact answers_of_refusal rfl ht ho (readParam_of_id hx _)
  · exact answers_of_refusal rfl ht rfl (readParam_of_malformed h _)

end Sys2Proof.StatusViews

/-! # WRITE_PARAM (R168 to R170) -/

namespace Sys2Proof.ParameterWrites

open Sys2Proof Sys2Proof.Machine Sys2Proof.Claims Sys2Proof.GainSchedule Sys2Proof.MapLoads Sys2Proof.ParameterStore

theorem static_iff (x : ParamId) : x.static = true ↔ x = .pwmHalf ∨ x = .senseGain := by cases x <;> decide

theorem staticWritable_iff (p : Part) : p.staticWritable = true ↔
    (p.control = .unloaded ∨ p.control = .standby) ∧ ∀ c : Corner, (p.corner c).state = .off := by
  simp only [Part.staticWritable, Bool.and_eq_true, Bool.or_eq_true, decide_eq_true_eq, Quad.all_toList, Part.corner]

theorem mayWrite_iff (x : ParamId) (p : Part) : mayWrite x p ↔ (x.static = true → p.staticWritable = true) := by
  rw [mayWrite, static_iff, staticWritable_iff]

/-- The guard of R169, step 2, in the words of the claims. -/
theorem static_guard_iff (x : ParamId) (p : Part) : (x.static && !p.staticWritable) = true ↔ ¬ mayWrite x p := by
  rw [mayWrite_iff]
  cases x.static <;> cases p.staticWritable <;> decide

theorem writeEffect_of_not_actsAtOnce {x : ParamId} (h : ¬ actsAtOnce x) (p : Part) : writeEffect x p = p := by
  unfold writeEffect
  split
  · exact absurd trivial h
  · exact absurd trivial h
  · exact absurd trivial h
  · rfl

section Named

variable {id v3 v2 v1 v0 : Byte} {x : ParamId} (hx : ParamId.ofCode id.toNat = some x) {p : Part}

include hx

theorem writeParam_of_not_mayWrite (h : ¬ mayWrite x p) : writeParam [id, v3, v2, v1, v0] p = (p, .refusedState []) := by
  simp only [writeParam, hx, (static_guard_iff x p).mpr h, if_true]

/-- A write that may be made and has no effect of its own stores the settled value (R169, R170). -/
theorem writeParam_of_mayWrite (h : mayWrite x p) (hquiet : ¬ actsAtOnce x) {v : Nat}
    (hv : v = p.params.settled p.largestSetpoint x (nat32 v3 v2 v1 v0)) :
    writeParam [id, v3, v2, v1, v0] p =
      (storeParam x v p, .reply (if v = nat32 v3 v2 v1 v0 then 0 else 1) 0 (id :: u32 v)) := by
  have hguard : ¬ (x.static && !p.staticWritable) = true := fun hg => (static_guard_iff x p).mp hg h
  simp only [writeParam, hx, if_neg hguard, ← hv, writeEffect_of_not_actsAtOnce hquiet]
  split <;> rfl

end Named

theorem writeParam_of_malformed {args : List Byte}
    (h : ∀ (id v3 v2 v1 v0 : Byte) x, ParamId.ofCode id.toNat = some x → args ≠ [id, v3, v2, v1, v0]) (p : Part) :
    writeParam args p = (p, .refusedArgument []) := by
  unfold writeParam
  split
  next id v3 v2 v1 v0 =>
    split
    next => rfl
    next x hx => exact absurd rfl (h id v3 v2 v1 v0 x hx)
  next => rfl

/-- Settles O25: the store's own laws, then the write made, refused in this state, and refused for its arguments. -/
theorem writeParam : Obligations.WriteParam := by
  refine ⟨fun params x v => ⟨get_set_self params x v, fun y hy => get_set_of_ne hy params v⟩, fun o s ht =>
    ⟨fun id v3 v2 v1 v0 x v ho hx hv => ⟨fun hmay hquiet => ?_, fun hmay => ?_⟩, fun h => ?_⟩⟩
  · refine answers_of_handler rfl ht ?_ fun _ => rfl
    rw [ho]
    exact writeParam_of_mayWrite hx (p := goodFrame .s s.part) hmay hquiet hv
  · exact answers_of_refusal rfl ht ho (writeParam_of_not_mayWrite hx (p := goodFrame .s s.part) hmay)
  · exact answers_of_refusal rfl ht rfl (writeParam_of_malformed h _)

end Sys2Proof.ParameterWrites

/-! # FETCH_EVENT and READ_COUNTERS (R173, R174, R179, R190) -/

namespace Sys2Proof.EventsAndCounters

open Sys2Proof Sys2Proof.Machine Sys2Proof.Claims Sys2Proof.GainSchedule Sys2Proof.MapLoads

/-! ## FETCH_EVENT (R173) -/

theorem fetchEvent_of_none {p : Part} (h : p.events = []) : fetchEvent [] p = (p, .done [0, 0, 0, 0, 0, 0, 0]) := by
  simp only [fetchEvent, h]

theorem fetchEvent_of_cons {p : Part} {x : Entry} {rest : List Entry} (h : p.events = x :: rest) :
    fetchEvent [] p = (p.setEvents rest, .done (entryData x rest.length)) := by
  simp only [fetchEvent, h]

theorem fetchEvent_of_args {args : List Byte} (h : args ≠ []) (p : Part) : fetchEvent args p = (p, .refusedArgument []) := by
  unfold fetchEvent
  split
  · contradiction
  · rfl

/-! ## READ_COUNTERS (R174) -/

section Group

variable {group : Byte} {g : CounterGroup} (hg : CounterGroup.ofCode group.toNat = some g) (p : Part)

include hg

theorem readCounters_keeping : readCounters [group, 0] p = (p, .done (group :: (g.values p).flatMap u32)) := by
  simp only [readCounters, hg, if_true]

theorem readCounters_clearing :
    readCounters [group, 1] p = (g.clear p, .done (group :: (g.values p).flatMap u32)) := by
  have hclear : ¬ (1 : Byte) = 0 := by decide
  simp only [readCounters, hg, if_neg hclear, if_true]

end Group

theorem readCounters_of_malformed {args : List Byte} (h : ∀ group clear : Byte,
    (CounterGroup.ofCode group.toNat).isSome = true → clear = 0 ∨ clear = 1 → args ≠ [group, clear]) (p : Part) :
    readCounters args p = (p, .refusedArgument []) := by
  unfold readCounters
  split
  next group clear =>
    split
    next => rfl
    next g hg =>
      have hnone : ¬ (clear = 0 ∨ clear = 1) := fun hc => h group clear (by rw [hg]; rfl) hc rfl
      rw [not_or] at hnone
      rw [if_neg hnone.1, if_neg hnone.2]
  next => rfl

theorem clear_straps (g : CounterGroup) (p : Part) : (g.clear p).straps = p.straps := by
  cases g with
  | port q => exact countPort_straps ..
  | corner c => exact countCorner_straps ..
  | whole => rfl

/-- Settles O40: each order by its arguments; the counters answered are those after the order's own good frame. -/
theorem fetchAndCounters : Obligations.FetchAndCounters := by
  intro o s ht
  refine ⟨fun ho he => ?_, fun x rest ho he => ?_, fun ho => ?_, fun group g hg => ⟨fun ho => ?_, fun ho => ?_⟩, fun h => ?_⟩
  · exact answers_of_refusal rfl ht ho (fetchEvent_of_none (p := goodFrame .s s.part) he)
  · refine answers_of_handler rfl ht ?_ fun _ => rfl
    rw [ho]
    exact fetchEvent_of_cons (p := goodFrame .s s.part) he
  · exact answers_of_refusal rfl ht rfl (fetchEvent_of_args ho _)
  · exact answers_of_refusal rfl ht ho (readCounters_keeping hg _)
  · have hcleared : readCounters o.args (goodFrame .s s.part) =
        (g.clear (goodFrame .s s.part), .done (group :: (g.values (goodFrame .s s.part)).flatMap u32)) := by
      rw [ho]
      exact readCounters_clearing hg _
    have hanswer := answers_of_handler (i := .readCounters o) (effect := fun q => g.clear q) rfl ht hcleared (clear_straps g)
    cases g <;> exact hanswer
  · exact answers_of_refusal rfl ht rfl (readCounters_of_malformed h _)

end Sys2Proof.EventsAndCounters

/-! # Compressed counts (R182) -/

namespace Sys2Proof.CompressedCounts

open Sys2Proof Sys2Proof.Machine Sys2Proof.Claims

/-! ## The search for the exponent -/

theorem exponentFrom_le (n k e : Nat) : exponentFrom n k e ≤ e + k := by
  induction k generalizing e with
  | zero => exact Nat.le_refl e
  | succ k ih =>
    rw [exponentFrom]
    split
    next => exact Nat.le_add_right e (k + 1)
    next => have := ih (e + 1); omega

/-- Every exponent the search passes over was tried and leaves more than 31. -/
theorem lt_div_of_lt_exponentFrom {n k e i : Nat} (he : e ≤ i) (hi : i < exponentFrom n k e) : 31 < n / 4 ^ i := by
  induction k generalizing e with
  | zero => exact absurd he (Nat.not_le_of_lt hi)
  | succ k ih =>
    rw [exponentFrom] at hi
    split at hi
    next => omega
    next hover =>
      obtain rfl | hlt := Nat.eq_or_lt_of_le he
      · exact Nat.lt_of_not_le hover
      · exact ih hlt hi

/-- The search ends at an exponent that fits as soon as the last one it may reach does. -/
theorem exponentFrom_fits {n k e : Nat} (hlast : n / 4 ^ (e + k) ≤ 31) : n / 4 ^ exponentFrom n k e ≤ 31 := by
  induction k generalizing e with
  | zero => exact hlast
  | succ k ih =>
    rw [exponentFrom]
    split
    next hfits => exact hfits
    next => exact ih (by rwa [Nat.add_right_comm])

/-! ## Compressing a count, and the count represented -/

theorem compress_of_lt {n : Nat} (hn : n < 524288) :
    compress n = (exponentFrom n 7 0, n / 4 ^ exponentFrom n 7 0) :=
  if_pos (exponentFrom_fits (by omega))

/-- From 32 * 4 ^ 7 on no exponent up to 7 fits. -/
theorem lt_div_of_ge {n e : Nat} (hn : 524288 ≤ n) (he : e ≤ 7) : 31 < n / 4 ^ e := by
  have hpow : 4 ^ e ≤ 4 ^ 7 := Nat.pow_le_pow_right (by decide) he
  rw [← Nat.succ_le_iff, Nat.le_div_iff_mul_le (by positivity)]
  omega

theorem compress_of_ge {n : Nat} (hn : 524288 ≤ n) : compress n = (7, 31) :=
  if_neg (Nat.not_le_of_lt (lt_div_of_ge hn (exponentFrom_le n 7 0)))

theorem represented_compress_le (n : Nat) : represented (compress n) ≤ n := by
  obtain hn | hn := Nat.lt_or_ge n 524288
  · rw [compress_of_lt hn]
    exact Nat.div_mul_le_self n _
  · have hcap : represented (7, 31) ≤ 524288 := by decide
    rw [compress_of_ge hn]
    exact hcap.trans hn

theorem compress_of_le {n : Nat} (hn : n ≤ 31) : compress n = (0, n) := by
  have hfits : n / 4 ^ 0 ≤ 31 := by simpa using hn
  have hzero : exponentFrom n 7 0 = 0 := if_pos hfits
  rw [compress_of_lt (by omega), hzero, Nat.pow_zero, Nat.div_one]

/-- Settles O54: the search's exponent is the least that fits, and the floor loses less than 4 to that exponent. -/
theorem countsCompressed : Obligations.CountsCompressed := by
  intro n
  refine ⟨fun hn => ?_, fun hn => ⟨fun _ => lt_div_of_ge hn, compress_of_ge hn⟩, represented_compress_le n,
    fun hn => ?_, fun hn => ?_⟩
  · rw [compress_of_lt hn]
    exact ⟨exponentFrom_le n 7 0, rfl, exponentFrom_fits (by omega),
      fun _ he => lt_div_of_lt_exponentFrom (Nat.zero_le _) he⟩
  · rw [compress_of_le hn]
    exact Nat.mul_one n
  · rw [compress_of_lt hn]
    exact Nat.lt_div_mul_add (by positivity)

end Sys2Proof.CompressedCounts

/-! # The step on a queue that holds a command (1.2, log entry 2) -/

namespace Sys2Proof.Stepping

open Sys2Proof Sys2Proof.Machine

/-- The step on a queue that holds a command: the front command leaves the queue before it runs. -/
theorem step_of_pending_cons {s : State} {i : Instr} {rest : List Instr} (h : s.pending = i :: rest) :
    step s = exec i { s with pending := rest } := by
  rw [step, h]

/-- Settles O1: the queue without its front command is the state's own queue again. -/
theorem stepRunsTheFrontCommand : Obligations.StepRunsTheFrontCommand :=
  fun _ _ => step_of_pending_cons rfl

end Sys2Proof.Stepping

/-! # What every step keeps of time and motion (R2, R3, R9, R17, R27 to R32)

`Reading` is what the conditions on cycle spacing and on the ranges of chapters 1 and 2 read of a part. Most operations leave it
as it is; `Upheld` says of the others that both conditions are kept, and composes along the operations of a step. -/

namespace Sys2Proof.Timekeeping

open Sys2Proof Sys2Proof.Machine Sys2Proof.Claims Sys2Proof.Estimation

/-! ## What the conditions read -/

/-- The clock, the instants of the last cycle start and of the miss timer, the substitute run, the context, the hold limit and
the motion records. -/
structure Reading where
  now : Nat
  lastStart : Option Nat
  missAt : Option Nat
  runCount : Nat
  context : Context
  holdLimit : Nat
  motions : Quad Motion

def reading (p : Part) : Reading :=
  ⟨p.now, p.tracker.lastStart, p.tracker.missAt, p.tracker.runCount, p.context, p.params.holdLimit,
    p.corners.map CornerPart.motion⟩

theorem reading_of_same {p q : Part} (hnow : q.now = p.now) (htracker : q.tracker = p.tracker)
    (hcontext : q.context = p.context) (hparams : q.params = p.params)
    (hmotion : ∀ c, (q.corner c).motion = (p.corner c).motion) : reading q = reading p := by
  have hmotions : q.corners.map CornerPart.motion = p.corners.map CornerPart.motion := Quad.ext_get fun c => by
    rw [Quad.get_map, Quad.get_map]
    exact hmotion c
  rw [reading, hnow, htracker, hcontext, hparams, hmotions, reading]

theorem reading_modCorner {f : CornerPart → CornerPart} (hf : ∀ k, (f k).motion = k.motion) (c : Corner) (p : Part) :
    reading (p.modCorner c f) = reading p :=
  reading_of_same rfl rfl rfl rfl fun d => by
    rw [Part.corner_modCorner]
    split
    · rename_i hd
      rw [hf, hd]
    · rfl

theorem reading_modPort (x : Port) (f : PortPart → PortPart) (p : Part) : reading (p.modPort x f) = reading p := by
  cases x <;> rfl

theorem reading_forCorners {f : Corner → Part → Part} (h : ∀ c p, reading (f c p) = reading p) (p : Part) :
    reading (forCorners f p) = reading p := forCorners_same reading h p

theorem motion_of_reading {p q : Part} (h : reading q = reading p) (c : Corner) :
    (q.corner c).motion = (p.corner c).motion := by
  have hget : (q.corners.map CornerPart.motion).get c = (p.corners.map CornerPart.motion).get c :=
    congrArg (fun x : Reading => x.motions.get c) h
  rwa [Quad.get_map, Quad.get_map] at hget

/-! ## Both conditions upheld -/

/-- The last cycle start recorded stays, or one 250 µs or more after it is recorded in its place (R3). -/
def StartKept (p q : Part) : Prop :=
  ∀ a, p.tracker.lastStart = some a → ∃ b, q.tracker.lastStart = some b ∧ (b = a ∨ a + 10000 ≤ b)

theorem StartKept.trans {p q r : Part} (h : StartKept p q) (h' : StartKept q r) : StartKept p r := by
  intro a ha
  obtain ⟨b, hb, hab⟩ := h a ha
  obtain ⟨c, hc, hbc⟩ := h' b hb
  exact ⟨c, hc, by omega⟩

theorem StartKept.of_eq {p q : Part} (h : q.tracker.lastStart = p.tracker.lastStart) : StartKept p q :=
  fun a ha => ⟨a, h.trans ha, .inl rfl⟩

/-- From one part to another the spacing of cycle starts and the ranges of motion and context are kept. -/
structure Upheld (p q : Part) : Prop where
  spacing : spaced p → spaced q ∧ StartKept p q
  motion : p.motionSound → q.motionSound

theorem spaced_of_reading {p q : Part} (h : reading q = reading p) (hp : spaced p) : spaced q := by
  have hnow : q.now = p.now := congrArg Reading.now h
  have hstart : q.tracker.lastStart = p.tracker.lastStart := congrArg Reading.lastStart h
  have hmiss : q.tracker.missAt = p.tracker.missAt := congrArg Reading.missAt h
  rw [spaced, hnow, hstart, hmiss]
  exact hp

theorem spaced_of_same {p q : Part} (hnow : q.now = p.now) (htracker : q.tracker = p.tracker) (hp : spaced p) : spaced q := by
  rw [spaced, hnow, htracker]
  exact hp

theorem motionSound_of_reading {p q : Part} (h : reading q = reading p) (hp : p.motionSound) : q.motionSound where
  context := by
    have hcontext : q.context = p.context := congrArg Reading.context h
    exact hcontext ▸ hp.context
  motion c := by
    have hlimit : q.params.holdLimit = p.params.holdLimit := congrArg Reading.holdLimit h
    change (q.corner c).motion.sound q.params.holdLimit
    rw [motion_of_reading h c, hlimit]
    exact hp.motion c
  run := by
    have hrun : q.tracker.runCount = p.tracker.runCount := congrArg Reading.runCount h
    exact hrun ▸ hp.run

namespace Upheld

theorem of_reading {p q : Part} (h : reading q = reading p) : Upheld p q :=
  ⟨fun hs => ⟨spaced_of_reading h hs, .of_eq (congrArg Reading.lastStart h)⟩, motionSound_of_reading h⟩

theorem refl (p : Part) : Upheld p p := of_reading rfl

theorem trans {p q r : Part} (h : Upheld p q) (h' : Upheld q r) : Upheld p r where
  spacing hp := by
    obtain ⟨hq, hpq⟩ := h.spacing hp
    obtain ⟨hr, hqr⟩ := h'.spacing hq
    exact ⟨hr, hpq.trans hqr⟩
  motion hp := h'.motion (h.motion hp)

/-- A change of what the conditions do not read, after what is upheld. -/
theorem andSame {p q r : Part} (h : Upheld p q) (hr : reading r = reading q) : Upheld p r := h.trans (of_reading hr)

/-- A choice between what is upheld and nothing. -/
theorem andWhen {p q r : Part} (h : Upheld p q) (cond : Prop) [Decidable cond] (hr : Upheld q r) :
    Upheld p (if cond then r else q) := by
  split
  · exact h.trans hr
  · exact h

theorem forCorners {f : Corner → Part → Part} (h : ∀ c p, Upheld p (f c p)) (p : Part) : Upheld p (Machine.forCorners f p) :=
  forCorners_keeps (P := Upheld p) (fun c _ hq => hq.trans (h c _)) (refl p)

/-- An update of a corner that keeps its motion record in range. -/
theorem modCorner {c : Corner} {f : CornerPart → CornerPart} {p : Part}
    (hf : (p.corner c).motion.sound p.params.holdLimit → (f (p.corner c)).motion.sound p.params.holdLimit) :
    Upheld p (p.modCorner c f) where
  spacing hp := ⟨hp, .of_eq rfl⟩
  motion hp :=
    { context := hp.context
      motion := fun d => by
        rw [Part.corner_modCorner]
        split
        · exact hf (hp.motion c)
        · exact hp.motion d
      run := hp.run }

/-- A change of the tracker that starts no cycle and stops or leaves the miss timer. -/
theorem modTracker {f : Tracker → Tracker} {p : Part} (hstart : (f p.tracker).lastStart = p.tracker.lastStart)
    (hmiss : (f p.tracker).missAt = p.tracker.missAt ∨ (f p.tracker).missAt = none)
    (hrun : p.tracker.runCount ≤ Config.holdoverLimit → (f p.tracker).runCount ≤ Config.holdoverLimit) :
    Upheld p (p.modTracker f) where
  spacing hp := by
    refine ⟨fun a ha => ?_, .of_eq hstart⟩
    obtain ⟨hle, hahead⟩ := hp a (hstart.symm.trans ha)
    refine ⟨hle, fun m hm => ?_⟩
    rcases hmiss with h | h
    · exact hahead m (h.symm.trans hm)
    · exact absurd (h.symm.trans hm) nofun
  motion hp := ⟨hp.context, hp.motion, hrun hp.run⟩

/-- A change of the context that keeps it in range. -/
theorem modContext {f : Context → Context} {p : Part} (hf : p.context.sound → (f p.context).sound) : Upheld p (p.modContext f) :=
  ⟨fun hp => ⟨hp, .of_eq rfl⟩, fun hp => ⟨hf hp.context, hp.motion, hp.run⟩⟩

/-- The clock goes on. -/
theorem setNow {t : Nat} {p : Part} (ht : p.now ≤ t) : Upheld p (p.setNow t) where
  spacing hp := by
    refine ⟨fun a ha => ?_, .of_eq rfl⟩
    obtain ⟨hle, hahead⟩ := hp a ha
    exact ⟨hle.trans ht, hahead⟩
  motion hp := ⟨hp.context, hp.motion, hp.run⟩

theorem reach (t : Nat) (p : Part) : Upheld p (p.reach t) := setNow (Nat.le_max_left _ _)

end Upheld

/-! ## The motion records (R27 to R33) -/

theorem sound_unprimed (limit : Nat) : Motion.unprimed.sound limit := by
  constructor <;> simp [Motion.unprimed]

theorem sound_of_unprimed {m : Motion} (h : m = .unprimed) (limit : Nat) : m.sound limit := h ▸ sound_unprimed limit

theorem abs_clampInt_le {bound : Int} (h : 0 ≤ bound) (x : Int) : |clampInt (-bound) bound x| ≤ bound := by
  rw [abs_le]
  unfold clampInt
  split
  · omega
  · split <;> omega

/-- What leaks away is a part of the velocity, so that a leak brings it no further from 0 (R31). -/
theorem abs_sub_trunc0_le (v : Int) {d : Int} (hd : 0 < d) : |v - trunc0 v d| ≤ |v| := by
  have hle : (v.tdiv d).natAbs ≤ v.natAbs := by
    rw [Int.natAbs_tdiv]
    exact Nat.div_le_self _ _
  have hsign : 0 ≤ v ∧ 0 ≤ v.tdiv d ∨ v ≤ 0 ∧ v.tdiv d ≤ 0 := by
    rcases le_total 0 v with h | h
    · exact .inl ⟨h, Int.tdiv_nonneg h hd.le⟩
    · have hneg : 0 ≤ (-v).tdiv d := Int.tdiv_nonneg (neg_nonneg.mpr h) hd.le
      rw [Int.neg_tdiv] at hneg
      exact .inr ⟨h, neg_nonneg.mp hneg⟩
  rw [trunc0, Int.abs_eq_natAbs, Int.abs_eq_natAbs]
  omega

theorem abs_leakAway_le {bound v : Int} (h : |v| ≤ bound) (isDropped : Bool) (leak : Nat) :
    |leakAway isDropped v leak| ≤ bound := by
  unfold leakAway
  split
  · exact (abs_nonneg v).trans h
  · exact (abs_sub_trunc0_le v (by positivity)).trans h

theorem abs_integrate_le (isDropped : Bool) (v : Int) (leak : Nat) (a : Int) : |integrate isDropped v leak a| ≤ 2000000 := by
  unfold integrate
  split
  · decide
  · exact abs_clampInt_le (by decide) _

theorem sound_heldOn {m : Motion} {params : Params} (h : m.sound params.holdLimit) (hl : m.held + 1 ≤ params.holdLimit)
    (dropB dropW : Bool) : (m.heldOn params dropB dropW).sound params.holdLimit :=
  ⟨hl, h.height, h.damper, abs_leakAway_le h.body _ _, abs_leakAway_le h.wheel _ _⟩

theorem sound_heldUpdate {k : CornerPart} {params : Params} (h : k.motion.sound params.holdLimit) (dropB dropW : Bool) :
    (k.heldUpdate params dropB dropW).motion.sound params.holdLimit := by
  by_cases hstale : k.reasons.stale = true ∨ params.holdLimit < k.motion.held + 1
  · rw [(heldUpdate_stale k params dropB dropW hstale).1]
    exact sound_unprimed _
  · obtain ⟨hfresh, hlimit⟩ := not_or.mp hstale
    rw [(heldUpdate_heldOn k params dropB dropW (by simpa using hfresh) (not_lt.mp hlimit)).1]
    exact sound_heldOn h (not_lt.mp hlimit) dropB dropW

/-- A fresh record has its velocities clamped, the damper's kept only where the record was not primed (R28 to R31). -/
theorem sound_fresh {m : Motion} {params : Params} (h : m.sound params.holdLimit) (x ab aw : Int) (dropB dropW : Bool) :
    (m.fresh params (clampHeight x) ab aw dropB dropW).sound params.holdLimit where
  held := Nat.zero_le _
  height := abs_clampInt_le (by decide) x
  damper := by
    unfold Motion.fresh
    dsimp only
    split
    · exact abs_clampInt_le (by decide) _
    · exact h.damper
  body := abs_integrate_le _ _ _ _
  wheel := abs_integrate_le _ _ _ _

theorem sound_sampleUpdate {k : CornerPart} {params : Params} (h : k.motion.sound params.holdLimit) (x : Sample)
    (dropB dropW : Bool) : (sampleUpdate params x dropB dropW k).motion.sound params.holdLimit := by
  unfold sampleUpdate
  split
  · exact sound_heldUpdate h dropB dropW
  · exact sound_fresh h x.h x.ab x.aw dropB dropW

/-! ## Operations that leave the reading (Ops.lean) -/

@[simp] theorem reading_raise (e : Event) (b : Byte) (p : Part) : reading (raise e b p) = reading p := rfl

theorem reading_modStore (f : Store → Store) (p : Part) : reading (p.modStore f) = reading p := rfl

@[simp] theorem reading_countCorner (c : Corner) (f : CornerCounters → CornerCounters) (p : Part) :
    reading (countCorner c f p) = reading p := reading_modCorner (fun _ => by rfl) c p

@[simp] theorem reading_countPort (x : Port) (f : PortCounters → PortCounters) (p : Part) :
    reading (countPort x f p) = reading p := reading_modPort x _ p

@[simp] theorem reading_goodFrame (x : Port) (p : Part) : reading (goodFrame x p) = reading p := reading_modPort x _ p

@[simp] theorem reading_arbitrateS (p : Part) : reading (arbitrateS p) = reading p :=
  reading_of_same (by simp) (by simp) (by simp) (by simp) (by simp)

@[simp] theorem reading_arbitrateW (p : Part) : reading (arbitrateW p) = reading p :=
  reading_of_same (by simp) (by simp) (by simp) (by simp) (by simp)

@[simp] theorem reading_placeWheelBound (f : Frame) (p : Part) : reading (placeWheelBound f p) = reading p :=
  reading_of_same (by simp) (by simp) (by simp) (by simp) (by simp)

@[simp] theorem reading_placeChassisBound (f : Frame) (p : Part) : reading (placeChassisBound f p) = reading p :=
  reading_of_same (by simp) (by simp) (by simp) (by simp) (by simp)

@[simp] theorem reading_placeReply (f : Frame) (p : Part) : reading (placeReply f p) = reading p :=
  reading_of_same (by simp) (by simp) (by simp) (by simp) (by simp)

@[simp] theorem reading_placeReport (f : Frame) (p : Part) : reading (placeReport f p) = reading p :=
  reading_of_same (by simp) (by simp) (by simp) (by simp) (by simp)

@[simp] theorem reading_setSubstitute (f : Frame) (p : Part) : reading (setSubstitute f p) = reading p :=
  reading_of_same (by simp) (by simp) (by simp) (by simp) (by simp)

@[simp] theorem reading_answerHeld (result reason : Byte) (data : List Byte) (p : Part) :
    reading (answerHeld result reason data p) = reading p :=
  reading_of_same (by simp) (by simp) (by simp) (by simp) (by simp)

@[simp] theorem reading_enterPassive (c : Corner) (p : Part) : reading (enterPassive c p) = reading p :=
  reading_of_same (by simp) (by simp) (by simp) (by simp) (by simp)

@[simp] theorem reading_returnToControl (c : Corner) (p : Part) : reading (returnToControl c p) = reading p :=
  reading_of_same (by simp) (by simp) (by simp) (by simp) (by simp)

@[simp] theorem reading_supervise (c : Corner) (p : Part) : reading (supervise c p) = reading p :=
  reading_of_same (by simp) (by simp) (by simp) (by simp) (by simp)

@[simp] theorem reading_putReason (which : Reason) (present : Bool) (c : Corner) (p : Part) :
    reading (putReason which present c p) = reading p :=
  reading_of_same (by simp) (by simp) (by simp) (by simp) (by simp)

@[simp] theorem reading_putReasons (which : Reason) (present : Bool) (p : Part) :
    reading (forCorners (putReason which present) p) = reading p := reading_forCorners (fun c => reading_putReason _ _ c) p

/-- The counter goes on: each comparator follows it, and no motion record does. -/
theorem reading_pass (w : Pwm) (p : Part) : reading (p.pass w) = reading p :=
  reading_of_same rfl rfl rfl rfl fun c => by
    rw [Part.corner, Part.pass, Quad.get_ofCorners]

/-! ## The loaded condition (R22, R113) -/

theorem upheld_unprime (c : Corner) (p : Part) : Upheld p (unprime c p) := .modCorner fun _ => sound_unprimed _

theorem upheld_enterUnloaded (p : Part) : Upheld p (enterUnloaded p) := by
  have hset : Upheld p (p.setControl .unloaded) := .of_reading rfl
  exact hset.trans (.forCorners upheld_unprime _)

theorem upheld_settleUnengaged (p : Part) : Upheld p (settleUnengaged p) := by
  unfold settleUnengaged
  split
  · exact .of_reading rfl
  · exact upheld_enterUnloaded p

theorem upheld_judgeLoaded (p : Part) : Upheld p (judgeLoaded p) := by
  unfold judgeLoaded
  split
  · exact Upheld.andWhen (.refl p) _ (.of_reading rfl)
  · split
    · exact .refl p
    · exact upheld_enterUnloaded p
  · exact .refl p

theorem upheld_judgeReleased (p : Part) : Upheld p (judgeReleased p) :=
  Upheld.andWhen (.refl p) _ (upheld_settleUnengaged p)

/-! ## The map store (chapters 4 and 8) -/

theorem reading_modBanks (f : Banks → Banks) (c : Corner) (p : Part) :
    reading (p.modCorner c (CornerPart.modBanks f)) = reading p := reading_modCorner (fun _ => by rfl) c p

theorem upheld_corruptActive (c : Corner) (id : BankId) (p : Part) : Upheld p (corruptActive c id p) := by
  refine Upheld.trans (.of_reading ?_) (upheld_judgeLoaded _)
  rw [reading_supervise, reading_raise]
  exact reading_modCorner (fun _ => by rfl) c p

theorem upheld_scrubCorner (c : Corner) (p : Part) : Upheld p (scrubCorner c p) := by
  unfold scrubCorner
  split
  · exact .refl p
  · split
    · exact .refl p
    · exact upheld_corruptActive c _ p

theorem upheld_scrub (p : Part) : Upheld p (scrub p) := (Upheld.forCorners upheld_scrubCorner p).andSame rfl

theorem upheld_swapEffect (c : Corner) (p : Part) : Upheld p (swapEffect c p) := by
  refine Upheld.trans (.of_reading ?_) (upheld_judgeLoaded _)
  rw [reading_raise, reading_putReason, reading_modBanks]

theorem upheld_swapIfPending (c : Corner) (p : Part) : Upheld p (swapIfPending c p) :=
  Upheld.andWhen (.refl p) _ (upheld_swapEffect c p)

theorem reading_judgeBank (c : Corner) (rest : List Corner) (x : MapOutcome) (outcomes : Quad MapOutcome) (p : Part) :
    reading (judgeBank c rest x outcomes p) = reading p := by
  unfold judgeBank
  dsimp only
  split
  · rw [reading_answerHeld]
    exact reading_modBanks _ c p
  · exact reading_modBanks _ c p

theorem reading_validationReading (p : Part) : reading (validationReading p) = reading p := by
  unfold validationReading
  split
  · rfl
  · rfl
  · split
    · rfl
    · exact reading_judgeBank _ _ _ _ p

theorem upheld_readFailure (c : Corner) (id : BankId) (p : Part) : Upheld p (readFailure c id p) := by
  unfold readFailure
  split
  · exact upheld_corruptActive c id p
  · exact .of_reading (reading_modBanks _ c p)
  · exact .refl p

theorem upheld_swapAct (o : SwapOutcome) (c : Corner) (p : Part) : Upheld p (swapAct o c p) := by
  unfold swapAct
  split
  · exact upheld_swapEffect c p
  · exact .of_reading (reading_modBanks _ c p)
  · exact .refl p

/-! ## Computations and samples (chapter 2) -/

theorem reading_feedChannel (c : Corner) (ch : Channel) (v : Option Int) (p : Part) :
    reading (feedChannel c ch v p) = reading p := by
  unfold feedChannel
  dsimp only
  split
  · rw [reading_raise]
    exact reading_modCorner (fun _ => by rfl) c p
  · exact reading_modCorner (fun _ => by rfl) c p

theorem reading_feedAndSettle (c : Corner) (ch : Channel) (v : Int) (p : Part) :
    reading (feedAndSettle c ch v p) = reading p := by
  unfold feedAndSettle
  dsimp only
  split
  · rw [reading_putReason, reading_feedChannel]
  · exact reading_feedChannel c ch _ p

theorem upheld_formTarget (c : Corner) (demand : Nat) (apply : Bool) (p : Part) : Upheld p (formTarget c demand apply p) := by
  unfold formTarget
  dsimp only
  split
  · exact .of_reading (reading_modCorner (fun _ => by rfl) c p)
  · split
    · exact .of_reading (reading_modCorner (fun _ => by rfl) c p)
    · exact Upheld.trans (.of_reading (reading_modCorner (fun _ => by rfl) c p)) (upheld_corruptActive c _ _)

theorem upheld_formDemand (c : Corner) (sky ground apply : Bool) (p : Part) :
    Upheld p (formDemand c sky ground apply p) := by
  unfold formDemand
  refine Upheld.trans (.of_reading ?_) (upheld_formTarget c _ apply _)
  exact reading_modCorner (fun _ => by rfl) c (p.setSelection _)

theorem upheld_demandStep (c : Corner) (sky ground : Bool) (p : Part) : Upheld p (demandStep c sky ground p) := by
  unfold demandStep
  split
  · exact upheld_formDemand c sky ground true p
  · exact upheld_formDemand c sky ground false p
  · exact .of_reading (reading_modCorner (fun _ => by rfl) c p)

theorem reading_addComputed (c : Corner) (fresh : Bool) (p : Part) : reading (addComputed c fresh p) = reading p := rfl

/-- A held computation: the held update, the supervisor's act, and the demand (R32, R39). -/
theorem upheld_heldComputation (c : Corner) (p : Part) : Upheld p (heldComputation c p) := by
  have hheld : Upheld (addComputed c false p) (heldPart c p) := .modCorner fun h => sound_heldUpdate h false false
  rw [heldComputation_eq]
  exact ((Upheld.of_reading (reading_addComputed c false p)).trans hheld).andSame (reading_supervise c _)
    |>.trans (upheld_demandStep c _ _ _)

/-- A fresh computation: the channels are fed, then the update, the supervisor's act and the demand (R24). -/
theorem upheld_freshComputation (c : Corner) (x : Sample) (p : Part) : Upheld p (freshComputation c x p) := by
  have hfed : Upheld p (feedChannels c x (addComputed c true (countCorner c (fun k => { k with fresh := inc k.fresh }) p))) :=
    .of_reading (by rw [feedChannels, reading_feedChannel, reading_feedChannel, reading_feedChannel, reading_addComputed,
      reading_countCorner])
  have hsampled : Upheld p (Estimation.sampledPart c x p) := by
    unfold Estimation.sampledPart
    exact hfed.trans (.modCorner fun h => sound_sampleUpdate h x _ _)
  obtain ⟨sky, ground, heq⟩ := freshComputation_eq c x p
  rw [heq]
  exact (hsampled.andSame (reading_supervise c _)).trans (upheld_demandStep c sky ground _)

theorem upheld_takeSample (c : Corner) (x : Sample) (p : Part) : Upheld p (takeSample c x p) := by
  unfold takeSample
  split
  case h_5 => exact upheld_freshComputation c x p
  case h_1 => exact .of_reading rfl
  all_goals exact .of_reading (reading_countCorner c _ p)

theorem upheld_offerSample (c : Corner) (payload : List Byte) (p : Part) : Upheld p (offerSample c payload p) := by
  unfold offerSample
  dsimp only
  split
  · exact .of_reading (reading_countCorner c _ p)
  · split
    · exact .of_reading (reading_countCorner c _ p)
    · exact Upheld.andWhen (.refl p) _ (upheld_takeSample c _ p)

/-! ## Valve diagnosis and supply (chapter 6) -/

theorem reading_endTest (c : Corner) (x : TestOutcome) (r : TestRecord) (p : Part) :
    reading (endTest c x r p) = reading p := by
  rw [endTest, reading_answerHeld]
  exact reading_modCorner (fun _ => by rfl) c p

theorem upheld_enterFault (c : Corner) (kind : FaultKind) (p : Part) : Upheld p (enterFault c kind p) := by
  unfold enterFault
  refine Upheld.trans (.of_reading ?_) (upheld_judgeReleased _)
  rw [reading_raise]
  exact reading_modCorner (fun _ => by rfl) c p

theorem upheld_suspicion (c : Corner) (kind : FaultKind) (p : Part) : Upheld p (suspicion c kind p) := by
  unfold suspicion
  extract_lets d q
  have hq : Upheld p q := .of_reading (reading_modCorner (fun _ => by rfl) c p)
  split
  · exact hq.andSame (reading_modCorner (fun _ => by rfl) c _)
  · split
    · exact hq.andSame (reading_modCorner (fun _ => by rfl) c _)
    · exact hq.trans (upheld_enterFault c kind _)

theorem reading_setRuns (c : Corner) (o s l : CornerPart → Nat) (p : Part) :
    reading (p.modCorner c fun k => k.setRuns (o k) (s k) (l k)) = reading p := reading_modCorner (fun _ => by rfl) c p

theorem upheld_handoffRegulating (c : Corner) (im : Int) (p : Part) : Upheld p (handoffRegulating c im p) := by
  unfold handoffRegulating
  dsimp only
  split
  · exact Upheld.trans (.of_reading (reading_setRuns c _ _ _ p)) (upheld_suspicion c _ _)
  · split
    · exact Upheld.trans (.of_reading (reading_setRuns c _ _ _ p)) (upheld_suspicion c _ _)
    · exact .of_reading (reading_setRuns c _ _ _ p)

theorem reading_handoffTesting (c : Corner) (im : Int) (r : TestRecord) (p : Part) :
    reading (handoffTesting c im r p) = reading p := by
  unfold handoffTesting
  dsimp only
  split
  · rw [reading_endTest]
    exact reading_modCorner (fun _ => by rfl) c p
  · split
    · rw [reading_endTest]
      exact reading_modCorner (fun _ => by rfl) c p
    · exact reading_modCorner (fun _ => by rfl) c p

theorem upheld_handoffLeak (c : Corner) (im : Int) (p : Part) : Upheld p (handoffLeak c im p) := by
  unfold handoffLeak
  split
  · exact upheld_enterFault c _ p
  · exact .of_reading (reading_setRuns c _ _ _ p)

theorem upheld_handoff (c : Corner) (im : Int) (p : Part) : Upheld p (handoff c im p) := by
  unfold handoff
  split
  · exact upheld_handoffRegulating c im p
  · exact .of_reading (reading_handoffTesting c im _ p)
  · exact upheld_handoffLeak c im p
  · exact .of_reading (reading_setRuns c _ _ _ p)

theorem reading_countWindow (c : Corner) (e : Episode) (w : Nat) (p : Part) : reading (countWindow c e w p) = reading p := by
  unfold countWindow
  split
  · rw [reading_raise]
    exact reading_modCorner (fun _ => by rfl) c p
  · exact reading_modCorner (fun _ => by rfl) c p

theorem reading_episodeAtCycleStart (c : Corner) (p : Part) : reading (episodeAtCycleStart c p) = reading p := by
  unfold episodeAtCycleStart
  split
  · exact reading_modCorner (fun _ => by rfl) c p
  · exact reading_countWindow c _ _ p
  · rfl

theorem reading_assertSupply (detector : Byte) (p : Part) : reading (assertSupply detector p) = reading p := by
  rw [assertSupply, reading_putReasons, reading_raise]

theorem reading_when {cond : Prop} [Decidable cond] {q r : Part} (h : reading q = reading r) :
    reading (if cond then q else r) = reading r := by
  split
  · exact h
  · rfl

theorem reading_supplySample (mv : Nat) (p : Part) : reading (supplySample mv p) = reading p := by
  unfold supplySample
  dsimp only
  rw [reading_when (reading_putReasons _ _ _), reading_when (reading_assertSupply _ _),
    reading_when (reading_assertSupply _ _)]
  rfl

/-! ## Cycles (chapter 1) -/

theorem upheld_computeHeld (c : Corner) (p : Part) : Upheld p (computeHeld c p) :=
  Upheld.andWhen (.refl p) _ (upheld_heldComputation c p)

theorem reading_stopMeans (p : Part) :
    reading (forCorners (fun c p => p.modCorner c fun k => { k with reg := k.reg.stopMean }) p) = reading p :=
  reading_forCorners (reading_modCorner fun _ => by rfl) p

theorem upheld_closeCycle (p : Part) : Upheld p (closeCycle p) := by
  have hshut : Upheld p (p.modTracker Tracker.shut) := .of_reading rfl
  refine (hshut.trans (.forCorners upheld_computeHeld _)).andSame ?_
  rw [closeCycle, reading_stopMeans, reading_placeReport]

theorem upheld_closeOpen (p : Part) : Upheld p (closeOpen p) := by
  unfold closeOpen
  split
  · exact .refl p
  · exact upheld_closeCycle p

theorem upheld_cornerAtCycleStart (c : Corner) (p : Part) : Upheld p (cornerAtCycleStart c p) := by
  have hstarted : Upheld p (p.modCorner c fun k => { k with reg := k.reg.startMean }) :=
    .of_reading (reading_modCorner (fun _ => by rfl) c p)
  exact (hstarted.trans (upheld_swapIfPending c _)).andSame (reading_episodeAtCycleStart c _)

/-- Where the spacing holds, 250 µs have passed since the last cycle start (R3). -/
def MayStart (p : Part) : Prop := spaced p → ∀ a, p.tracker.lastStart = some a → a + 10000 ≤ p.now

theorem MayStart.congr {p q : Part} (h : MayStart p) (hnow : q.now = p.now)
    (hstart : q.tracker.lastStart = p.tracker.lastStart) (hmiss : q.tracker.missAt = p.tracker.missAt) : MayStart q := by
  rw [MayStart, spaced, hnow, hstart, hmiss]
  exact h

theorem mayStart_of_not_blanks {p : Part} (h : p.blanks = false) : MayStart p := by
  intro _ a ha
  rw [Part.blanks, ha] at h
  exact not_lt.mp (of_decide_eq_false h)

/-- The miss timer expires 250 µs or more after the last cycle start, wherever the spacing holds. -/
theorem mayStart_of_miss {m : Nat} {p : Part} (hm : p.tracker.missAt = some m) (hnow : m ≤ p.now) : MayStart p :=
  fun hp a ha => ((hp a ha).2 m hm).trans hnow

theorem missTicks_ge (x : TrackerState) : 10000 ≤ x.missTicks := by cases x <;> decide

/-- A cycle start records the present instant, and sets the miss timer ahead of it. -/
theorem upheld_cycleStart (kind : StartKind) (number : Word) {p : Part} (h : MayStart p) :
    Upheld p (cycleStart kind number p) := by
  have hstarted : Upheld p (p.modTracker fun t => t.start kind number p.now p.params.deadline) :=
    { spacing := fun hp => by
        refine ⟨?_, fun a ha => ⟨p.now, rfl, .inr (h hp a ha)⟩⟩
        rintro a ⟨⟩
        refine ⟨le_rfl, ?_⟩
        rintro m ⟨⟩
        exact Nat.add_le_add_left (missTicks_ge _) _
      motion := fun hp => ⟨hp.context, hp.motion, hp.run⟩ }
  exact hstarted.trans (.forCorners upheld_cornerAtCycleStart _)

theorem closeCycle_lastStart_missAt (p : Part) : (closeCycle p).tracker.lastStart = p.tracker.lastStart ∧
    (closeCycle p).tracker.missAt = p.tracker.missAt := by
  have hstep (c : Corner) (q : Part) : ((computeHeld c q).tracker.lastStart, (computeHeld c q).tracker.missAt) =
      (q.tracker.lastStart, q.tracker.missAt) := by
    unfold computeHeld
    split
    · rw [heldComputation_tracker]
    · rfl
  have hall := forCorners_same (fun q => (q.tracker.lastStart, q.tracker.missAt)) hstep (p.modTracker Tracker.shut)
  have hclosed : ((closeCycle p).tracker.lastStart, (closeCycle p).tracker.missAt) =
      ((forCorners computeHeld (p.modTracker Tracker.shut)).tracker.lastStart,
        (forCorners computeHeld (p.modTracker Tracker.shut)).tracker.missAt) := by
    simp [closeCycle, forCorners]
  exact Prod.mk.inj (hclosed.trans hall)

theorem MayStart.closeOpen {p : Part} (h : MayStart p) : MayStart (closeOpen p) := by
  unfold Machine.closeOpen
  split
  · exact h
  · obtain ⟨hstart, hmiss⟩ := closeCycle_lastStart_missAt p
    exact h.congr (closeCycle_now p) hstart hmiss

theorem sound_adopt {x : Context} (c : CycPayload) : (x.adopt c).sound := by
  refine ⟨Nat.min_le_right _ _, fun d => ?_⟩
  change |(c.offsets.map _).get d| ≤ 8000
  rw [Quad.get_map]
  exact abs_clampInt_le (by decide) _

theorem upheld_adopt (c : CycPayload) (p : Part) : Upheld p (adopt c p) := by
  have hadopted : Upheld p (p.modContext fun x => x.adopt c) := .modContext fun _ => sound_adopt c
  exact hadopted.andSame rfl

/-- A blanked CYC sets the miss timer ahead of its own arrival, which no cycle start follows (R3). -/
theorem upheld_blank (p : Part) : Upheld p (p.modTracker fun t => t.blank p.now) where
  spacing hp := by
    refine ⟨fun a ha => ⟨(hp a ha).1, ?_⟩, .of_eq rfl⟩
    rintro m ⟨⟩
    have := (hp a ha).1
    have hgrace : 10000 ≤ Config.tCycGrace := by decide
    omega
  motion hp := ⟨hp.context, hp.motion, Nat.zero_le _⟩

theorem upheld_takeCyc (dst src : Byte) (c : CycPayload) (p : Part) : Upheld p (takeCyc dst src c p) := by
  unfold takeCyc
  split
  · exact ((upheld_adopt c p).trans (upheld_blank (adopt c p))).andSame rfl
  · rename_i hblanks
    have hmay : MayStart ((adopt c (closeOpen p)).modTracker Tracker.lock) :=
      (mayStart_of_not_blanks (by simpa using hblanks)).closeOpen.congr rfl rfl rfl
    have hlocked : Upheld p ((adopt c (closeOpen p)).modTracker Tracker.lock) :=
      ((upheld_closeOpen p).trans (upheld_adopt c _)).trans (.modTracker rfl (.inl rfl) fun _ => Nat.zero_le _)
    exact (hlocked.trans (upheld_cycleStart _ _ hmay)).andSame (reading_placeWheelBound _ _)

theorem upheld_enterUnlocked (p : Part) : Upheld p (enterUnlocked p) := by
  have hunlocked : Upheld p (p.modTracker Tracker.unlock) := .modTracker rfl (.inr rfl) fun _ => Nat.zero_le _
  exact (hunlocked.trans (.forCorners upheld_unprime _)).andSame (reading_putReasons _ _ _)

theorem sound_zeroed {x : Context} (h : x.sound) : ({ x with offsets := .fill 0, source := .localSource } : Context).sound :=
  ⟨h.1, fun c => by simp⟩

theorem upheld_enterLocal (cause : Byte) (p : Part) : Upheld p (enterLocal cause p) :=
  Upheld.andSame ((Upheld.modTracker rfl (.inl rfl) id).trans (.modContext sound_zeroed)) (reading_raise _ _ _)

theorem upheld_enterHoldover (p : Part) : Upheld p (enterHoldover p) := by
  have hentered : Upheld p (p.modTracker fun t => { t with state := .holdover, runCount := 0 }) :=
    .modTracker rfl (.inl rfl) fun _ => Nat.zero_le _
  exact (hentered.andSame (reading_raise _ _ _)).trans (.modContext id)

theorem upheld_countRun {p : Part} (h : p.tracker.runCount < Config.holdoverLimit) : Upheld p (countRun p) :=
  .modTracker rfl (.inl rfl) fun _ => h

theorem upheld_originate {p : Part} (h : MayStart p) : Upheld p (originate p) := by
  refine ((upheld_closeOpen p).trans (upheld_cycleStart .substitute p.nextNumber h.closeOpen)).andSame ?_
  rw [originate, reading_setSubstitute]
  rfl

theorem upheld_missExpiry {p : Part} (h : MayStart p) : Upheld p (missExpiry p) := by
  unfold missExpiry
  split
  · exact .refl p
  · split
    · have hmay : MayStart (countRun (enterHoldover p)) := h.congr rfl rfl rfl
      exact ((upheld_enterHoldover p).trans (upheld_countRun (Nat.zero_lt_succ _))).trans (upheld_originate hmay)
    · exact upheld_enterUnlocked p
  · split
    · have hmay : MayStart (countRun p) := h.congr rfl rfl rfl
      exact (upheld_countRun (by assumption)).trans (upheld_originate hmay)
    · have hmay : MayStart (enterLocal 0 p) := h.congr rfl rfl rfl
      exact (upheld_enterLocal 0 p).trans (upheld_originate hmay)
  · exact upheld_originate h

theorem upheld_stopSubstitution (p : Part) : Upheld p (stopSubstitution p) := by
  unfold stopSubstitution
  split
  · exact (upheld_closeOpen p).trans (upheld_enterUnlocked _)
  · exact (upheld_closeOpen p).trans (upheld_enterUnlocked _)
  · exact .refl p

theorem upheld_expireMiss (p : Part) : Upheld p (expire p.tracker.missAt missExpiry p) := by
  unfold expire
  split
  · exact .refl p
  · exact (Upheld.reach _ p).trans (upheld_missExpiry (mayStart_of_miss (by assumption) (Nat.le_max_right _ _)))

theorem upheld_expireDeadline (p : Part) : Upheld p (expire p.tracker.deadlineAt (fun p =>
    if p.tracker.record.closed then p.modTracker (fun t => { t with deadlineAt := none }) else closeCycle p) p) := by
  unfold expire
  split
  · exact .refl p
  · dsimp only
    split
    · exact (Upheld.reach _ p).andSame rfl
    · exact (Upheld.reach _ p).trans (upheld_closeCycle _)

/-! ## The supervisor and the regulators (chapters 5 and 7) -/

theorem reading_cornerAtEngaged (c : Corner) (p : Part) : reading (cornerAtEngaged c p) = reading p := by
  unfold cornerAtEngaged
  split
  · split
    · exact reading_returnToControl c p
    · exact reading_enterPassive c p
  · rfl

theorem reading_judgeEngaged (p : Part) : reading (judgeEngaged p) = reading p :=
  reading_when (reading_forCorners reading_cornerAtEngaged _)

theorem upheld_calibrationOutcome (c : Corner) (sum : Nat) (p : Part) : Upheld p (calibrationOutcome c sum p) := by
  unfold calibrationOutcome
  extract_lets x q
  have hq : Upheld p q := .of_reading (reading_modCorner (fun _ => by rfl) c p)
  have hfault : Upheld p (enterFault c .senseOffset q) := hq.trans (upheld_enterFault c _ q)
  split
  · refine Upheld.andSame ?_ (reading_judgeEngaged _)
    split
    · exact hq.andSame (reading_modCorner (fun _ => by rfl) c _)
    · exact hfault
  · split
    · exact hq.andSame (reading_modCorner (fun _ => by rfl) c _)
    · exact hfault
  · split
    · exact hq.andSame (reading_modCorner (fun _ => by rfl) c _)
    · exact hq.andSame (reading_endTest c _ _ _)
  · exact hq

theorem upheld_turnOff (c : Corner) (p : Part) : Upheld p (p.modCorner c CornerPart.turnOff) :=
  .of_reading (reading_modCorner (fun _ => by rfl) c p)

theorem upheld_rampDone (c : Corner) (p : Part) : Upheld p (rampDone c p) := by
  unfold rampDone
  split
  · exact (upheld_turnOff c p).trans (upheld_judgeReleased _)
  · exact (upheld_turnOff c p).trans (upheld_judgeReleased _)
  · exact .of_reading (reading_modCorner (fun _ => by rfl) c p)
  · exact .of_reading (reading_modCorner (fun _ => by rfl) c p)

theorem upheld_latchReport (c : Corner) (p : Part) : Upheld p (latchReport c p) := by
  unfold latchReport
  split
  · exact Upheld.trans (.of_reading (reading_setRuns c _ _ _ p)) (upheld_suspicion c _ _)
  · exact (upheld_turnOff c p).trans (upheld_judgeReleased _)
  · exact (upheld_turnOff c p).trans (upheld_judgeReleased _)
  · exact .of_reading (reading_modCorner (fun _ => by rfl) c p)
  · exact .of_reading (reading_endTest c _ _ p)
  · exact .refl p

theorem upheld_regulatorPeriodStart (c : Corner) (p : Part) : Upheld p (regulatorPeriodStart c p) := by
  unfold regulatorPeriodStart
  extract_lets q r
  have hq : Upheld p q := .of_reading (reading_modCorner (fun _ => by rfl) c p)
  have hr : Upheld p r := hq.andWhen _ (upheld_rampDone c q)
  exact hr.andSame (reading_modCorner (fun _ => by rfl) c _)

theorem upheld_periodStart (mv : Nat) (p : Part) : Upheld p (periodStart mv p) := by
  unfold periodStart
  extract_lets q
  have hq : Upheld p q := .of_reading rfl
  refine ((hq.trans (.forCorners upheld_regulatorPeriodStart _)).trans (upheld_scrub _)).andSame ?_
  rw [reading_validationReading, reading_supplySample]

theorem upheld_concludeCalibration (c : Corner) (p : Part) : Upheld p (concludeCalibration c p) := by
  unfold concludeCalibration
  split
  · exact Upheld.andWhen (.refl p) _ (upheld_calibrationOutcome c _ p)
  · exact .refl p

theorem upheld_currentSample (c : Corner) (raw : BitVec 12) (p : Part) : Upheld p (currentSample c raw p) := by
  unfold currentSample
  extract_lets im q
  have hq : Upheld p q := .of_reading (reading_pass _ p)
  have htaken := hq.andSame (reading_modCorner (f := fun k => { k with reg := k.reg.takeSample p.params raw.toNat im })
    (fun _ => by rfl) c q)
  exact (htaken.trans (upheld_handoff c im _)).trans (upheld_concludeCalibration c _)

theorem reading_limitTrip (c : Corner) (p : Part) : reading (limitTrip c p) = reading p := by
  unfold limitTrip
  split
  · rfl
  · rw [reading_raise]
    exact reading_modCorner (fun _ => by rfl) c p

theorem upheld_latchTrip (c : Corner) (p : Part) : Upheld p (latchTrip c p) := by
  unfold latchTrip
  refine Upheld.trans (.of_reading ?_) (upheld_latchReport c _)
  exact reading_modCorner (fun _ => by rfl) c p

theorem upheld_overcurrentTrip (c : Corner) (raw : BitVec 12) (p : Part) : Upheld p (overcurrentTrip c raw p) := by
  unfold overcurrentTrip
  extract_lets q
  have hreached : reading (reachTrip c raw p) = reading p := reading_pass _ _
  have hq : Upheld p q := .of_reading <| by
    refine (reading_countCorner c _ _).trans (Eq.trans ?_ hreached)
    exact reading_modCorner (fun _ => by rfl) c _
  split
  · exact hq.trans (upheld_latchTrip c q)
  · exact hq.andSame (reading_limitTrip c q)

theorem upheld_endByCause (c : Corner) (cause : TestEndCause) (p : Part) : Upheld p (endByCause c cause p) := by
  unfold endByCause
  split
  · exact upheld_handoff c _ p
  · exact upheld_latchTrip c p
  · exact upheld_calibrationOutcome c _ p

/-! ## Resets (spec 00, 4) -/

theorem upheld_softResetWith (cause : Byte) (p : Part) : Upheld p (softResetWith cause p) where
  spacing hp := ⟨fun a ha => ⟨(hp a ha).1, nofun⟩, .of_eq rfl⟩
  motion hp :=
    { context := sound_zeroed hp.context
      motion := fun c => by
        have hmotion : ((softResetWith cause p).corner c).motion = .unprimed :=
          congrArg CornerPart.motion (Quad.get_map _ p.corners c)
        exact sound_of_unprimed hmotion _
      run := Nat.zero_le _ }

theorem reading_linkResetStore (p : Part) : reading (linkResetStore p) = reading p :=
  reading_of_same rfl rfl rfl rfl fun c =>
    (congrArg CornerPart.motion (Quad.get_map (CornerPart.modBanks Banks.reset) p.corners c)).trans rfl

theorem reading_clearLink (p : Part) : reading (clearLink p) = reading p := by
  unfold clearLink
  dsimp only
  rw [reading_when (reading_putReasons _ _ _), reading_modPort, reading_modPort]
  rfl

theorem upheld_takeLinkReset (f : Frame) (p : Part) : Upheld p (takeLinkReset f p) := by
  unfold takeLinkReset
  refine Upheld.andSame ?_ (reading_placeWheelBound _ _)
  refine Upheld.andSame ?_ (reading_clearLink _)
  split
  · exact upheld_softResetWith 2 p
  · exact .of_reading (reading_linkResetStore p)

/-! ## The orders (chapter 10) -/

/-- What an order does, whatever its arguments, upholds both conditions. -/
def HandlerUpholds (h : Handler) : Prop := ∀ args p, Upheld p (h args p).1

theorem upholds_queryStatus : HandlerUpholds queryStatus := by
  intro args p
  unfold queryStatus
  split
  · split
    · exact .refl p
    · split
      · split <;> exact .refl p
      · exact .refl p
  · exact .refl p

theorem upholds_readParam : HandlerUpholds readParam := by
  intro args p
  unfold readParam
  split
  · split <;> exact .refl p
  · exact .refl p

theorem holdLimit_set {x : ParamId} (hx : x ≠ .holdLimit) (v : Nat) (params : Params) :
    (params.set x v).holdLimit = params.holdLimit := ParameterStore.get_set_of_ne (Ne.symm hx) params v

/-- A write of another parameter reaches the regulators at most. -/
theorem reading_writeEffect {x : ParamId} (hx : x ≠ .holdLimit) (v : Nat) (p : Part) :
    reading (writeEffect x (storeParam x v p)) = reading p := by
  have hstored : reading (storeParam x v p) = reading p := by
    change Reading.mk _ _ _ _ _ (p.params.set x v).holdLimit _ = _
    rw [holdLimit_set hx]
    rfl
  have hrebound (q : Part) : reading (reboundAll q) = reading q :=
    reading_forCorners (fun c r => reading_modCorner (f := reboundCorner r) (fun _ => by rfl) c r) q
  unfold writeEffect
  split
  · exact (hrebound _).trans hstored
  · exact (hrebound _).trans hstored
  · exact absurd rfl hx
  · exact hstored

theorem clock_of_cornersAndEventsOnly {p q : Part} (h : cornersAndEventsOnly p q) :
    q.now = p.now ∧ q.tracker = p.tracker ∧ q.context = p.context ∧ q.params = p.params :=
  have heq : q = { p with corners := q.corners, events := q.events } := h
  ⟨by rw [heq], by rw [heq], by rw [heq], by rw [heq]⟩

/-- A write of HOLD_LIMIT unprimes every record that is held beyond it (R34, R171). -/
theorem upheld_writeHoldLimit (v : Nat) (p : Part) : Upheld p (writeEffect .holdLimit (storeParam .holdLimit v p)) where
  spacing hp := by
    obtain ⟨hnow, htracker, -, -⟩ := clock_of_cornersAndEventsOnly (writeEffect_holdLimit_eq (storeParam .holdLimit v p))
    exact ⟨spaced_of_same hnow htracker hp, .of_eq (congrArg Tracker.lastStart htracker)⟩
  motion hp := by
    obtain ⟨-, htracker, hcontext, hparams⟩ :=
      clock_of_cornersAndEventsOnly (writeEffect_holdLimit_eq (storeParam .holdLimit v p))
    refine ⟨by rw [hcontext]; exact hp.context, fun c => ?_, by rw [htracker]; exact hp.run⟩
    obtain ⟨q, -, hlimits, hcorner, heq⟩ := writeEffect_holdLimit_corner c (storeParam .holdLimit v p)
    have hlimit : (writeEffect .holdLimit (storeParam .holdLimit v p)).params.holdLimit = q.params.holdLimit := by
      rw [hparams, hlimits]
    have hwas : (q.corner c).motion.sound p.params.holdLimit := by
      rw [hcorner]
      exact hp.motion c
    rw [heq, hlimit]
    by_cases hheld : q.params.holdLimit < (q.corner c).motion.held
    · rw [(holdWritten_corner_of_lt hheld).1]
      exact sound_unprimed _
    · rw [holdWritten_of_le (not_lt.mp hheld)]
      exact ⟨not_lt.mp hheld, hwas.height, hwas.damper, hwas.body, hwas.wheel⟩

theorem upholds_writeParam : HandlerUpholds writeParam := by
  intro args p
  unfold writeParam
  split
  · split
    · exact .refl p
    · rename_i x _
      split
      · exact .refl p
      · by_cases hx : x = .holdLimit
        · subst hx
          dsimp only
          exact upheld_writeHoldLimit _ p
        · dsimp only
          exact .of_reading (reading_writeEffect hx _ p)
  · exact .refl p

theorem upholds_gainWrite : HandlerUpholds gainWrite := by
  intro args p
  unfold gainWrite
  split
  · split
    · exact .refl p
    · dsimp only
      split
      · refine Upheld.trans (.of_reading ?_) (upheld_judgeLoaded _)
        rfl
      · exact .refl p
  · exact .refl p

theorem upholds_gainClear : HandlerUpholds gainClear := by
  intro args p
  unfold gainClear
  split
  · split
    · exact .refl p
    · split
      · exact .refl p
      · exact .refl p
      · refine Upheld.trans (.of_reading ?_) (upheld_judgeLoaded _)
        rfl
  · exact .refl p

theorem upholds_mapOpen : HandlerUpholds mapOpen := by
  intro args p
  have hopened (named : Quad Bool) (g : Store → Store) : Upheld p ((forCorners (fun c p =>
      p.modCorner c (CornerPart.modBanks (Banks.opened (named.get c)))) p).modStore g) :=
    .of_reading ((reading_modStore g _).trans (reading_forCorners (fun c => reading_modBanks _ c) p))
  unfold mapOpen
  split
  · split
    · dsimp only
      split
      · exact .refl p
      · split
        · exact .refl p
        · dsimp only
          exact hopened _ _
    · exact .refl p
  · exact .refl p

/-- An operation of the load group changes banks and load state alone. -/
theorem upheld_inGroup (f : Banks → Banks) (g : Store → Store) (p : Part) : Upheld p ((forCorners (fun c q =>
    if q.store.group.get c then q.modCorner c (CornerPart.modBanks f) else q) p).modStore g) :=
  .of_reading ((reading_modStore g _).trans (reading_forCorners (fun c _ => reading_when (reading_modBanks f c _)) p))

theorem upholds_mapData : HandlerUpholds mapData := by
  intro args p
  unfold mapData
  split
  · split
    · exact .refl p
    · split
      · exact .refl p
      · split
        · exact .refl p
        · split
          · exact .refl p
          · dsimp only
            exact upheld_inGroup _ _ p
  · exact .refl p

theorem upholds_mapClose : HandlerUpholds mapClose := by
  intro args p
  unfold mapClose
  split
  · split
    · exact .refl p
    · split
      · exact .refl p
      · dsimp only
        exact upheld_inGroup _ _ p
  · exact .refl p

theorem upholds_mapSwap : HandlerUpholds mapSwap := by
  intro args p
  have hall (o : Corner → SwapOutcome) : Upheld p (forCorners (fun c => swapAct (o c) c) p) :=
    .forCorners (fun c => upheld_swapAct (o c) c) p
  unfold mapSwap
  split
  · split
    · dsimp only
      split
      · dsimp only
        exact hall _
      · exact .refl p
    · exact .refl p
  · exact .refl p

theorem upholds_mapRead : HandlerUpholds mapRead := by
  intro args p
  unfold mapRead
  split
  · split
    · split
      · exact .refl p
      · dsimp only
        split
        · exact .refl p
        · split
          · exact .refl p
          · exact upheld_readFailure _ _ p
    · exact .refl p
  · exact .refl p

theorem upholds_engage : HandlerUpholds engage := by
  intro args p
  have hbegun (c : Corner) (q : Part) :
      reading (if (q.corner c).state = .off then q.modCorner c CornerPart.beginEngage else q) = reading q :=
    reading_when (reading_modCorner (fun _ => by rfl) c q)
  unfold engage
  split
  · split
    · exact .refl p
    · split
      · exact .refl p
      · refine .of_reading ((reading_judgeEngaged _).trans ?_)
        exact reading_forCorners hbegun _
  · exact .refl p

theorem motion_dropEngage (k : CornerPart) : k.dropEngage.motion = k.motion := by
  unfold CornerPart.dropEngage
  split <;> rfl

theorem motion_release (k : CornerPart) : k.release.motion = k.motion := by
  unfold CornerPart.release
  split <;> rfl

theorem upholds_release : HandlerUpholds release := by
  intro args p
  have hdropped : Upheld p (forCorners (fun c q => q.modCorner c CornerPart.dropEngage) p) :=
    .of_reading (reading_forCorners (reading_modCorner motion_dropEngage) p)
  have hreleased : Upheld p (forCorners (fun c q => q.modCorner c CornerPart.release) (p.setControl .releasing)) :=
    .of_reading (reading_forCorners (reading_modCorner motion_release) _)
  unfold release
  split
  · split
    · exact hdropped.trans (upheld_settleUnengaged _)
    · exact ((hreleased.trans (.forCorners upheld_unprime _)).trans (upheld_stopSubstitution _)).trans (upheld_judgeReleased _)
    · exact .refl p
  · exact .refl p

theorem upholds_valveTest : HandlerUpholds valveTest := by
  intro args p
  unfold valveTest
  split
  · split
    · exact .refl p
    · split
      · exact .refl p
      · split
        · exact .refl p
        · exact .of_reading (reading_modCorner (fun _ => by rfl) _ p)
  · exact .refl p

theorem reading_leaveFault (c : Corner) (p : Part) : reading (leaveFault c p) = reading p := by
  unfold leaveFault
  split
  · exact reading_modCorner (fun _ => by rfl) c p
  · split
    · exact reading_returnToControl c p
    · exact reading_enterPassive c p
  · exact reading_modCorner (fun _ => by rfl) c p

theorem upholds_clearFault : HandlerUpholds clearFault := by
  intro args p
  unfold clearFault
  split
  · split
    · exact .refl p
    · split
      · exact .refl p
      · refine .of_reading ((reading_leaveFault _ _).trans ?_)
        exact reading_modCorner (fun _ => by rfl) _ p
  · exact .refl p

theorem upholds_fetchEvent : HandlerUpholds fetchEvent := by
  intro args p
  unfold fetchEvent
  split
  · split
    · exact .refl p
    · exact .of_reading rfl
  · exact .refl p

theorem reading_clear (g : CounterGroup) (p : Part) : reading (g.clear p) = reading p := by
  cases g with
  | port x => exact reading_countPort x _ p
  | corner c => exact reading_countCorner c _ p
  | whole => rfl

theorem upholds_readCounters : HandlerUpholds readCounters := by
  intro args p
  unfold readCounters
  split
  · split
    · exact .refl p
    · split
      · exact .refl p
      · split
        · exact .of_reading (reading_clear _ p)
        · exact .refl p
  · exact .refl p

theorem upholds_softReset : HandlerUpholds softReset := by
  intro args p
  unfold softReset
  split
  · exact upheld_softResetWith 1 p
  · exact .refl p

theorem upholds_unknownOrder : HandlerUpholds unknownOrder := fun _ p => .refl p

theorem HandlerUpholds.ite {cond : Prop} [Decidable cond] {h h' : Handler} (hh : HandlerUpholds h) (hh' : HandlerUpholds h') :
    HandlerUpholds (if cond then h else h') := by
  split
  · exact hh
  · exact hh'

theorem upholds_orderHandler (code : Byte) : HandlerUpholds (orderHandler code) :=
  .ite upholds_queryStatus <| .ite upholds_readParam <| .ite upholds_writeParam <| .ite upholds_gainWrite <|
  .ite upholds_gainClear <| .ite upholds_mapOpen <| .ite upholds_mapData <| .ite upholds_mapClose <|
  .ite upholds_mapSwap <| .ite upholds_mapRead <| .ite upholds_engage <| .ite upholds_release <|
  .ite upholds_valveTest <| .ite upholds_clearFault <| .ite upholds_fetchEvent <| .ite upholds_readCounters <|
  .ite upholds_softReset upholds_unknownOrder

theorem upheld_settleOrder (o : OrderIn) (code : Byte) {p : Part} {r : Part × Answer} (h : Upheld p r.1) :
    Upheld p (settleOrder o code r) := by
  unfold settleOrder
  split
  · exact h.andSame (reading_placeReply _ _)
  · exact h.andSame rfl

theorem upheld_takeOrder (o : OrderIn) (code : Byte) {h : Handler} (hh : HandlerUpholds h) (p : Part) :
    Upheld p (takeOrder o code h p) := by
  unfold takeOrder
  split
  · exact .of_reading rfl
  · split
    · exact upheld_settleOrder o code (.refl p)
    · exact upheld_settleOrder o code (hh o.args p)

theorem upheld_orderArrival (o : OrderIn) (code : Byte) {h : Handler} (hh : HandlerUpholds h) (p : Part) :
    Upheld p (orderArrival o code h p) := Upheld.trans (.of_reading (reading_goodFrame .s p)) (upheld_takeOrder o code hh _)

/-! ## The ports (chapter 9) -/

theorem upheld_routeS (f : Frame) (p : Part) : Upheld p (routeS f p) := by
  unfold routeS
  split
  · unfold routeCyc
    split
    · exact upheld_takeCyc _ _ _ p
    · exact .of_reading (reading_placeWheelBound f p)
  · split
    · exact upheld_takeLinkReset f p
    · split
      · split
        · exact upheld_takeOrder _ _ (upholds_orderHandler _) p
        · exact .of_reading (reading_countPort _ _ p)
      · exact .of_reading (reading_placeWheelBound f p)

theorem upheld_offerBySource (f : Frame) (p : Part) : Upheld p (offerBySource f p) := by
  unfold offerBySource
  split
  · exact upheld_offerSample _ _ p
  · exact .refl p

theorem upheld_routeW (f : Frame) (p : Part) : Upheld p (routeW f p) := by
  unfold routeW
  split
  · exact (upheld_offerBySource f p).andSame (reading_placeChassisBound f _)
  · split
    · exact .of_reading (reading_countPort _ _ p)
    · exact .of_reading (reading_placeChassisBound f p)

theorem upheld_goodArrival (x : Port) (f : Frame) (p : Part) : Upheld p (goodArrival x f p) := by
  cases x with
  | s => exact Upheld.trans (.of_reading (reading_goodFrame .s p)) (upheld_routeS f _)
  | w => exact Upheld.trans (.of_reading (reading_goodFrame .w p)) (upheld_routeW f _)

theorem upheld_receiveRun (x : Port) (run : List Byte) (p : Part) : Upheld p (receiveRun x run p) := by
  have hdropped (f : PortCounters → PortCounters) : Upheld p (countPort x f (p.modPort x PortPart.errs)) :=
    .of_reading ((reading_countPort x f _).trans (reading_modPort x _ p))
  unfold receiveRun
  split
  · exact hdropped _
  · exact hdropped _
  · exact upheld_goodArrival x _ p

theorem upheld_completeSending (x : Port) (y : Sending) (p : Part) : Upheld p (completeSending x y p) := by
  have hidle := (Upheld.reach y.doneAt p).andSame (reading_modPort x (fun k => { k with sending := none }) _)
  cases x with
  | s => exact hidle.andSame (reading_arbitrateS _)
  | w => exact hidle.andSame (reading_arbitrateW _)

theorem upheld_losAsserted (x : Port) (p : Part) : Upheld p (losAsserted x p) := by
  cases x with
  | s => exact Upheld.andWhen (.of_reading (reading_raise _ _ p)) _ (upheld_enterLocal 1 _)
  | w => exact .of_reading ((reading_putReasons .link true _).trans (reading_raise (.linkLos .w) 0 p))

theorem reading_losCleared (x : Port) (p : Part) : reading (losCleared x p) = reading p := by
  cases x with
  | s => rfl
  | w => exact reading_putReasons .link false p

theorem upheld_judgeLos (x : Port) (p : Part) : Upheld p (judgeLos x p) := by
  unfold judgeLos
  extract_lets before after r
  have hr : Upheld p r := .of_reading (reading_modPort x _ p)
  split
  · exact hr.trans (upheld_losAsserted x r)
  · exact hr.andWhen _ (.of_reading (reading_losCleared x r))

theorem reading_windowEnd (x : Port) (p : Part) : reading (windowEnd x p) = reading p := by
  unfold windowEnd
  dsimp only
  rw [reading_when (reading_raise _ _ _), reading_modPort]

theorem upheld_intervalEnd (x : Port) (p : Part) : Upheld p (intervalEnd x p) := by
  have hmarked : Upheld p ((judgeLos x p).modPort x fun k => { k with goodMark := false }) :=
    (upheld_judgeLos x p).andSame (reading_modPort x _ _)
  unfold intervalEnd windowStep
  split
  · exact hmarked.andSame (reading_windowEnd x _)
  · exact hmarked.andSame (reading_modPort x _ _)

theorem upheld_supervision (p : Part) : Upheld p (intervalEnd .w (intervalEnd .s
    ((p.reach p.intervalAt).setIntervalAt (p.intervalAt + Config.supervisionTicks)))) := by
  have hset : Upheld p ((p.reach p.intervalAt).setIntervalAt (p.intervalAt + Config.supervisionTicks)) :=
    (Upheld.reach p.intervalAt p).andSame rfl
  exact (hset.trans (upheld_intervalEnd .s _)).trans (upheld_intervalEnd .w _)

/-! ## Every step -/

theorem upheld_onlyWhen (condition : Part → Bool) {f : Part → Part} {p : Part} (hf : Upheld p (f p)) :
    Upheld p (onlyWhen condition f p) := Upheld.andWhen (.refl p) _ hf

theorem upheld_of_next {p q : Part} {l : List Instr} {t : State} (hq : Upheld p q)
    (h : Host.Outcome.next (⟨q, l⟩ : State) = (.next t : Host.Outcome State Fault Refusal)) : Upheld p t.part := by
  cases h
  exact hq

/-- Every command but POWER_ON_RESET upholds both conditions. -/
theorem upheld_exec {i : Instr} (hi : ∀ straps, i ≠ .powerOnReset straps) {s t : State} (h : exec i s = .next t) :
    Upheld s.part t.part := by
  cases i with
  | powerOnReset straps => exact absurd rfl (hi straps)
  | cycArrival instant dst src cyc =>
    have hgood := (Upheld.reach instant s.part).andSame (reading_goodFrame .s _)
    exact upheld_of_next (hgood.trans (upheld_takeCyc dst src cyc _)) h
  | missTimerExpiry => exact upheld_of_next (upheld_expireMiss _) h
  | deadlineExpiry => exact upheld_of_next (upheld_expireDeadline _) h
  | holdLimitCrossed c => exact upheld_of_next (upheld_onlyWhen _ (upheld_heldComputation c _)) h
  | sampleArrival dst src payload =>
    exact upheld_of_next (Upheld.trans (.of_reading (reading_goodFrame .w _)) (upheld_routeW _ _)) h
  | channelStuck c ch v => exact upheld_of_next (upheld_onlyWhen _ (.of_reading (reading_feedAndSettle c ch v _))) h
  | channelRelease c ch v => exact upheld_of_next (upheld_onlyWhen _ (.of_reading (reading_feedAndSettle c ch v _))) h
  | linkReset dst src payload =>
    exact upheld_of_next (Upheld.trans (.of_reading (reading_goodFrame .s _)) (upheld_takeLinkReset _ _)) h
  | frameReceived instant x run => exact upheld_of_next ((Upheld.reach instant _).trans (upheld_receiveRun x run _)) h
  | transmissionComplete x =>
    refine upheld_of_next ?_ h
    dsimp only
    split
    · exact .refl _
    · exact upheld_completeSending x _ _
  | queryStatus o => exact upheld_of_next (upheld_orderArrival o _ upholds_queryStatus _) h
  | readParam o => exact upheld_of_next (upheld_orderArrival o _ upholds_readParam _) h
  | writeParam o => exact upheld_of_next (upheld_orderArrival o _ upholds_writeParam _) h
  | gainWrite o => exact upheld_of_next (upheld_orderArrival o _ upholds_gainWrite _) h
  | gainClear o => exact upheld_of_next (upheld_orderArrival o _ upholds_gainClear _) h
  | mapOpen o => exact upheld_of_next (upheld_orderArrival o _ upholds_mapOpen _) h
  | mapData o => exact upheld_of_next (upheld_orderArrival o _ upholds_mapData _) h
  | mapClose o => exact upheld_of_next (upheld_orderArrival o _ upholds_mapClose _) h
  | validationBankJudged => exact upheld_of_next (upheld_onlyWhen _ (.of_reading (reading_validationReading _))) h
  | mapSwap o => exact upheld_of_next (upheld_orderArrival o _ upholds_mapSwap _) h
  | mapRead o => exact upheld_of_next (upheld_orderArrival o _ upholds_mapRead _) h
  | engage o => exact upheld_of_next (upheld_orderArrival o _ upholds_engage _) h
  | release o => exact upheld_of_next (upheld_orderArrival o _ upholds_release _) h
  | valveTest o => exact upheld_of_next (upheld_orderArrival o _ upholds_valveTest _) h
  | valveTestEnd c cause => exact upheld_of_next (upheld_onlyWhen _ (upheld_endByCause c cause _)) h
  | clearFault o => exact upheld_of_next (upheld_orderArrival o _ upholds_clearFault _) h
  | fetchEvent o => exact upheld_of_next (upheld_orderArrival o _ upholds_fetchEvent _) h
  | readCounters o => exact upheld_of_next (upheld_orderArrival o _ upholds_readCounters _) h
  | softReset o => exact upheld_of_next (upheld_orderArrival o _ upholds_softReset _) h
  | unknownOrder o code => exact upheld_of_next (upheld_orderArrival o code upholds_unknownOrder _) h
  | pwmPeriodStart mv => exact upheld_of_next (upheld_periodStart mv _) h
  | supplyLowAssert mv => exact upheld_of_next (upheld_onlyWhen _ (.of_reading (reading_supplySample mv _))) h
  | supplyLowClear mv => exact upheld_of_next (upheld_onlyWhen _ (.of_reading (reading_supplySample mv _))) h
  | rampComplete c =>
    have hadvanced (p : Part) : Upheld p (p.modCorner c fun k => { k with reg := k.reg.advance p.params }) :=
      .of_reading (reading_modCorner (fun _ => by rfl) c p)
    exact upheld_of_next (upheld_onlyWhen _ ((hadvanced _).trans (upheld_rampDone c _))) h
  | currentSample c raw => exact upheld_of_next (upheld_onlyWhen _ (upheld_currentSample c raw _)) h
  | openCondition c im => exact upheld_of_next (upheld_onlyWhen _ (upheld_handoff c im _)) h
  | shortSuspicion c im => exact upheld_of_next (upheld_onlyWhen _ (upheld_handoff c im _)) h
  | leakFault c im => exact upheld_of_next (upheld_onlyWhen _ (upheld_handoff c im _)) h
  | calibrationComplete c raw =>
    have hdone := upheld_onlyWhen (completionDue c)
      (f := fun p => calibrationOutcome c ((p.corner c).reg.calibrationSum + raw.toNat) p)
      (upheld_calibrationOutcome c _ s.part)
    exact upheld_of_next hdone h
  | overcurrentTrip c raw ticks => exact upheld_of_next (upheld_onlyWhen _ (upheld_overcurrentTrip c raw _)) h
  | episodeRecovered c => exact upheld_of_next (upheld_onlyWhen _ (.of_reading (reading_episodeAtCycleStart c _))) h
  | supervisionIntervalEnd => exact upheld_of_next (upheld_supervision _) h
  | losAssert x => exact upheld_of_next (upheld_onlyWhen _ (upheld_judgeLos x _)) h
  | losClear x => exact upheld_of_next (upheld_onlyWhen _ (upheld_judgeLos x _)) h
  | qualityWindowEnd x => exact upheld_of_next (upheld_onlyWhen _ (.of_reading (reading_windowEnd x _))) h
  | wordUpset c id word value => exact upheld_of_next (.of_reading (reading_modBanks _ c _)) h

/-- A tick moves the clock on, and with it the counter and the comparators. -/
theorem upheld_tick (p : Part) : Upheld p p.tick := (Upheld.setNow (Nat.le_succ _)).andSame (reading_pass _ _)

/-- Every step without a POWER_ON_RESET at the front of the queue upholds both conditions; after one the queue's rest and the
values of 1.2 and 2.3 stand. -/
theorem step_cases {s t : State} (h : step s = .next t) :
    Upheld s.part t.part ∨ ∃ straps rest, s.pending = .powerOnReset straps :: rest ∧ t.part = .powerOn straps s.part.pins := by
  unfold step at h
  split at h
  · cases h
    exact .inl (upheld_tick _)
  · rename_i i rest hpending
    by_cases hi : ∃ straps, i = .powerOnReset straps
    · obtain ⟨straps, rfl⟩ := hi
      cases h
      exact .inr ⟨straps, rest, hpending, rfl⟩
    · have hupheld := upheld_exec (fun straps heq => hi ⟨straps, heq⟩) h
      exact .inl hupheld

theorem spaced_powerOn (straps : BitVec 2) (pins : Pins) : spaced (.powerOn straps pins) := fun _ h => nomatch h

theorem motionSound_powerOn (straps : BitVec 2) (pins : Pins) : (Part.powerOn straps pins).motionSound where
  context := ⟨Nat.zero_le _, fun c => by simp [Part.powerOn]⟩
  motion c := by
    have hmotion : ((Part.powerOn straps pins).corner c).motion = .unprimed :=
      congrArg CornerPart.motion (Quad.get_fill _ c)
    exact sound_of_unprimed hmotion _
  run := Nat.zero_le _

/-- Settles O9: a cycle starts only where 250 µs have passed since the last start, and only POWER_ON_RESET forgets it. -/
theorem cycleSpacingKept : Obligations.CycleSpacingKept := by
  intro s t hs h
  rcases step_cases h with hupheld | ⟨straps, rest, hpending, ht⟩
  · obtain ⟨hspaced, hkept⟩ := hupheld.spacing hs
    refine ⟨hspaced, fun a ha => .inr ?_⟩
    obtain ⟨b, hb, rfl | hab⟩ := hkept a ha
    · exact .inl hb
    · exact .inr ⟨b, hb, hab⟩
  · rw [ht]
    exact ⟨spaced_powerOn _ _, fun a _ => .inl ⟨rfl, straps, rest, hpending⟩⟩

/-- Settles O59: every command keeps the ranges, and power-on values lie within them. -/
theorem motionKept : Obligations.MotionKept := by
  intro s t hs h
  rcases step_cases h with hupheld | ⟨straps, rest, -, ht⟩
  · exact hupheld.motion hs
  · rw [ht]
    exact motionSound_powerOn _ _

end Sys2Proof.Timekeeping

/-! # The part at power-on (R18, R33, R41, R42, R57, R93, R112, R130, R147, R162, R172, R185) -/

namespace Sys2Proof.PowerOn

open Sys2Proof Sys2Proof.Machine Sys2Proof.Claims Sys2Proof.Drivers Sys2Proof.Timekeeping

theorem corner_powerOn (straps : BitVec 2) (pins : Pins) (c : Corner) :
    (Part.powerOn straps pins).corner c = .powerOn := Quad.get_fill _ c

theorem port_powerOn (straps : BitVec 2) (pins : Pins) (q : Port) : (Part.powerOn straps pins).port q = .powerOn := by
  cases q <;> rfl

/-- Every band of every mode is absent (R42). -/
theorem schedule_powerOn (straps : BitVec 2) (pins : Pins) (m : Mode) :
    (Part.powerOn straps pins).schedule.get m = .absent := by
  cases m <;> rfl

theorem get_absent (n : Nat) : Bands.absent.get n = .absent := by
  unfold Bands.get
  split <;> rfl

theorem banks_powerOn (id : BankId) : CornerPart.powerOn.banks.get id = .powerOn := by cases id <;> rfl

theorem stuck_powerOn (ch : Channel) : CornerPart.powerOn.stuck.get ch = .cleared := by cases ch <;> rfl

theorem loaded_powerOn (straps : BitVec 2) (pins : Pins) : (Part.powerOn straps pins).loaded = false := rfl

/-- Settles O3: the power-on values are those of `Part.powerOn`, corner by corner, mode by mode and port by port. -/
theorem powerOnReset : Obligations.PowerOnReset := by
  intro straps s
  refine ⟨⟨.powerOn straps s.part.pins, s.pending⟩, rfl, rfl, rfl, rfl, rfl, rfl, rfl, rfl, fun m k => ?_, fun c => ?_, rfl,
    rfl, rfl, port_powerOn straps _, rfl, rfl, rfl, rfl, rfl, rfl, rfl⟩
  · rw [schedule_powerOn, get_absent]
    rfl
  · rw [corner_powerOn]
    refine ⟨rfl, rfl, rfl, rfl, rfl, stuck_powerOn, fun id => ?_, rfl, rfl, rfl, rfl, rfl, rfl, rfl, rfl, rfl, rfl, rfl, rfl,
      rfl, rfl, rfl, rfl, rfl, rfl, rfl, rfl, rfl⟩
    rw [banks_powerOn]
    exact ⟨rfl, fun _ => rfl⟩

/-- Settles O60: each invariant, on the power-on values. -/
theorem resetSound : Obligations.ResetSound := by
  have hcorner : ∀ c, State.reset.part.corner c = .powerOn := corner_powerOn _ _
  have hevery {P : CornerPart → Prop} (h : P .powerOn) : State.reset.part.eachCorner P := fun c => (hcorner c).symm ▸ h
  refine ⟨spaced_powerOn _ _, hevery ⟨rfl, rfl⟩, ⟨Nat.zero_le _, Nat.zero_le _, Nat.zero_le _⟩, Upkeep.eventsSound_single _ _ _,
    (dutiesSound_iff _).mpr (hevery driverForm_bounded.powerOn), hevery driverForm_driverSound.powerOn, hevery rfl,
    motionSound_powerOn _ _, ⟨nofun, fun _ => loaded_powerOn _ _, nofun⟩, fun m => ?_, rfl⟩
  change ((Part.powerOn 0 .reset).schedule.get m).sound
  rw [schedule_powerOn]
  exact GainSchedule.sound_absent

end Sys2Proof.PowerOn

/-! # Received runs act as the rows of the frames they carry (R1, R149 to R151, R163, R166) -/

namespace Sys2Proof.ReceivedRuns

open Sys2Proof Sys2Proof.Machine Sys2Proof.Claims Sys2Proof.LinkPorts

theorem reach_of_le {t : Nat} {p : Part} (h : t ≤ p.now) : p.reach t = p := by rw [Part.reach, Nat.max_eq_left h, Part.setNow]

/-- The bytes of a frame that fits are received as that frame. -/
theorem exec_frameReceived {f : Frame} (h : f.payload.length ≤ 60) (instant : Nat) (q : Port) (s : State) :
    exec (.frameReceived instant q f.bytes) s = .next ⟨goodArrival q f (s.part.reach instant), s.pending⟩ := by
  change s.onPart (fun p => receiveRun q f.bytes (p.reach instant)) = _
  simp only [State.onPart_eq, receiveRun, receive_bytes h]

theorem exec_frameReceived_now {f : Frame} (h : f.payload.length ≤ 60) (q : Port) (s : State) :
    exec (.frameReceived s.part.now q f.bytes) s = .next ⟨goodArrival q f s.part, s.pending⟩ := by
  rw [exec_frameReceived h, reach_of_le le_rfl]

/-! ## The routes (R150, R151) -/

section PortS

variable {f : Frame} {p : Part}

theorem routeS_cyc (h : f.kind = Config.kindCyc) : routeS f p = routeCyc f p := if_pos h

theorem routeS_linkReset (h : f.kind = Config.kindLinkReset) : routeS f p = takeLinkReset f p := by
  unfold routeS
  rw [if_neg (by rw [h]; decide), if_pos h]

variable (hcyc : f.kind ≠ Config.kindCyc) (hreset : f.kind ≠ Config.kindLinkReset)

include hcyc hreset

theorem routeS_elsewhere (hdst : f.dst ≠ p.address) : routeS f p = placeWheelBound f p := by
  unfold routeS
  rw [if_neg hcyc, if_neg hreset, if_neg hdst]

theorem routeS_misaddressed (horder : f.kind ≠ Config.kindOrder) (hdst : f.dst = p.address) : routeS f p = misaddressed .s p := by
  unfold routeS
  rw [if_neg hcyc, if_neg hreset, if_pos hdst, if_neg horder]

end PortS

theorem routeS_order {f : Frame} {p : Part} (horder : f.kind = Config.kindOrder) (hdst : f.dst = p.address) :
    routeS f p = takeOrder (orderOf f.src f.payload) (orderCodeOf f.payload) (orderHandler (orderCodeOf f.payload)) p := by
  unfold routeS
  rw [if_neg (by rw [horder]; decide), if_neg (by rw [horder]; decide), if_pos hdst, if_pos horder]

/-- A CYC payload is one of 14 bytes (R1). -/
theorem decodeCyc_of_length {payload : List Byte} (h : payload.length ≠ 14) : decodeCyc payload = none := by
  unfold decodeCyc
  split
  · exact absurd rfl h
  · rfl

theorem routeCyc_of_length {f : Frame} (h : f.payload.length ≠ 14) (p : Part) : routeCyc f p = placeWheelBound f p := by
  rw [routeCyc, decodeCyc_of_length h]

theorem routeW_forwarded {f : Frame} {p : Part} (hsample : f.kind ≠ Config.kindSample) (h : ¬ (f.kind = Config.kindOrder ∧ f.dst = p.address)) :
    routeW f p = placeChassisBound f p := by
  unfold routeW
  rw [if_neg hsample, if_neg h]

theorem routeW_misaddressed {f : Frame} {p : Part} (horder : f.kind = Config.kindOrder) (hdst : f.dst = p.address) :
    routeW f p = misaddressed .w p := by
  unfold routeW
  rw [if_neg (by rw [horder]; decide), if_pos ⟨horder, hdst⟩]

/-! ## The orders (R163, R166) -/

theorem orderHandler_of_not_mem {code : Byte} (h : orderCodes.contains code = false) : orderHandler code = unknownOrder := by
  simp only [orderCodes, List.contains_cons, List.contains_nil, Bool.or_false, Bool.or_eq_false_iff, beq_eq_false_iff_ne] at h
  simp only [orderHandler, h, if_false]

/-- An order row is the arrival of its order at the handler of its code. -/
theorem exec_of_orderRow_wellFormed {i : Instr} {o : OrderIn} {code : Byte} (h : orderRow i = some (o, code))
    (hw : i.wellFormed = true) (s : State) :
    exec i s = s.onPart (orderArrival o code (orderHandler code)) ∧ o.args.length ≤ 58 := by
  have hfits {o' : OrderIn} (hf : o'.fits = true) : o'.args.length ≤ 58 := of_decide_eq_true hf
  cases i
  case unknownOrder o' code' =>
    cases h
    simp only [Instr.wellFormed, Bool.and_eq_true, Bool.not_eq_true'] at hw
    obtain ⟨hf, hunknown⟩ := hw
    rw [orderHandler_of_not_mem hunknown]
    exact ⟨rfl, hfits hf⟩
  all_goals cases h <;> exact ⟨rfl, hfits hw⟩

/-- An ORDER received for the part is taken by the handler of its code. -/
theorem exec_orderReceived {src : Byte} {payload : List Byte} (h : payload.length ≤ 60) (s : State) :
    exec (.frameReceived s.part.now .s (Frame.bytes ⟨s.part.address, src, 0x10, payload⟩)) s =
      s.onPart (orderArrival (orderOf src payload) (orderCodeOf payload) (orderHandler (orderCodeOf payload))) := by
  rw [exec_frameReceived_now h, goodArrival, routeS_order rfl rfl]
  rfl

theorem cycBytes_length (x : CycPayload) : x.bytes.length = 14 := rfl

/-- Settles O15: the bytes are received as their frame, and the frame is routed to the operation of its row. -/
theorem receivedRunsAct : Obligations.ReceivedRunsAct := by
  refine ⟨fun instant dst src x s => ?_, fun dst src payload s h => ?_, fun dst src payload s h => ?_,
    fun i o code s hrow hw => ?_, fun src s => exec_orderReceived (by decide) s,
    fun src tag s => exec_orderReceived (by simp) s, fun instant f s h => ?_⟩
  · rw [exec_frameReceived (by simp [cycBytes_length]), goodArrival, routeS_cyc rfl]
    simp only [routeCyc, decodeCyc_bytes]
    rfl
  · rw [exec_frameReceived_now h, goodArrival, routeS_linkReset rfl]
    rfl
  · rw [exec_frameReceived_now h]
    rfl
  · obtain ⟨hexec, hlength⟩ := exec_of_orderRow_wellFormed hrow hw s
    rw [hexec, exec_orderReceived (by simp; omega)]
    rfl
  · have received (q : Port) := exec_frameReceived h instant q s
    refine ⟨fun hcyc hlength => ?_, fun hcyc hreset hdst => ?_, fun hsample hforward => ?_,
      fun hcyc hreset horder hdst => ?_, fun horder hdst => ?_⟩
    · rw [answers, received, goodArrival, routeS_cyc hcyc, routeCyc_of_length hlength]
      rfl
    · rw [answers, received, goodArrival, routeS_elsewhere (p := goodFrame .s (s.part.reach instant)) hcyc hreset hdst]
      rfl
    · rw [answers, received, goodArrival, routeW_forwarded (p := goodFrame .w (s.part.reach instant)) hsample hforward]
      rfl
    · rw [answers, received, goodArrival, routeS_misaddressed (p := goodFrame .s (s.part.reach instant)) hcyc hreset horder hdst]
      rfl
    · rw [answers, received, goodArrival, routeW_misaddressed (p := goodFrame .w (s.part.reach instant)) horder hdst]
      rfl

end Sys2Proof.ReceivedRuns

/-! # CYC arrivals: the context adopted, and the blanked ones (R2, R3) -/

namespace Sys2Proof.CycArrivals

open Sys2Proof Sys2Proof.Machine Sys2Proof.Claims Sys2Proof.Estimation Sys2Proof.ReceivedRuns

/-! ## The context (R2) -/

theorem ofCode_eq_none {n : Nat} : Mode.ofCode n = none ↔ 2 < n := by
  match n with
  | 0 | 1 | 2 => decide
  | _ + 3 => exact ⟨fun _ => by omega, fun _ => rfl⟩

theorem ofCode_isNone (n : Nat) : (Mode.ofCode n).isNone = true ↔ 2 < n := Option.isNone_iff_eq_none.trans ofCode_eq_none

/-- The codes of the modes are 0 to 2; a mode that is none of them is left unchanged. -/
theorem ofCode_getD (b : Byte) (old : Mode) :
    (Mode.ofCode b.toNat).getD old = if b = 0 then .comfort else if b = 1 then .normal else if b = 2 then .sport else old := by
  split_ifs with h0 h1 h2
  · subst h0; rfl
  · subst h1; rfl
  · subst h2; rfl
  · rw [ofCode_eq_none.mpr (by bv_omega), Option.getD_none]

theorem adopt_eq_adopted (x : Context) (m : CycPayload) : x.adopt m = adopted x m := by
  simp only [Context.adopt, adopted, ofCode_getD, clampInt_eq_max_min (show (-8000 : Int) ≤ 8000 by decide)]

theorem clampInt_ne_iff (x : Int) : clampInt (-8000) 8000 x ≠ x ↔ x < -8000 ∨ 8000 < x := by
  rw [clampInt_eq_max_min (by decide)]
  omega

theorem contextClamps_eq (m : CycPayload) : contextClamps m = clampCount m := by
  simp only [contextClamps, clampCount, ofCode_isNone, clampInt_ne_iff]

theorem adopt_context (m : CycPayload) (p : Part) : (adopt m p).context = adopted p.context m := adopt_eq_adopted p.context m

theorem adopt_globals (m : CycPayload) (p : Part) :
    (adopt m p).globals = { p.globals with contextClamp := min 4294967295 (p.globals.contextClamp + clampCount m) } := by
  change { p.globals with contextClamp := satAdd Config.counterMax p.globals.contextClamp (contextClamps m) } = _
  rw [contextClamps_eq]
  rfl

theorem adopt_eq (m : CycPayload) (p : Part) : adopt m p = { p with
    context := adopted p.context m
    globals := { p.globals with contextClamp := min 4294967295 (p.globals.contextClamp + clampCount m) } } := by
  rw [← adopt_globals, ← adopt_context]
  rfl

/-! ## The arrival (R3) -/

theorem reach_eq {t : Nat} {p : Part} (h : p.now ≤ t) : p.reach t = { p with now := t } := by
  rw [Part.reach, Nat.max_eq_right h]
  rfl

theorem exec_cycArrival {instant : Nat} {s : State} (h : s.part.now ≤ instant) (dst src : Byte) (x : CycPayload) :
    exec (.cycArrival instant dst src x) s = .next ⟨takeCyc dst src x { afterGood .s s.part with now := instant }, s.pending⟩ := by
  change s.onPart (fun p => takeCyc dst src x (goodFrame .s (p.reach instant))) = _
  simp only [State.onPart_eq, reach_eq h]
  rfl

theorem blanks_eq_true {a : Nat} {p : Part} (h : p.tracker.lastStart = some a) (hnow : p.now < a + 10000) : p.blanks = true := by
  rw [Part.blanks, h]
  exact decide_eq_true hnow

theorem takeCyc_of_blanks {p : Part} (h : p.blanks = true) (dst src : Byte) (x : CycPayload) :
    takeCyc dst src x p =
      ((adopt x p).modTracker (fun t => t.blank p.now)).modGlobals (fun g => { g with earlyCycle := inc g.earlyCycle }) :=
  if_pos h

/-- Settles O5: the arrival lies within 250 µs of the last start, so only the context, the tracker and EARLY_CYCLE move. -/
theorem cycBlanked : Obligations.CycBlanked := by
  intro instant a dst src x s hnow hlast hblank
  have hblanks : ({ afterGood .s s.part with now := instant } : Part).blanks = true := blanks_eq_true hlast hblank
  rw [answers, exec_cycArrival hnow, takeCyc_of_blanks hblanks, adopt_eq]
  rfl

end Sys2Proof.CycArrivals

/-! # A passive reason put at every corner (R121, R122, R124) -/

namespace Sys2Proof.Reasons

open Sys2Proof Sys2Proof.Machine Sys2Proof.Claims Sys2Proof.Supervisory Sys2Proof.ParityFailures

/-- The corner with a reason put in or taken out, before the supervisor acts. -/
def withReason (which : Reason) (present : Bool) (k : CornerPart) : CornerPart :=
  { k with reasons := k.reasons.put which present }

theorem putReason_corner (which : Reason) (present : Bool) (c : Corner) (p : Part) : (putReason which present c p).corner c =
    reaction (decide (p.control = .engaged)) (withReason which present (p.corner c)) := by
  rw [putReason, supervise_corner_self, Part.corner_modCorner_self]
  rfl

/-- A reason put at every corner acts at each alone. -/
theorem putReasons_corner (which : Reason) (present : Bool) (c : Corner) (p : Part) :
    (forCorners (putReason which present) p).corner c =
      reaction (decide (p.control = .engaged)) (withReason which present (p.corner c)) := by
  refine forCorners_corner (f := putReason which present)
    (g := fun p k => reaction (decide (p.control = .engaged)) (withReason which present k))
    (putReason_corner which present) (fun c d p h => putReason_corner_of_ne which present c h p) (fun c p k => ?_) c p
  rw [putReason_control]

theorem none_put_true (r : Reasons) (which : Reason) : (r.put which true).none = false := by
  cases which <;> simp [Reasons.put, Reasons.none]

end Sys2Proof.Reasons

/-! # Loss of signal (R157, R158) -/

namespace Sys2Proof.SignalLoss

open Sys2Proof Sys2Proof.Machine Sys2Proof.Claims Sys2Proof.Supervisory Sys2Proof.ParityFailures Sys2Proof.Supervision
  Sys2Proof.Reasons Sys2Proof.Estimation Sys2Proof.SupplyMonitor

section Assertion

variable {q : Port} {p : Part} (hlos : (p.port q).los = false) (hmark : (p.port q).goodMark = false)
  (hrun : p.params.losTime ≤ min 32 ((p.port q).silentRun + 1))

include hlos hmark hrun

/-- The judgment of a silent interval that completes the run. -/
theorem judge_asserts : (p.port q).judge p.params.losTime =
    { p.port q with silentRun := min 32 ((p.port q).silentRun + 1), los := true, cleanRun := 0 } := by
  unfold PortPart.judge
  rw [if_neg (by simp [hlos]), if_neg (by simp [hmark])]
  exact if_pos hrun

theorem judgeLos_asserts : judgeLos q p = losAsserted q (p.modPort q fun k => k.judge p.params.losTime) := by
  rw [modPort_congr (g := fun _ => (p.port q).judge p.params.losTime) rfl]
  unfold judgeLos
  dsimp only
  rw [if_pos (by simp [hlos, judge_asserts hlos hmark hrun])]

theorem exec_losAssert {pending : List Instr} : exec (.losAssert q) ⟨p, pending⟩ = .next ⟨judgeLos q p, pending⟩ := by
  have hdue : (!(p.port q).los && ((p.port q).judge p.params.losTime).los) = true := by
    simp [hlos, judge_asserts hlos hmark hrun]
  change State.onPart _ _ = _
  rw [State.onPart_eq, onlyWhen_pos hdue]

end Assertion

section Clearing

variable {q : Port} {p : Part} (hlos : (p.port q).los = true) (hmark : (p.port q).goodMark = true)
  (hrun : 7 ≤ (p.port q).cleanRun)

include hlos hmark hrun

/-- The judgment of the eighth clean interval. -/
theorem judge_clears : (p.port q).judge p.params.losTime = { p.port q with los := false, silentRun := 0, cleanRun := 0 } := by
  have hclean : Config.cleanIntervals ≤ (p.port q).cleanRun + 1 := by
    change 8 ≤ _
    omega
  unfold PortPart.judge
  rw [if_pos hlos, if_pos hmark, if_pos hclean]

theorem judgeLos_clears : judgeLos q p = losCleared q (p.modPort q fun k => k.judge p.params.losTime) := by
  rw [modPort_congr (g := fun _ => (p.port q).judge p.params.losTime) rfl]
  unfold judgeLos
  dsimp only
  rw [if_neg (by simp [hlos]), if_pos (by simp [hlos, judge_clears hlos hmark hrun])]

theorem exec_losClear {pending : List Instr} : exec (.losClear q) ⟨p, pending⟩ = .next ⟨judgeLos q p, pending⟩ := by
  have hdue : ((p.port q).los && !((p.port q).judge p.params.losTime).los) = true := by
    simp [hlos, judge_clears hlos hmark hrun]
  change State.onPart _ _ = _
  rw [State.onPart_eq, onlyWhen_pos hdue]

end Clearing

/-! ## What follows at each port (R9, R158) -/

/-- At Port W every corner gains the reason, and a regulating one enters PASSIVE. -/
theorem losAsserted_w_corner (c : Corner) (p : Part) : (losAsserted .w p).corner c =
    reaction (decide (p.control = .engaged)) (withReason .link true (p.corner c)) := by
  rw [losAsserted, putReasons_corner, raise_control, raise_corner]

theorem losCleared_w_corner (c : Corner) (p : Part) : (losCleared .w p).corner c =
    reaction (decide (p.control = .engaged)) (withReason .link false (p.corner c)) := putReasons_corner ..

theorem reaction_link_reason (engaged present : Bool) (k : CornerPart) :
    (reaction engaged (withReason .link present k)).reasons.link = present := by
  rw [reaction_reasons]
  rfl

theorem reaction_of_control_with_reason {k : CornerPart} (h : k.state = .control) (which : Reason) :
    (reaction true (withReason which true k)).state = .passive false := by
  rw [reaction_of_control (k := withReason which true k) h (none_put_true _ _)]
  rfl

theorem pendingEvent_losAsserted (q : Port) (p : Part) : pendingEvent (losAsserted q p) (.linkLos q) := by
  cases q with
  | s =>
    unfold losAsserted
    dsimp only
    split
    · exact pendingEvent_raise (pendingEvent_raise_self (.linkLos .s) 0 p) .cycleLocal 1
    · exact pendingEvent_raise_self ..
  | w =>
    obtain ⟨x, hx, he⟩ := pendingEvent_raise_self (.linkLos .w) 0 p
    exact ⟨x, mem_putReasons hx (fun c => by simp [he]) .link true, he⟩

theorem losAsserted_s_of_holdover {p : Part} (h : p.tracker.state = .holdover) :
    losAsserted .s p = enterLocal 1 (raise (.linkLos .s) 0 p) := if_pos h

theorem losAsserted_s_of_ne {p : Part} (h : p.tracker.state ≠ .holdover) :
    losAsserted .s p = raise (.linkLos .s) 0 p := if_neg h

/-- At Port S the assertion reaches the tracker, its context and the events only. -/
theorem losAsserted_s_rest (p : Part) : (losAsserted .s p).corners = p.corners ∧ (losAsserted .s p).portW = p.portW := by
  unfold losAsserted
  dsimp only
  split <;> exact ⟨rfl, rfl⟩

/-- Settles O21: the judgment is an assertion or a clearing, and each port has its own consequence. -/
theorem losAssertsAndClears : Obligations.LosAssertsAndClears := by
  rintro ⟨p, pending⟩
  refine ⟨fun q hlos hmark hrun => ⟨_, exec_losAssert hlos hmark hrun, rfl, ?_⟩,
    fun q hlos hmark hrun => ⟨_, exec_losClear hlos hmark hrun, rfl, ?_⟩⟩
  · refine ⟨?_, ?_, judgeLos_link .., judgeLos_control .., ?_, ?_⟩
    · rw [judgeLos_port, Part.port_modPort_self, judge_asserts hlos hmark hrun]
    · rw [judgeLos_asserts hlos hmark hrun]
      exact pendingEvent_losAsserted ..
    · rintro rfl
      rw [judgeLos_asserts hlos hmark hrun]
      refine ⟨fun c => ?_, ?_⟩
      · rw [losAsserted_w_corner]
        refine ⟨reaction_link_reason .., fun hengaged hcontrol => ?_⟩
        rw [Part.modPort_control, decide_eq_true hengaged]
        exact reaction_of_control_with_reason hcontrol .link
      · rw [losAsserted, putReasons_eq]
        exact ⟨rfl, rfl, rfl⟩
    · rintro rfl
      rw [judgeLos_asserts hlos hmark hrun]
      obtain ⟨hcorners, hportW⟩ := losAsserted_s_rest (p.modPort .s fun k => k.judge p.params.losTime)
      refine ⟨hcorners, hportW, fun hstate => ?_, fun hstate => ?_⟩
      · rw [losAsserted_s_of_holdover (p := p.modPort .s fun k => k.judge p.params.losTime) hstate]
        exact ⟨rfl, rfl, pendingEvent_raise_self ..⟩
      · rw [losAsserted_s_of_ne (p := p.modPort .s fun k => k.judge p.params.losTime) hstate]
        exact ⟨rfl, rfl⟩
  · refine ⟨?_, ?_, ?_⟩
    · rw [judgeLos_port, Part.port_modPort_self, judge_clears hlos hmark hrun]
    · rintro rfl
      rw [judgeLos_clears hlos hmark hrun]
      refine ⟨fun c => ?_, ?_⟩
      · rw [losCleared_w_corner]
        exact reaction_link_reason ..
      · rw [losCleared, putReasons_eq]
        rfl
    · rintro rfl
      rw [judgeLos_clears hlos hmark hrun]
      rfl

end Sys2Proof.SignalLoss

/-! # The soft reset (R19, R131, R160, R161) -/

namespace Sys2Proof.SoftResets

open Sys2Proof Sys2Proof.Machine Sys2Proof.Claims Sys2Proof.CycArrivals

/-! ## A corner -/

theorem get_reset (k : Banks) (id : BankId) : k.reset.get id = (k.get id).reset := by cases id <;> rfl

/-- A reset touches the state alone of a bank. -/
theorem bank_reset_eq (b : Bank) : b.reset.words = b.words ∧ b.reset.check = b.check ∧
    b.reset.state = match b.state with
      | .loading => .empty
      | .checking => .empty
      | x => x := by
  unfold Bank.reset
  cases h : b.state <;> simp [h]

theorem bank_reset_corrupt (b : Bank) : b.reset.state = .corrupt ↔ b.state = .corrupt := by
  obtain ⟨-, -, hstate⟩ := bank_reset_eq b
  rw [hstate]
  cases b.state <;> decide

theorem banks_corrupt_iff (k : Banks) : k.corrupt = true ↔ ∃ id, k.active = some id ∧ (k.get id).state = .corrupt := by
  unfold Banks.corrupt
  cases h : k.active with
  | none => simp
  | some id => simp

theorem softCorner_softReset (k : CornerPart) (supply : Supply) : softCorner supply k (k.softReset supply) := by
  refine ⟨rfl, fun ch => ?_, rfl, rfl, rfl, rfl, rfl, rfl, rfl, rfl, rfl, rfl, ?_, rfl, rfl, fun id => ?_⟩
  · cases ch <;> rfl
  · change k.banks.reset.corrupt = true ↔ _
    rw [banks_corrupt_iff]
    simp only [get_reset, bank_reset_corrupt]
    rfl
  · change (k.banks.reset.get id).words = _ ∧ (k.banks.reset.get id).check = _ ∧ (k.banks.reset.get id).state = _
    rw [get_reset]
    exact bank_reset_eq _

/-! ## The part -/

theorem softResetWith_corner (cause : Byte) (c : Corner) (p : Part) :
    softCorner p.supply (p.corner c) ((softResetWith cause p).corner c) := by
  have hcorner : (softResetWith cause p).corner c = (p.corner c).softReset p.supply := Quad.get_map _ _ _
  rw [hcorner]
  exact softCorner_softReset _ _

/-- The control state is judged on the banks that the reset leaves (R131). -/
theorem softResetWith_control (cause : Byte) (p : Part) : (softResetWith cause p).control =
    if (softResetWith cause p).loaded then .standby else .unloaded := rfl

theorem loaded_of_same {p q : Part} (hc : q.corners = p.corners) (hs : q.schedule = p.schedule) : q.loaded = p.loaded :=
  Upkeep.loaded_congr (fun c => by rw [Part.corner, Part.corner, hc]) hs

/-- After a soft reset there is nothing left for the link reset itself to clear. -/
theorem clearLink_softResetWith (cause : Byte) (p : Part) : clearLink (softResetWith cause p) = softResetWith cause p := by
  have hlos : (softResetWith cause p).portW.los = false := rfl
  unfold clearLink
  dsimp only
  rw [if_neg (by simp [hlos])]
  rfl

theorem takeLinkReset_of_soft {f : Frame} {p : Part} (h : p.params.resetFollowsLink = 1) :
    takeLinkReset f p = placeWheelBound f (softResetWith 2 p) := by
  rw [takeLinkReset, if_pos h, clearLink_softResetWith]

theorem softReset_args {args : List Byte} (h : args ≠ []) (p : Part) : softReset args p = (p, .refusedArgument []) := by
  cases args with
  | nil => exact absurd rfl h
  | cons => rfl

/-- The part after the reset with the corners and control state of a part that a placed frame leaves as the reset leaves them. -/
theorem softened_of_same {cause : Byte} {p q : Part} (hc : q.corners = (softResetWith cause p).corners)
    (hctl : q.control = (softResetWith cause p).control) : softResetWith cause p = softened cause q.corners q.control p := by
  rw [hc, hctl]
  rfl

theorem outcome_of_same {cause : Byte} {p q : Part} (hc : q.corners = (softResetWith cause p).corners)
    (hctl : q.control = (softResetWith cause p).control) (hs : q.schedule = (softResetWith cause p).schedule) :
    q.control = (if q.loaded then .standby else .unloaded) ∧ ∀ c, softCorner p.supply (p.corner c) (q.corner c) := by
  refine ⟨?_, fun c => ?_⟩
  · rw [loaded_of_same hc hs, hctl, softResetWith_control]
  · change softCorner _ _ (q.corners.get c)
    rw [hc]
    exact softResetWith_corner cause c p

/-- Settles O41: both rows place their frame on the part that `softResetWith` leaves. -/
theorem softReset : Obligations.SoftReset := by
  refine fun s => ⟨fun o ⟨hslot, hroom⟩ => ⟨fun hargs => ?_, fun hargs => ?_⟩, fun dst src payload hfollows => ?_⟩
  · change s.onPart (orderArrival o 0x50 Machine.softReset) = _
    simp only [State.onPart_eq, orderArrival_taken _ _ _ _ hslot hroom, softReset_args hargs]
    rfl
  · refine ⟨⟨placeReply ⟨o.src, s.part.address, 0x11, [o.tag, 0x50, 0, 0]⟩ (softResetWith 1 (goodFrame .s s.part)), s.pending⟩,
      ?_, rfl, ?_, ?_⟩
    · change s.onPart (orderArrival o 0x50 Machine.softReset) = _
      simp only [State.onPart_eq, orderArrival_taken _ _ _ _ hslot hroom, hargs]
      rfl
    · exact congrArg (placeReply _) (softened_of_same (placeReply_corners ..) (placeReply_control ..))
    · exact outcome_of_same (cause := 1) (p := goodFrame .s s.part) (placeReply_corners ..) (placeReply_control ..) (placeReply_schedule ..)
  · refine ⟨⟨placeWheelBound ⟨dst, src, 0x0E, payload⟩ (softResetWith 2 (goodFrame .s s.part)), s.pending⟩, ?_, rfl, ?_, ?_⟩
    · change s.onPart (fun p => takeLinkReset ⟨dst, src, 0x0E, payload⟩ (goodFrame .s p)) = _
      simp only [State.onPart_eq, takeLinkReset_of_soft (p := goodFrame .s s.part) hfollows]
    · exact congrArg (placeWheelBound _) (softened_of_same (placeWheelBound_corners ..) (placeWheelBound_control ..))
    · exact outcome_of_same (cause := 2) (p := goodFrame .s s.part) (placeWheelBound_corners ..) (placeWheelBound_control ..) (placeWheelBound_schedule ..)

end Sys2Proof.SoftResets

/-! # The link reset alone (R132, R148, R160, R164, R176) -/

namespace Sys2Proof.LinkResets

open Sys2Proof Sys2Proof.Machine Sys2Proof.Claims Sys2Proof.Supervisory Sys2Proof.ParityFailures Sys2Proof.Reasons
  Sys2Proof.LinkPorts Sys2Proof.SoftResets

/-! ## Placing a wheel-bound frame touches the link and Port W alone (R152, R156) -/

theorem arbitrateW_eq (p : Part) : arbitrateW p = { p with
    link := { p.link with wheelBound := (arbitrateW p).link.wheelBound, substitute := (arbitrateW p).link.substitute }
    portW := (arbitrateW p).portW } := by
  unfold arbitrateW
  split
  · rfl
  · split <;> rfl

theorem placeWheelBound_eq (f : Frame) (p : Part) : placeWheelBound f p = { p with
    link := { p.link with
      wheelBound := (placeWheelBound f p).link.wheelBound, substitute := (placeWheelBound f p).link.substitute }
    portW := (placeWheelBound f p).portW } := by
  unfold placeWheelBound
  split
  · exact arbitrateW_eq (p.modLink fun k => { k with wheelBound := k.wheelBound ++ [f] })
  · rfl

section Empty

variable {f : Frame} {p : Part} (hq : p.link.wheelBound = [])

include hq

theorem placeWheelBound_of_empty :
    placeWheelBound f p = arbitrateW (p.modLink fun k => { k with wheelBound := [f] }) := by
  rw [placeWheelBound_of_room (by simp [hq])]
  change arbitrateW { p with link := { p.link with wheelBound := p.link.wheelBound ++ [f] } } = _
  rw [hq]
  rfl

/-- A busy transmitter leaves the frame the only one wheel-bound. -/
theorem placeWheelBound_empty_of_sending (hw : p.portW.sending.isSome = true) :
    placeWheelBound f p = p.modLink fun k => { k with wheelBound := [f] } :=
  (placeWheelBound_of_empty hq).trans (arbitrateW_of_sending hw)

/-- A pending substitute goes before the frame. -/
theorem placeWheelBound_empty_of_substitute {g : Frame} (hw : p.portW.sending = none) (hg : p.link.substitute = some g) :
    placeWheelBound f p = beginSending .w g (p.modLink fun k => { k with wheelBound := [f], substitute := none }) :=
  (placeWheelBound_of_empty hq).trans (arbitrateW_substitute hw hg)

end Empty

/-! ## A corner that the loss of a reason cannot make PASSIVE -/

/-- The corner carries no reason where its state has none. -/
def Quiet (k : CornerPart) : Prop := k.state.needsNoReason = true → k.reasons.none = true

theorem quiet_of_supervised {p : Part} (h : p.supervised) (hengaged : p.control = .engaged) (c : Corner) :
    Quiet (p.corner c) := by
  have hc := h c
  rw [hengaged] at hc
  exact hc

theorem Quiet.without {k : CornerPart} (h : Quiet k) (which : Reason) : Quiet (withReason which false k) := by
  intro hs
  have hnone : k.reasons = ⟨false, false, false, false, false⟩ := (FaultClearing.reasons_none_iff _).mp (h hs)
  rw [withReason, hnone]
  cases which <;> rfl

/-- The supervisor's act on a quiet corner is to return it, or nothing. -/
theorem Quiet.reaction_cases {k : CornerPart} (h : Quiet k) : reaction true k = k ∧
      ((∀ b, k.state ≠ .passive b) ∨ k.reasons.none = false) ∨
    (∃ b, k.state = .passive b) ∧ k.reasons.none = true ∧ reaction true k = returned k := by
  unfold reaction
  split
  case h_4 b hs =>
    split
    · exact .inr ⟨⟨_, hs⟩, by assumption, rfl⟩
    · rename_i hr
      exact .inl ⟨rfl, .inr (Bool.eq_false_iff.mpr hr)⟩
  case h_5 hs => exact .inl ⟨rfl, .inl fun b hb => hs b rfl hb⟩
  all_goals
    rename_i hs
    rw [if_pos (h (by rw [hs]; rfl))]
    exact .inl ⟨rfl, .inl (by simp [hs])⟩

theorem Quiet.reaction {k : CornerPart} (h : Quiet k) : Quiet (reaction true k) := by
  rcases h.reaction_cases with ⟨hk, -⟩ | ⟨-, hr, hk⟩
  · rwa [hk]
  · rw [hk]
    exact fun _ => hr

theorem supervise_events_of_quiet {c : Corner} {p : Part} (h : p.control = .engaged → Quiet (p.corner c)) :
    (supervise c p).events = p.events := by
  unfold supervise
  split
  case h_4 => split <;> rfl
  case h_5 => rfl
  all_goals
    rename_i hengaged hs
    rw [if_pos (h hengaged (by rw [hs]; rfl))]

/-- Taking a reason from quiet corners raises nothing. -/
theorem putReasons_events_of_quiet {p : Part} (h : p.control = .engaged → ∀ c, Quiet (p.corner c)) (which : Reason) :
    (forCorners (putReason which false) p).events = p.events := by
  refine (forCorners_keeps (P := fun q => q.events = p.events ∧ (q.control = .engaged → ∀ c, Quiet (q.corner c)))
    (fun c q ⟨hevents, hquiet⟩ => ⟨?_, fun hengaged d => ?_⟩) ⟨rfl, h⟩).1
  · rw [putReason, supervise_events_of_quiet fun hengaged => ?_]
    · exact hevents
    · rw [Part.corner_modCorner_self]
      exact (hquiet hengaged c).without which
  · rw [putReason_control] at hengaged
    by_cases hd : d = c
    · subst hd
      rw [putReason_corner, decide_eq_true hengaged]
      exact ((hquiet hengaged d).without which).reaction
    · rw [putReason_corner_of_ne which false c hd]
      exact hquiet hengaged d

/-! ## What the link reset clears (R160) -/

/-- The queues, the report slot and the supervision of both ports cleared. -/
def flushed (p : Part) : Part := ((p.modLink Link.flush).modPort .s PortPart.clearSupervision).modPort .w PortPart.clearSupervision

theorem clearLink_of_los {p : Part} (h : p.portW.los = true) : clearLink p = forCorners (putReason .link false) (flushed p) := if_pos h

theorem clearLink_of_signal {p : Part} (h : p.portW.los = false) : clearLink p = flushed p := if_neg (by simp [h])

theorem clearLink_eq (p : Part) :
    clearLink p = { flushed p with corners := (clearLink p).corners, events := (clearLink p).events } := by
  cases h : p.portW.los with
  | false => rw [clearLink_of_signal h]
  | true =>
    rw [clearLink_of_los h, SupplyMonitor.putReasons_eq]

theorem loadAbandoned_eq (b : Bank) : loadAbandoned b = b.reset := by
  unfold loadAbandoned Bank.reset
  cases h : b.state <;> simp [← h]

theorem banks_reset_eq (k : Banks) : k.reset = { k with a := loadAbandoned k.a, b := loadAbandoned k.b } := by
  rw [loadAbandoned_eq, loadAbandoned_eq]
  rfl

/-- The supervisor reaches state, regulator, diagnosis and counters of its corner. -/
theorem reaction_eq (engaged : Bool) (k : CornerPart) : reaction engaged k = { k with
    state := (reaction engaged k).state, reg := (reaction engaged k).reg
    diag := (reaction engaged k).diag, counters := (reaction engaged k).counters } := by
  rcases Supervisory.reaction_cases engaged k with h | ⟨-, -, -, h⟩ | ⟨-, -, -, h⟩ <;> rw [h] <;> rfl

/-- The corner with its load abandoned. -/
def unloading (k : CornerPart) : CornerPart := k.modBanks Banks.reset

theorem Quiet.unloading {k : CornerPart} (h : Quiet k) : Quiet (unloading k) := h

/-- The part as the link reset leaves it, its frame not yet placed. -/
def cleared (p : Part) : Part := clearLink (linkResetStore (goodFrame .s p))

theorem cleared_corner (c : Corner) (p : Part) : (cleared p).corner c =
    if p.portW.los then reaction (decide (p.control = .engaged)) (withReason .link false (unloading (p.corner c)))
    else unloading (p.corner c) := by
  have hcorner : (flushed (linkResetStore (goodFrame .s p))).corner c = unloading (p.corner c) :=
    linkResetStore_corner c (goodFrame .s p)
  cases h : p.portW.los with
  | false =>
    rw [cleared, clearLink_of_signal (p := linkResetStore (goodFrame .s p)) h, hcorner]
    rfl
  | true =>
    rw [cleared, clearLink_of_los (p := linkResetStore (goodFrame .s p)) h, putReasons_corner, hcorner]
    rfl

theorem cleared_corner_frame (c : Corner) (p : Part) : (cleared p).corner c = { p.corner c with
    state := ((cleared p).corner c).state, reg := ((cleared p).corner c).reg, diag := ((cleared p).corner c).diag
    counters := ((cleared p).corner c).counters
    reasons := { (p.corner c).reasons with link := if p.portW.los then false else (p.corner c).reasons.link }
    banks := { (p.corner c).banks with a := loadAbandoned (p.corner c).banks.a, b := loadAbandoned (p.corner c).banks.b } } := by
  rw [cleared_corner, ← banks_reset_eq]
  split
  · rw [reaction_eq]
    rfl
  · rfl

theorem cleared_eq (p : Part) : cleared p = { p with
    corners := (cleared p).corners, events := (cleared p).events
    link := p.link.flush
    portS := supervisionCleared (afterGood .s p).portS
    portW := supervisionCleared p.portW
    store := ⟨.fill false, 0, none, p.store.scrub⟩
    slot := abandonedSlot p.slot } := by
  rw [cleared, clearLink_eq]
  rfl

section Quiet

variable {p : Part} (h : p.portW.los = false ∨ p.control ≠ .engaged ∨ p.supervised)

include h

/-- Where LINK can end no retry, its removal raises nothing. -/
theorem cleared_events : (cleared p).events = p.events := by
  cases hlos : p.portW.los with
  | false =>
    rw [cleared, clearLink_of_signal (p := linkResetStore (goodFrame .s p)) hlos]
    rfl
  | true =>
    rw [cleared, clearLink_of_los (p := linkResetStore (goodFrame .s p)) hlos, putReasons_events_of_quiet]
    · rfl
    · intro hengaged c
      have hsup : p.supervised := (h.resolve_left (by simp [hlos])).resolve_left (fun hne => hne hengaged)
      have hcorner : (flushed (linkResetStore (goodFrame .s p))).corner c = unloading (p.corner c) :=
        linkResetStore_corner c (goodFrame .s p)
      rw [hcorner]
      exact (quiet_of_supervised hsup hengaged c).unloading

/-- The corner is returned to CONTROL, or its state, regulator, diagnosis and counters stay. -/
theorem cleared_corner_cases (c : Corner) :
    (p.portW.los = true ∧ p.control = .engaged ∧ (∃ x, (p.corner c).state = .passive x) ∧
        { (p.corner c).reasons with link := false } = ⟨false, false, false, false, false⟩ ∧
        (cleared p).corner c = returned (withReason .link false (unloading (p.corner c)))) ∨
      ((p.portW.los = false ∨ p.control ≠ .engaged ∨ (∀ x, (p.corner c).state ≠ .passive x) ∨
          { (p.corner c).reasons with link := false } ≠ ⟨false, false, false, false, false⟩) ∧
        ((cleared p).corner c).state = (p.corner c).state ∧ ((cleared p).corner c).reg = (p.corner c).reg ∧
        ((cleared p).corner c).diag = (p.corner c).diag ∧ ((cleared p).corner c).counters = (p.corner c).counters) := by
  rw [cleared_corner]
  cases hlos : p.portW.los with
  | false => exact .inr ⟨.inl rfl, rfl, rfl, rfl, rfl⟩
  | true =>
    rw [if_pos rfl]
    by_cases hengaged : p.control = .engaged
    · have hsup : p.supervised := (h.resolve_left (by simp [hlos])).resolve_left (fun hne => hne hengaged)
      rw [decide_eq_true hengaged]
      rcases ((quiet_of_supervised hsup hengaged c).unloading.without .link).reaction_cases with ⟨hk, hstays⟩ | ⟨hs, hr, hk⟩
      · rw [hk]
        refine .inr ⟨.inr (.inr (hstays.imp id fun hr hnone => ?_)), rfl, rfl, rfl, rfl⟩
        exact Bool.false_ne_true (hr.symm.trans ((FaultClearing.reasons_none_iff _).mpr hnone))
      · exact .inl ⟨rfl, hengaged, hs, (FaultClearing.reasons_none_iff _).mp hr, hk⟩
    · rw [decide_eq_false hengaged]
      exact .inr ⟨.inr (.inl hengaged), rfl, rfl, rfl, rfl⟩

end Quiet

theorem takeLinkReset_alone {f : Frame} {p : Part} (h : p.params.resetFollowsLink = 0) :
    takeLinkReset f (goodFrame .s p) = placeWheelBound f (cleared p) := by
  have hne : ¬ (goodFrame .s p).params.resetFollowsLink = 1 := by
    change ¬ p.params.resetFollowsLink = 1
    omega
  rw [takeLinkReset, if_neg hne, cleared]

theorem exec_linkReset_alone {s : State} (h : s.part.params.resetFollowsLink = 0) (dst src : Byte) (payload : List Byte) :
    exec (.linkReset dst src payload) s = .next ⟨placeWheelBound ⟨dst, src, 0x0E, payload⟩ (cleared s.part), s.pending⟩ := by
  change s.onPart (fun p => takeLinkReset ⟨dst, src, 0x0E, payload⟩ (goodFrame .s p)) = _
  simp only [State.onPart_eq, takeLinkReset_alone h]

/-- Settles O19: the corners and events are those of `cleared`; the frame meets an empty queue at Port W. -/
theorem linkResetAlone : Obligations.LinkResetAlone := by
  intro dst src payload s hfollows
  refine ⟨_, exec_linkReset_alone hfollows dst src payload, rfl, ?_⟩
  generalize (⟨dst, src, 0x0E, payload⟩ : Frame) = f
  have hlink : (cleared s.part).link = s.part.link.flush := by rw [cleared_eq]
  have hportW : (cleared s.part).portW = supervisionCleared s.part.portW := by rw [cleared_eq]
  have hempty : (cleared s.part).link.wheelBound = [] := by rw [hlink]; rfl
  have hsubstitute : (cleared s.part).link.substitute = s.part.link.substitute := by rw [hlink]; rfl
  have hsending : (cleared s.part).portW.sending = s.part.portW.sending := by rw [hportW]; rfl
  have hcorner (c : Corner) : (placeWheelBound f (cleared s.part)).corner c = (cleared s.part).corner c := placeWheelBound_corner ..
  have hplaced : (placeWheelBound f (cleared s.part)).link.chassisBound = [] ∧
      (placeWheelBound f (cleared s.part)).link.report = none ∧
      (placeWheelBound f (cleared s.part)).link.replies = s.part.link.replies := by
    rw [placeWheelBound_eq, hlink]
    exact ⟨rfl, rfl, rfl⟩
  refine ⟨?_, hplaced.1, hplaced.2.1, hplaced.2.2, fun hw => ?_, fun hw hg => ?_, fun g hw hg => ?_, fun c => ?_, fun hquiet => ?_⟩
  · dsimp only
    rw [placeWheelBound_eq, cleared_eq]
    rfl
  · dsimp only
    rw [placeWheelBound_empty_of_sending hempty (hsending ▸ hw)]
    exact ⟨rfl, hsubstitute, hportW⟩
  · dsimp only
    rw [placeWheelBound_of_idle (hsending ▸ hw) hempty (hsubstitute ▸ hg)]
    refine ⟨hempty, hsubstitute.trans hg, ?_⟩
    rw [cleared_eq]
    rfl
  · dsimp only
    rw [placeWheelBound_empty_of_substitute hempty (hsending ▸ hw) (hsubstitute ▸ hg)]
    refine ⟨rfl, rfl, ?_⟩
    rw [cleared_eq]
    rfl
  · dsimp only
    rw [hcorner]
    exact cleared_corner_frame c s.part
  · refine ⟨(placeWheelBound_events ..).trans (cleared_events hquiet), fun c => ?_⟩
    dsimp only
    rw [hcorner]
    rcases cleared_corner_cases hquiet c with ⟨hlos, hengaged, ⟨x, hs⟩, hnone, hk⟩ | ⟨hstays, hstate, hreg, hdiag, hcounters⟩
    · rw [hk]
      refine ⟨rfl, rfl, fun _ _ _ _ => ⟨rfl, rfl⟩, ?_⟩
      rintro (h | h | h | h)
      · simp [hlos] at h
      · exact absurd hengaged h
      · exact absurd hs (h x)
      · exact absurd hnone h
    · refine ⟨hdiag, hcounters, ?_, fun _ => ⟨hstate, hreg⟩⟩
      rintro hlos hengaged ⟨x, hs⟩ hnone
      rcases hstays with h | h | h | h
      · simp [hlos] at h
      · exact absurd hengaged h
      · exact absurd hs (h x)
      · exact absurd hnone h

end Sys2Proof.LinkResets

/-! # The closure of a cycle (R14, R15, R92) -/

namespace Sys2Proof.Closures

open Sys2Proof Sys2Proof.Machine Sys2Proof.Claims Sys2Proof.Estimation

/-- What one corner's operation establishes, where the others leave its condition before it and its outcome after it. -/
theorem forCorners_establishes_own {P R : Part → Prop} {f : Corner → Part → Part} {c : Corner} {p : Part}
    (before : ∀ d q, c ≠ d → R q → R (f d q)) (own : ∀ q, R q → P (f c q)) (after : ∀ d q, c ≠ d → P q → P (f d q))
    (hp : R p) : P (forCorners f p) := by
  unfold forCorners
  cases c with
  | fl => exact after _ _ (by decide) (after _ _ (by decide) (after _ _ (by decide) (own _ hp)))
  | fr => exact after _ _ (by decide) (after _ _ (by decide) (own _ (before _ _ (by decide) hp)))
  | rl => exact after _ _ (by decide) (own _ (before _ _ (by decide) (before _ _ (by decide) hp)))
  | rr => exact own _ (before _ _ (by decide) (before _ _ (by decide) (before _ _ (by decide) hp)))

/-! ## The demand of a computation (R48 to R56) -/

/-- The demand a computation forms (R56). -/
def demandAt (c : Corner) (sky ground : Bool) (p : Part) : Nat :=
  demandOf p.params ((p.schedule.get p.context.mode).get p.selectBand.band) (p.corner c).motion sky ground (p.context.offsets.get c)

/-- The part with a demand formed at a corner and the band it was formed with selected. -/
def demandFormed (c : Corner) (demand : Nat) (p : Part) : Part :=
  (p.setSelection (some p.selectBand)).modCorner c fun k => { k with lastDemand := demand }

theorem formDemand_eq (c : Corner) (sky ground apply : Bool) (p : Part) : formDemand c sky ground apply p =
    formTarget c (demandAt c sky ground p) apply (demandFormed c (demandAt c sky ground p) p) := rfl

/-! ## One corner's held computation beyond its corner -/

theorem corruptActive_control {c : Corner} {id : BankId} {p : Part} (h : p.control = .engaged) :
    (corruptActive c id p).control = p.control := by
  unfold corruptActive
  rw [judgeLoaded_eq_self (by simp [h]) (by simp [h])]
  simp

theorem formTarget_control {c : Corner} {demand : Nat} {apply : Bool} {p : Part} (h : p.control = .engaged) :
    (formTarget c demand apply p).control = p.control := by
  unfold formTarget
  dsimp only
  split
  · rfl
  · split
    · rfl
    · exact corruptActive_control (p := p.modCorner c fun k => { k with lastTarget := 0 }) h

/-- The end of a computation never moves the control state: a parity failure met there unloads nothing (R113, R125). -/
theorem demandStep_control (c : Corner) (sky ground : Bool) (p : Part) : (demandStep c sky ground p).control = p.control := by
  unfold demandStep
  split
  · exact formTarget_control (by assumption)
  · exact formTarget_control (by assumption)
  · rfl

theorem heldComputation_control (c : Corner) (p : Part) : (heldComputation c p).control = p.control := by
  rw [heldComputation_eq, demandStep_control, supervise_control]
  rfl

theorem computeHeld_control (c : Corner) (p : Part) : (computeHeld c p).control = p.control := by
  unfold computeHeld
  split
  · exact heldComputation_control c p
  · rfl

theorem computeHeld_of_due {c : Corner} {p : Part} (hc : p.control.computes = true)
    (hn : p.tracker.record.computed.get c = false) : computeHeld c p = heldComputation c p :=
  if_pos (by rw [hc, hn]; rfl)

theorem computeHeld_of_computed {c : Corner} {p : Part} (h : p.tracker.record.computed.get c = true) : computeHeld c p = p :=
  if_neg (by simp [h])

theorem computeHeld_of_not_computes {c : Corner} {p : Part} (h : p.control.computes = false) : computeHeld c p = p :=
  if_neg (by simp [h])

/-- A closure's step at a corner adds that corner to the record's computed, in a control state that computes. -/
theorem computeHeld_tracker (c : Corner) (p : Part) : (computeHeld c p).tracker = { p.tracker with
    record := { p.tracker.record with
      computed := if p.control.computes then p.tracker.record.computed.set c true else p.tracker.record.computed } } := by
  cases hc : p.control.computes with
  | false => rw [computeHeld_of_not_computes hc, if_neg Bool.false_ne_true]
  | true =>
    cases hn : p.tracker.record.computed.get c with
    | false =>
      rw [computeHeld_of_due hc hn, heldComputation_tracker, if_pos rfl]
    | true =>
      have hset : p.tracker.record.computed.set c true = p.tracker.record.computed := by
        refine Quad.ext_get fun d => ?_
        rw [Quad.get_set]
        split
        next h => rw [h, hn]
        next => rfl
      rw [computeHeld_of_computed hn, if_pos rfl, hset]

theorem computeHeld_corner_of_ne {c d : Corner} (h : c ≠ d) (p : Part) : (computeHeld d p).corner c = p.corner c := by
  unfold computeHeld
  split
  · exact ((heldComputation_kept d p).others c h).trans (heldPart_corner_of_ne h p)
  · rfl

theorem pendingEvent_computeHeld {p : Part} {e : Event} (h : pendingEvent p e) (c : Corner) :
    pendingEvent (computeHeld c p) e := by
  unfold computeHeld
  split
  · exact (heldComputation_kept c p).events e h
  · exact h

/-! ## The closure -/

/-- The part whose record is closed and whose corners are all computed, its report not yet placed. -/
def allHeld (p : Part) : Part := forCorners computeHeld (p.modTracker Tracker.shut)

/-- The mean accumulators of all corners stop (R92). -/
def meansStopped (p : Part) : Part := forCorners (fun c p => p.modCorner c fun k => { k with reg := k.reg.stopMean }) p

theorem closeCycle_eq (p : Part) : closeCycle p = meansStopped (placeReport (reportFrame (allHeld p)) (allHeld p)) := rfl

theorem meansStopped_corner (c : Corner) (p : Part) :
    (meansStopped p).corner c = { p.corner c with reg := (p.corner c).reg.stopMean } :=
  forCorners_corner (f := fun c p => p.modCorner c fun k => { k with reg := k.reg.stopMean })
    (g := fun _ k => { k with reg := k.reg.stopMean }) (fun _ _ => Part.corner_modCorner_self _ _ _)
    (fun _ _ _ h => Part.corner_modCorner_of_ne h _ _) (fun _ _ _ => rfl) c p

theorem meansStopped_eq (p : Part) : meansStopped p = { p with corners := (meansStopped p).corners } := rfl

/-- A frame placed in the report slot touches Port S, the link and REPORT_OVERRUN (R154). -/
theorem placeReport_eq (f : Frame) (p : Part) : placeReport f p = { p with
    portS := { p.portS with sending := (placeReport f p).portS.sending }
    link := { p.link with
      chassisBound := (placeReport f p).link.chassisBound
      replies := (placeReport f p).link.replies
      report := (placeReport f p).link.report }
    globals := { p.globals with reportOverrun := (placeReport f p).globals.reportOverrun } } := by
  unfold placeReport arbitrateS
  dsimp only
  split <;> split <;> first | rfl | (split <;> rfl)

/-- Parts that agree but for tracker, corners, selection and events. -/
theorem eq_of_frame {p q : Part} (now : q.now = p.now) (straps : q.straps = p.straps) (context : q.context = p.context)
    (control : q.control = p.control) (schedule : q.schedule = p.schedule) (store : q.store = p.store) (pwm : q.pwm = p.pwm)
    (supply : q.supply = p.supply) (portS : q.portS = p.portS) (portW : q.portW = p.portW)
    (intervalAt : q.intervalAt = p.intervalAt) (link : q.link = p.link) (slot : q.slot = p.slot) (params : q.params = p.params)
    (globals : q.globals = p.globals) (pins : q.pins = p.pins) :
    q = { p with tracker := q.tracker, corners := q.corners, selection := q.selection, events := q.events } := by
  rw [← now, ← straps, ← context, ← control, ← schedule, ← store, ← pwm, ← supply, ← portS, ← portW, ← intervalAt, ← link,
    ← slot, ← params, ← globals, ← pins]

theorem computeHeld_eq (c : Corner) (p : Part) : computeHeld c p = { p with
    tracker := (computeHeld c p).tracker, corners := (computeHeld c p).corners, selection := (computeHeld c p).selection
    events := (computeHeld c p).events } :=
  eq_of_frame (computeHeld_now ..) (computeHeld_straps ..) (computeHeld_context ..) (computeHeld_control ..)
    (computeHeld_schedule ..) (computeHeld_store ..) (computeHeld_pwm ..) (computeHeld_supply ..) (computeHeld_portS ..)
    (computeHeld_portW ..) (computeHeld_intervalAt ..) (computeHeld_link ..) (computeHeld_slot ..) (computeHeld_params ..)
    (computeHeld_globals ..) (computeHeld_pins ..)

theorem allHeld_eq (p : Part) : allHeld p = { p with
    tracker := (allHeld p).tracker, corners := (allHeld p).corners, selection := (allHeld p).selection
    events := (allHeld p).events } :=
  forCorners_keeps (P := fun q => q = { p with
      tracker := q.tracker, corners := q.corners, selection := q.selection, events := q.events })
    (fun c q hq => by
      rw [computeHeld_eq, hq]) rfl

theorem allHeld_tracker (p : Part) : (allHeld p).tracker = { p.tracker with
    deadlineAt := none
    record := { p.tracker.record with
      closed := true
      computed := if p.control.computes then .fill true else p.tracker.record.computed } } := by
  simp only [allHeld, forCorners, computeHeld_tracker, computeHeld_control, Part.modTracker_control]
  rcases Bool.eq_false_or_eq_true p.control.computes with h | h
  · simp only [h, if_true]
    rfl
  · simp only [h, Bool.false_eq_true, if_false]
    rfl

/-- What a closure leaves: the rest of the part beside corners, tracker, selection, events and the report's way. -/
theorem closeCycle_frame (p : Part) : closeCycle p = { p with
    tracker := (allHeld p).tracker
    corners := (closeCycle p).corners
    selection := (allHeld p).selection
    events := (allHeld p).events
    portS := { p.portS with sending := (closeCycle p).portS.sending }
    link := { p.link with
      chassisBound := (closeCycle p).link.chassisBound
      replies := (closeCycle p).link.replies
      report := (closeCycle p).link.report }
    globals := { p.globals with reportOverrun := (closeCycle p).globals.reportOverrun } } := by
  rw [closeCycle_eq, meansStopped_eq, placeReport_eq, allHeld_eq]

theorem closeCycle_tracker (p : Part) : (closeCycle p).tracker = (allHeld p).tracker := by rw [closeCycle_frame]

theorem closeCycle_corner (c : Corner) (p : Part) :
    (closeCycle p).corner c = { (allHeld p).corner c with reg := ((allHeld p).corner c).reg.stopMean } := by
  rw [closeCycle_eq, meansStopped_corner, placeReport_corner]

theorem pendingEvent_closeCycle {p : Part} {e : Event} (h : pendingEvent p e) : pendingEvent (closeCycle p) e := by
  have hheld : pendingEvent (allHeld p) e :=
    forCorners_keeps (P := fun q => pendingEvent q e) (fun c _ hq => pendingEvent_computeHeld hq c) h
  rw [closeCycle_frame]
  exact hheld

theorem closeOpen_of_closed {p : Part} (h : p.tracker.record.closed = true) : closeOpen p = p := if_pos h

theorem closeOpen_of_open {p : Part} (h : p.tracker.record.closed = false) : closeOpen p = closeCycle p :=
  if_neg (by simp [h])

/-- Closing an open cycle leaves the part as a closure does; with the cycle closed there is nothing to close. -/
theorem closeOpen_frame (p : Part) : ∃ (record : CycleRecord) (deadlineAt : Option Nat), closeOpen p = { p with
    tracker := { p.tracker with record := { record with number := p.tracker.record.number }, deadlineAt := deadlineAt }
    corners := (closeOpen p).corners
    selection := (closeOpen p).selection
    events := (closeOpen p).events
    portS := { p.portS with sending := (closeOpen p).portS.sending }
    link := { p.link with
      chassisBound := (closeOpen p).link.chassisBound
      replies := (closeOpen p).link.replies
      report := (closeOpen p).link.report }
    globals := { p.globals with reportOverrun := (closeOpen p).globals.reportOverrun } } := by
  cases h : p.tracker.record.closed with
  | true => exact ⟨p.tracker.record, p.tracker.deadlineAt, by rw [closeOpen_of_closed h]⟩
  | false =>
    refine ⟨(allHeld p).tracker.record, none, ?_⟩
    rw [closeOpen_of_open h, closeCycle_frame, allHeld_tracker]

theorem pendingEvent_closeOpen {p : Part} {e : Event} (h : pendingEvent p e) : pendingEvent (closeOpen p) e := by
  unfold closeOpen
  split
  · exact h
  · exact pendingEvent_closeCycle h

end Sys2Proof.Closures

/-! # Cycle starts (R4, R92, R101, R102, R143, R144) -/

namespace Sys2Proof.CycleStarts

open Sys2Proof Sys2Proof.Machine Sys2Proof.Claims Sys2Proof.Estimation Sys2Proof.Supervisory Sys2Proof.ParityFailures
  Sys2Proof.MapSwaps Sys2Proof.Reasons Sys2Proof.Closures

/-! ## What a cycle start makes of a corner, its motion record aside -/

/-- The corner with its mean started afresh (R92). -/
def meanStarted (k : CornerPart) : CornerPart := { k with reg := k.reg.startMean }

/-- The corner once a pending swap has taken effect (R143, R144). -/
def swapTaken (engaged : Bool) (k : CornerPart) : CornerPart :=
  if k.banks.swapPending then reaction engaged (withReason .map false (k.modBanks Banks.swap)) else k

/-- The corner once its episode has counted the cycle start (R101, R102). -/
def episodeCounted (k : CornerPart) : CornerPart :=
  match k.state, k.diag.episode with
  | .suspended, _ => k.resume
  | .control, some ⟨limit, some w⟩ =>
    if w ≤ 1 then { k with diag := k.diag.recover }
    else { k with diag := { k.diag with episode := some ⟨limit, some (w - 1)⟩ } }
  | _, _ => k

/-- The corner after a cycle start. -/
def started (engaged : Bool) (k : CornerPart) : CornerPart := episodeCounted (swapTaken engaged (meanStarted k))

theorem swapTaken_of_pending {k : CornerPart} (h : k.banks.swapPending = true) (engaged : Bool) :
    swapTaken engaged k = reaction engaged (withReason .map false (k.modBanks Banks.swap)) := if_pos h

theorem swapTaken_of_not_pending {k : CornerPart} (h : k.banks.swapPending = false) (engaged : Bool) :
    swapTaken engaged k = k := if_neg (by simp [h])

theorem episodeCounted_of_suspended {k : CornerPart} (h : k.state = .suspended) : episodeCounted k = k.resume := by
  unfold episodeCounted
  rw [h]

theorem episodeCounted_of_window {k : CornerPart} {limit w : Nat} (h : k.state = .control)
    (he : k.diag.episode = some ⟨limit, some w⟩) : episodeCounted k =
      if w ≤ 1 then { k with diag := k.diag.recover }
      else { k with diag := { k.diag with episode := some ⟨limit, some (w - 1)⟩ } } := by
  unfold episodeCounted
  rw [h, he]

theorem episodeCounted_of_other {k : CornerPart} (hs : k.state ≠ .suspended)
    (hw : ∀ limit w, k.state = .control → k.diag.episode ≠ some ⟨limit, some w⟩) : episodeCounted k = k := by
  unfold episodeCounted
  split
  next _ _ h => exact absurd h hs
  next h he => exact absurd he (hw _ _ h)
  next => rfl

/-- The cases of a corner's episode at a cycle start. -/
theorem episodeCounted_cases (k : CornerPart) : (k.state = .suspended ∧ episodeCounted k = k.resume) ∨
    (k.state = .control ∧ ∃ d, episodeCounted k = { k with diag := d }) ∨ (k.state ≠ .suspended ∧ episodeCounted k = k) := by
  unfold episodeCounted
  split
  next _ _ h => exact .inl ⟨h, rfl⟩
  next h _ =>
    refine .inr (.inl ⟨h, ?_⟩)
    split <;> exact ⟨_, rfl⟩
  next hne _ => exact .inr (.inr ⟨hne, rfl⟩)

theorem episodeCounted_motion (k : CornerPart) (m : Motion) :
    episodeCounted { k with motion := m } = { episodeCounted k with motion := m } := by
  unfold episodeCounted
  dsimp only
  split
  · rfl
  · split <;> rfl
  · rfl

/-- What no cycle start moves at a corner but its swap does: banks and reasons. -/
theorem episodeCounted_banks_reasons (k : CornerPart) :
    (episodeCounted k).banks = k.banks ∧ (episodeCounted k).reasons = k.reasons := by
  rcases episodeCounted_cases k with ⟨-, h⟩ | ⟨-, d, h⟩ | ⟨-, h⟩ <;> rw [h] <;> exact ⟨rfl, rfl⟩

/-- The means run afresh through the swap and the episode. -/
theorem started_mean (engaged : Bool) (k : CornerPart) : (started engaged k).reg.meanSum = 0 ∧
    (started engaged k).reg.meanCount = 0 ∧ (started engaged k).reg.meanRunning = true := by
  have hswap : (swapTaken engaged (meanStarted k)).reg.meanSum = 0 ∧ (swapTaken engaged (meanStarted k)).reg.meanCount = 0 ∧
      (swapTaken engaged (meanStarted k)).reg.meanRunning = true := by
    unfold swapTaken
    split
    · rcases reaction_cases engaged (withReason .map false ((meanStarted k).modBanks Banks.swap)) with
        h | ⟨-, -, -, h⟩ | ⟨-, -, -, h⟩ <;> rw [h] <;> exact ⟨rfl, rfl, rfl⟩
    · exact ⟨rfl, rfl, rfl⟩
  rcases episodeCounted_cases (swapTaken engaged (meanStarted k)) with ⟨-, h⟩ | ⟨-, d, h⟩ | ⟨-, h⟩ <;>
    rw [started, h] <;> exact hswap

theorem started_not_suspended (engaged : Bool) (k : CornerPart) : (started engaged k).state ≠ .suspended := by
  rcases episodeCounted_cases (swapTaken engaged (meanStarted k)) with ⟨-, h⟩ | ⟨hs, d, h⟩ | ⟨hs, h⟩ <;> rw [started, h]
  · nofun
  · rw [hs]
    nofun
  · exact hs

theorem started_banks_of_pending {k : CornerPart} (h : k.banks.swapPending = true) (engaged : Bool) :
    (started engaged k).banks = k.banks.swap ∧ (started engaged k).reasons = { k.reasons with map := false } := by
  obtain ⟨hbanks, hreasons⟩ := episodeCounted_banks_reasons (swapTaken engaged (meanStarted k))
  rw [started, hbanks, hreasons, swapTaken_of_pending (k := meanStarted k) h, reaction_banks, reaction_reasons]
  exact ⟨rfl, rfl⟩

theorem started_of_not_pending {k : CornerPart} (h : k.banks.swapPending = false) (engaged : Bool) :
    started engaged k = episodeCounted (meanStarted k) := by
  rw [started, swapTaken_of_not_pending (k := meanStarted k) h]

theorem started_swapPending (engaged : Bool) (k : CornerPart) : (started engaged k).banks.swapPending = false := by
  cases h : k.banks.swapPending with
  | true =>
    obtain ⟨hbanks, -⟩ := started_banks_of_pending h engaged
    rw [hbanks]
    rfl
  | false =>
    obtain ⟨hbanks, -⟩ := episodeCounted_banks_reasons (meanStarted k)
    rw [started_of_not_pending h, hbanks]
    exact h

/-- A regulating or waiting corner without reasons goes on through a swap. -/
theorem swapTaken_state_of_settled {k : CornerPart} (engaged : Bool) (hs : k.state = .control ∨ k.state = .suspended)
    (h : k.banks.swapPending = false ∨ k.reasons = ⟨false, false, false, false, false⟩) :
    ∃ banks reasons, swapTaken engaged k = { k with banks := banks, reasons := reasons } := by
  cases hp : k.banks.swapPending with
  | false => exact ⟨_, _, swapTaken_of_not_pending hp engaged⟩
  | true =>
    have hnone : k.reasons = ⟨false, false, false, false, false⟩ := h.resolve_left (by simp [hp])
    refine ⟨k.banks.swap, k.reasons.put .map false, ?_⟩
    rw [swapTaken_of_pending hp]
    rcases reaction_cases engaged (withReason .map false (k.modBanks Banks.swap)) with hk | ⟨-, hr, -, -⟩ | ⟨-, -, ⟨b, hb⟩, -⟩
    · exact hk
    · change (k.reasons.put .map false).none = false at hr
      rw [hnone] at hr
      exact absurd hr (by decide)
    · change k.state = .passive b at hb
      rcases hs with hs | hs <;> rw [hs] at hb <;> cases hb

/-! ## One corner's part of a cycle start -/

theorem swapIfPending_of_pending {c : Corner} {p : Part} (h : (p.corner c).banks.swapPending = true) :
    swapIfPending c p = judgeLoaded (swapRaised c p) := if_pos h

theorem swapIfPending_corner (c : Corner) (p : Part) : ∃ m, (swapIfPending c p).corner c =
    { swapTaken (decide (p.control = .engaged)) (p.corner c) with motion := m } := by
  cases h : (p.corner c).banks.swapPending with
  | false => exact ⟨_, by rw [swapTaken_of_not_pending h, swapIfPending, if_neg (by simp [h])]⟩
  | true =>
    obtain ⟨-, m, hm⟩ := Beside.judgeLoaded c (swapRaised c p)
    refine ⟨m, ?_⟩
    rw [swapIfPending_of_pending h, hm, swapTaken_of_pending h, swapRaised, raise_corner, putReason_corner,
      Part.modCorner_control, Part.corner_modCorner_self]

theorem episodeAtCycleStart_corner (c : Corner) (p : Part) :
    (episodeAtCycleStart c p).corner c = episodeCounted (p.corner c) := by
  unfold episodeAtCycleStart
  split
  next _ _ h => rw [episodeCounted_of_suspended h, Part.corner_modCorner_self]
  next h he =>
    rw [episodeCounted_of_window h he]
    unfold countWindow
    split
    · rw [raise_corner, Part.corner_modCorner_self]
    · rw [Part.corner_modCorner_self]
  next hs hw => rw [episodeCounted_of_other hs hw]

theorem cornerAtCycleStart_corner (c : Corner) (p : Part) : ∃ m, (cornerAtCycleStart c p).corner c =
    { started (decide (p.control = .engaged)) (p.corner c) with motion := m } := by
  obtain ⟨m, hm⟩ := swapIfPending_corner c (p.modCorner c fun k => { k with reg := k.reg.startMean })
  refine ⟨m, ?_⟩
  rw [cornerAtCycleStart, episodeAtCycleStart_corner, hm, episodeCounted_motion, Part.modCorner_control,
    Part.corner_modCorner_self]
  rfl

theorem onlySupervisory_swapIfPending (c : Corner) (p : Part) : OnlySupervisory p (swapIfPending c p) := by
  unfold swapIfPending
  split
  · exact (onlySupervisory_swapRaised c p).trans (.judgeLoaded _)
  · exact .refl p

theorem onlySupervisory_episode (c : Corner) (p : Part) : OnlySupervisory p (episodeAtCycleStart c p) := by
  unfold episodeAtCycleStart
  split
  · exact .modCorner c _ p
  · unfold countWindow
    split
    · exact (OnlySupervisory.modCorner c _ p).trans (.raise _ _ _)
    · exact .modCorner c _ p
  · exact .refl p

theorem beside_cornerAtCycleStart {c d : Corner} (h : c ≠ d) (p : Part) : Beside c p (cornerAtCycleStart d p) := by
  have hmean : Beside c p (p.modCorner d fun k => { k with reg := k.reg.startMean }) := .modCorner h _ p
  have hswap (q : Part) : Beside c q (swapIfPending d q) := by
    unfold swapIfPending
    split
    · exact beside_swapAct h .swapped q
    · exact .refl c q
  have hepisode (q : Part) : Beside c q (episodeAtCycleStart d q) := by
    refine .of_eq (onlySupervisory_episode d q) ?_
    unfold episodeAtCycleStart
    split
    · exact Part.corner_modCorner_of_ne h _ _
    · unfold countWindow
      split
      · rw [raise_corner]
        exact Part.corner_modCorner_of_ne h _ _
      · exact Part.corner_modCorner_of_ne h _ _
    · rfl
  exact (hmean.trans (hswap _)).trans (hepisode _)

theorem pendingEvent_mapSwapped {c : Corner} {p : Part} (h : (p.corner c).banks.swapPending = true) :
    pendingEvent (cornerAtCycleStart c p) (.mapSwapped c) := by
  refine (onlySupervisory_episode c _).events _ ?_
  rw [swapIfPending_of_pending (by rwa [Part.corner_modCorner_self])]
  exact (OnlySupervisory.judgeLoaded _).events _ (pendingEvent_raise_self _ _ _)

/-- A window's last count raises VALVE_RECOVERED with the last kind (R102). -/
theorem recoveryRaised_episodeAtCycleStart {c : Corner} {limit w : Nat} {p : Part} (hs : (p.corner c).state = .control)
    (he : (p.corner c).diag.episode = some ⟨limit, some w⟩) (hw : w = 1) :
    recoveryRaised (episodeAtCycleStart c p) c (p.corner c).diag.record.kind := by
  subst hw
  rw [LeakAndRecovery.episodeAtCycleStart_recovers hs he]
  exact CalibrationOutcomes.exists_mem_raiseIn_parameter _ _ _ _

/-- The cycle start at a corner loses no entry of another corner's recovery. -/
theorem recoveryRaised_cornerAtCycleStart {c d : Corner} (h : c ≠ d) {kind : FaultKind} {p : Part}
    (hp : recoveryRaised p c kind) : recoveryRaised (cornerAtCycleStart d p) c kind := by
  obtain ⟨x, hx, he, hb⟩ := hp
  refine ⟨x, ?_, he, hb⟩
  have hswap (q : Part) (hq : x ∈ q.events) : x ∈ (swapIfPending d q).events := by
    unfold swapIfPending
    split
    · rw [swapEffect, judgeLoaded_events]
      refine CalibrationOutcomes.mem_raiseIn_of_ne ?_ (by simp [he]) _ _
      exact SupplyMonitor.mem_supervise (by exact hq) (by simp [he])
    · exact hq
  have hepisode (q : Part) (hq : x ∈ q.events) : x ∈ (episodeAtCycleStart d q).events := by
    unfold episodeAtCycleStart
    split
    · exact hq
    · unfold countWindow
      split
      · exact CalibrationOutcomes.mem_raiseIn_of_ne hq (by simp [he, h]) _ _
      · exact hq
    · exact hq
  exact hepisode _ (hswap _ hx)

/-! ## The cycle start at every corner -/

/-- What a cycle start comes to at a corner, with the events it leaves pending. -/
structure StartedAt (c : Corner) (p q : Part) : Prop where
  corner : ∃ m, q.corner c = { started (decide (p.control = .engaged)) (p.corner c) with motion := m }
  swapped : (p.corner c).banks.swapPending = true → pendingEvent q (.mapSwapped c)
  recovered : ∀ limit, (swapTaken (decide (p.control = .engaged)) (meanStarted (p.corner c))).state = .control →
    (swapTaken (decide (p.control = .engaged)) (meanStarted (p.corner c))).diag.episode = some ⟨limit, some 1⟩ →
    recoveryRaised q c (swapTaken (decide (p.control = .engaged)) (meanStarted (p.corner c))).diag.record.kind

theorem swapTaken_motion (engaged : Bool) (k : CornerPart) (m : Motion) :
    swapTaken engaged { k with motion := m } = { swapTaken engaged k with motion := m } := by
  unfold swapTaken
  dsimp only
  split
  · exact PeriodStarts.reaction_motion engaged (withReason .map false (k.modBanks Banks.swap)) m
  · rfl

theorem started_motion (engaged : Bool) (k : CornerPart) (m : Motion) :
    started engaged { k with motion := m } = { started engaged k with motion := m } := by
  unfold started
  rw [← episodeCounted_motion, ← swapTaken_motion]
  rfl

theorem startedAt_self (c : Corner) (p : Part) : StartedAt c p (cornerAtCycleStart c p) where
  corner := cornerAtCycleStart_corner c p
  swapped := pendingEvent_mapSwapped
  recovered limit hs he := by
    obtain ⟨m, hm⟩ := swapIfPending_corner c (p.modCorner c fun k => { k with reg := k.reg.startMean })
    rw [Part.modCorner_control, Part.corner_modCorner_self] at hm
    have hraised := recoveryRaised_episodeAtCycleStart (c := c) (limit := limit) (w := 1)
      (p := swapIfPending c (p.modCorner c fun k => { k with reg := k.reg.startMean })) (by rw [hm]; exact hs)
      (by rw [hm]; exact he) rfl
    rw [hm] at hraised
    exact hraised

/-- What stands beside the corner before its own start does not count. -/
theorem StartedAt.of_beside {c : Corner} {p q r : Part} (hpq : Beside c p q) (h : StartedAt c q r) : StartedAt c p r := by
  obtain ⟨honly, m, hm⟩ := hpq
  have hengaged : decide (q.control = .engaged) = decide (p.control = .engaged) := decide_eq_decide.mpr honly.engaged
  have hswap : swapTaken (decide (q.control = .engaged)) (meanStarted (q.corner c)) =
      { swapTaken (decide (p.control = .engaged)) (meanStarted (p.corner c)) with motion := m } := by
    rw [hengaged, hm, ← swapTaken_motion]
    rfl
  refine ⟨?_, fun hp => h.swapped (by rw [hm]; exact hp), fun limit hs he => ?_⟩
  · obtain ⟨m', hm'⟩ := h.corner
    rw [hengaged, hm, started_motion] at hm'
    exact ⟨m', hm'⟩
  · have hraised := h.recovered limit (by rw [hswap]; exact hs) (by rw [hswap]; exact he)
    rw [hswap] at hraised
    exact hraised

theorem StartedAt.andStart {c d : Corner} {p q : Part} (h : StartedAt c p q) (hne : c ≠ d) :
    StartedAt c p (cornerAtCycleStart d q) := by
  obtain ⟨honly, m, hm⟩ := beside_cornerAtCycleStart hne q
  obtain ⟨m', hm'⟩ := h.corner
  exact ⟨⟨m, by rw [hm, hm']⟩, fun hp => honly.events _ (h.swapped hp),
    fun limit hs he => recoveryRaised_cornerAtCycleStart hne (h.recovered limit hs he)⟩

theorem onlySupervisory_corners (p : Part) : OnlySupervisory p (forCorners cornerAtCycleStart p) :=
  .forCorners (fun c q => ((OnlySupervisory.modCorner c _ q).trans (onlySupervisory_swapIfPending c _)).trans
    (onlySupervisory_episode c _)) p

theorem startedAt_corners (c : Corner) (p : Part) : StartedAt c p (forCorners cornerAtCycleStart p) :=
  forCorners_establishes_own (R := Beside c p) (P := StartedAt c p)
    (fun _ r hne hr => hr.trans (beside_cornerAtCycleStart hne r)) (fun r hr => .of_beside hr (startedAt_self c r))
    (fun _ _ hne hr => hr.andStart hne) (.refl c p)

theorem startedAt_cycleStart (kind : StartKind) (number : Word) (c : Corner) (p : Part) :
    StartedAt c p (cycleStart kind number p) :=
  have h := startedAt_corners c (p.modTracker fun t => t.start kind number p.now p.params.deadline)
  ⟨h.corner, h.swapped, h.recovered⟩

/-- What the statements say of the corners is the start of each. -/
theorem StartedAt.cornerStarted {c : Corner} {p q : Part} (h : StartedAt c p q) : cornerStarted p q c := by
  obtain ⟨m, hm⟩ := h.corner
  generalize hengaged : decide (p.control = .engaged) = engaged at hm
  have hrecovered := h.recovered
  rw [hengaged] at hrecovered
  refine ⟨fun hp => ?_, fun hp => ?_, fun hs hsettled => ?_, fun limit w hs he hsettled => ?_, fun hs hw hp => ?_⟩
  · obtain ⟨hbanks, hreasons⟩ := started_banks_of_pending hp engaged
    rw [hm]
    dsimp only
    rw [hbanks, hreasons]
    exact ⟨swapped_swap _, rfl, h.swapped hp⟩
  · obtain ⟨hbanks, hreasons⟩ := episodeCounted_banks_reasons (meanStarted (p.corner c))
    rw [hm, started_of_not_pending hp]
    exact ⟨hbanks, hreasons⟩
  · obtain ⟨banks, reasons, hk⟩ := swapTaken_state_of_settled (k := meanStarted (p.corner c)) engaged (.inr hs) hsettled
    rw [hm, started, hk,
      episodeCounted_of_suspended (k := { meanStarted (p.corner c) with banks := banks, reasons := reasons }) hs]
    exact ⟨rfl, rfl, rfl⟩
  · obtain ⟨banks, reasons, hk⟩ := swapTaken_state_of_settled (k := meanStarted (p.corner c)) engaged (.inl hs) hsettled
    rw [hk] at hrecovered
    rw [hm, started, hk,
      episodeCounted_of_window (k := { meanStarted (p.corner c) with banks := banks, reasons := reasons }) hs he]
    refine ⟨?_, fun h2 => ?_, fun h1 => ?_⟩
    · split <;> exact hs
    · rw [if_neg (by omega)]
      rfl
    · subst h1
      exact ⟨rfl, hrecovered limit hs he⟩
  · rw [hm, started_of_not_pending hp, episodeCounted_of_other (k := meanStarted (p.corner c)) hs hw]
    exact ⟨rfl, rfl⟩

theorem cornersStarted_of_startedAt {p q : Part} (h : ∀ c, StartedAt c p q) : cornersStarted q := by
  intro c
  obtain ⟨m, hm⟩ := (h c).corner
  obtain ⟨hsum, hcount, hrunning⟩ := started_mean (decide (p.control = .engaged)) (p.corner c)
  rw [hm]
  exact ⟨hsum, hcount, hrunning, started_swapPending _ _, started_not_suspended _ _⟩

/-- A part with the same corners and events is one started so too. -/
theorem StartedAt.congr {c : Corner} {p q r : Part} (h : StartedAt c p q) (hc : r.corner c = q.corner c)
    (he : r.events = q.events) : StartedAt c p r := by
  have hpending (e : Event) : pendingEvent q e → pendingEvent r e := by
    unfold pendingEvent
    rw [he]
    exact id
  refine ⟨hc ▸ h.corner, fun hp => hpending _ (h.swapped hp), fun limit hs hw => ?_⟩
  unfold recoveryRaised
  rw [he]
  exact h.recovered limit hs hw

/-- A cycle start touches tracker, corners, control state and events only. -/
theorem cycleStart_eq (kind : StartKind) (number : Word) (p : Part) : cycleStart kind number p = { p with
    tracker := p.tracker.start kind number p.now p.params.deadline
    corners := (cycleStart kind number p).corners
    control := (cycleStart kind number p).control
    events := (cycleStart kind number p).events } :=
  (onlySupervisory_corners (p.modTracker fun t => t.start kind number p.now p.params.deadline)).frame

end Sys2Proof.CycleStarts

/-! # Substitutes and the miss timer (R6 to R9, R12, R156) -/

namespace Sys2Proof.Substitutes

open Sys2Proof Sys2Proof.Machine Sys2Proof.Claims Sys2Proof.Supervisory Sys2Proof.ParityFailures Sys2Proof.Reasons
  Sys2Proof.LinkPorts Sys2Proof.LinkResets Sys2Proof.Closures Sys2Proof.CycleStarts

/-! ## The substitute's frame at Port W (R8, R156) -/

section SetSubstitute

variable (f : Frame) (p : Part)

theorem setSubstitute_of_sending (h : p.portW.sending.isSome = true) :
    setSubstitute f p = p.modLink fun k => { k with substitute := some f } := arbitrateW_of_sending h

theorem setSubstitute_of_idle (h : p.portW.sending = none) :
    setSubstitute f p = beginSending .w f (p.modLink fun k => { k with substitute := none }) := arbitrateW_substitute h rfl

theorem setSubstitute_eq : setSubstitute f p = { p with
    link := { p.link with substitute := (setSubstitute f p).link.substitute }
    portW := { p.portW with sending := (setSubstitute f p).portW.sending } } := by
  rcases h : p.portW.sending with _ | x
  · rw [setSubstitute_of_idle f p h]
    rfl
  · rw [setSubstitute_of_sending f p (h ▸ rfl)]
    rfl

end SetSubstitute

/-! ## The substitute itself (R8) -/

/-- The cycle that a substitute starts, its frame not yet placed. -/
def substituteStarted (p : Part) : Part :=
  (cycleStart .substitute p.nextNumber (closeOpen p)).modGlobals fun g => { g with substitutes := inc g.substitutes }

theorem originate_eq (p : Part) : originate p = setSubstitute (substituteFrame p p.nextNumber) (substituteStarted p) := rfl

theorem sendTicks_cyc (dst src : Byte) (x : CycPayload) : sendTicks ⟨dst, src, 0x01, x.bytes⟩ = 440 := by
  rw [sendTicks, ReceivedRuns.cycBytes_length]
  rfl

theorem startedAt_substituteStarted (p : Part) (c : Corner) : StartedAt c (closeOpen p) (substituteStarted p) :=
  (startedAt_cycleStart .substitute p.nextNumber c (closeOpen p)).congr rfl rfl

theorem startedAt_originate (p : Part) (c : Corner) : StartedAt c (closeOpen p) (originate p) :=
  (startedAt_substituteStarted p c).congr (setSubstitute_corner ..) (setSubstitute_events ..)

theorem pendingEvent_originate {p : Part} {e : Event} (h : pendingEvent p e) : pendingEvent (originate p) e := by
  have hstarted : pendingEvent (substituteStarted p) e := (onlySupervisory_corners _).events e (pendingEvent_closeOpen h)
  unfold pendingEvent
  rw [originate_eq, setSubstitute_events]
  exact hstarted

theorem substituteStarted_frame (p : Part) : (substituteStarted p).now = p.now ∧ (substituteStarted p).portW = p.portW ∧
    (substituteStarted p).link.wheelBound = p.link.wheelBound ∧
    (substituteStarted p).globals.substitutes = min 4294967295 (p.globals.substitutes + 1) ∧
    cycleFrame p (substituteStarted p) := by
  obtain ⟨record, deadlineAt, h⟩ := closeOpen_frame p
  rw [substituteStarted, cycleStart_eq, h]
  exact ⟨rfl, rfl, rfl, rfl, rfl, rfl, rfl, rfl, rfl, rfl, rfl, rfl, rfl⟩

theorem substituteStarted_tracker {p : Part} (h : p.tracker.state = .holdover ∨ p.tracker.state = .localState) :
    (substituteStarted p).tracker = {
      state := p.tracker.state
      previous := some p.tracker.record.number
      record := ⟨p.tracker.record.number + 1, .substitute, .fill false, .fill false, false⟩
      lastStart := some p.now
      runCount := p.tracker.runCount
      missAt := some (p.now + 20000)
      deadlineAt := some (p.now + 40 * p.params.deadline) } := by
  have hmiss : p.tracker.state.missTicks = 20000 := by rcases h with h | h <;> rw [h] <;> rfl
  obtain ⟨record, deadlineAt, hclosed⟩ := closeOpen_frame p
  rw [substituteStarted, cycleStart_eq, hclosed, ← hmiss, Nat.mul_comm 40]
  rfl

/-- A substitute originated in HOLDOVER or LOCAL is the one of the statements. -/
theorem originated_originate {p : Part} (h : p.tracker.state = .holdover ∨ p.tracker.state = .localState) :
    originated p (originate p) p.now p.tracker.state p.tracker.runCount := by
  obtain ⟨hnow, hportW, hwheel, hcount, hframe⟩ := substituteStarted_frame p
  have hticks : (substituteStarted p).now + sendTicks (substituteFrame p p.nextNumber) = p.now + 440 := by
    rw [hnow, substituteFrame]
    exact congrArg (p.now + ·) (sendTicks_cyc ..)
  rw [originate_eq]
  refine ⟨?_, ?_, ?_, fun hw => ?_, fun hw => ?_, ?_, ?_, ?_, fun hclosed c => ?_⟩
  · rw [setSubstitute_now, hnow]
  · rw [setSubstitute_tracker, substituteStarted_tracker h]
  · rw [setSubstitute_globals, hcount]
  · rw [setSubstitute_of_sending _ _ (by rwa [hportW])]
    exact ⟨rfl, hportW⟩
  · rw [setSubstitute_of_idle _ _ (by rwa [hportW]), ← hticks]
    rfl
  · rw [setSubstitute_eq]
    exact hwheel
  · rw [setSubstitute_eq]
    exact hframe
  · rw [← originate_eq]
    exact cornersStarted_of_startedAt (startedAt_originate p)
  · have hstarted := startedAt_originate p c
    rw [closeOpen_of_closed hclosed] at hstarted
    exact hstarted.cornerStarted

/-! ## The entry to UNLOCKED (R12) -/

theorem unprime_corner (c : Corner) (p : Part) : (unprime c p).corner c = { p.corner c with motion := .unprimed } :=
  Part.corner_modCorner_self _ _ _

theorem unprimed_corner (c : Corner) (p : Part) : (forCorners unprime p).corner c = { p.corner c with motion := .unprimed } :=
  forCorners_corner (f := unprime) (g := fun _ k => { k with motion := .unprimed }) unprime_corner
    (fun _ _ _ h => Part.corner_modCorner_of_ne h _ _) (fun _ _ _ => rfl) c p

theorem enterUnlocked_corner (c : Corner) (p : Part) : (enterUnlocked p).corner c =
    reaction (decide (p.control = .engaged)) (withReason .stale true { p.corner c with motion := .unprimed }) := by
  rw [enterUnlocked, putReasons_corner, unprimed_corner]
  rfl

theorem enterUnlocked_eq (p : Part) : enterUnlocked p = { p with
    tracker := p.tracker.unlock, corners := (enterUnlocked p).corners, events := (enterUnlocked p).events } := by
  rw [enterUnlocked, SupplyMonitor.putReasons_eq]
  rfl

/-- A corner's record is unprimed, the corner STALE; banks and trackers stay. -/
theorem enterUnlocked_corner_estimate (c : Corner) (p : Part) :
    ((enterUnlocked p).corner c).motion = .unprimed ∧ ((enterUnlocked p).corner c).reasons.stale = true ∧
      ((enterUnlocked p).corner c).banks = (p.corner c).banks ∧ ((enterUnlocked p).corner c).stuck = (p.corner c).stuck := by
  rw [enterUnlocked_corner, reaction_eq]
  exact ⟨rfl, rfl, rfl, rfl⟩

/-! ## The expiry (R6, R7) -/

theorem exec_missTimerExpiry {m : Nat} {s : State} (h : s.part.tracker.missAt = some m) :
    exec .missTimerExpiry s = .next ⟨missExpiry (s.part.reach m), s.pending⟩ := by
  change s.onPart (expire s.part.tracker.missAt missExpiry) = _
  simp only [State.onPart_eq, h]
  rfl

theorem missExpiry_holdover {p : Part} (h : p.tracker.state = .locked)
    (hs : p.control = .engaged ∧ p.params.substitute = 1) : missExpiry p = originate (countRun (enterHoldover p)) := by
  rw [missExpiry, h]
  exact if_pos hs

theorem missExpiry_unlocked {p : Part} (h : p.tracker.state = .locked)
    (hs : ¬ (p.control = .engaged ∧ p.params.substitute = 1)) : missExpiry p = enterUnlocked p := by
  rw [missExpiry, h]
  exact if_neg hs

theorem missExpiry_next {p : Part} (h : p.tracker.state = .holdover) (hr : p.tracker.runCount < 16) :
    missExpiry p = originate (countRun p) := by
  rw [missExpiry, h]
  exact if_pos hr

theorem missExpiry_limit {p : Part} (h : p.tracker.state = .holdover) (hr : p.tracker.runCount = 16) :
    missExpiry p = originate (enterLocal 0 p) := by
  rw [missExpiry, h]
  exact if_neg (by rw [hr]; decide)

theorem missExpiry_local {p : Part} (h : p.tracker.state = .localState) : missExpiry p = originate p := by
  rw [missExpiry, h]

/-- Settles O6: HOLDOVER with its first substitute where the part substitutes, UNLOCKED elsewhere. -/
theorem missInLocked : Obligations.MissInLocked := by
  refine fun m s hm hlocked => ⟨fun hengaged hsubstitute => ?_, fun hother => ?_⟩
  · refine ⟨_, exec_missTimerExpiry hm, rfl, ?_⟩
    dsimp only
    rw [missExpiry_holdover (p := s.part.reach m) hlocked ⟨hengaged, hsubstitute⟩]
    exact ⟨originated_originate (p := countRun (enterHoldover (s.part.reach m))) (.inl rfl), originate_context _,
      pendingEvent_originate (p := countRun (enterHoldover (s.part.reach m)))
        (Estimation.pendingEvent_raise_self .cycleHoldover 0
          ((s.part.reach m).modTracker fun t => { t with state := .holdover, runCount := 0 }))⟩
  · refine ⟨_, exec_missTimerExpiry hm, rfl, ?_⟩
    dsimp only
    rw [missExpiry_unlocked (p := s.part.reach m) hlocked hother]
    exact ⟨enterUnlocked_eq _, fun c => enterUnlocked_corner_estimate c (s.part.reach m)⟩

/-- Settles O7: each case of the timer originates one substitute from the state it enters. -/
theorem substituteRun : Obligations.SubstituteRun := by
  refine fun m s hm => ⟨fun hholdover hrun => ?_, fun hholdover hrun => ?_, fun hlocal => ?_⟩
  · refine ⟨_, exec_missTimerExpiry hm, rfl, ?_⟩
    dsimp only
    rw [missExpiry_next (p := s.part.reach m) hholdover hrun]
    have horiginated := originated_originate (p := countRun (s.part.reach m)) (.inl hholdover)
    rw [show (countRun (s.part.reach m)).tracker.state = .holdover from hholdover] at horiginated
    exact ⟨horiginated, originate_context _⟩
  · refine ⟨_, exec_missTimerExpiry hm, rfl, ?_⟩
    dsimp only
    rw [missExpiry_limit (p := s.part.reach m) hholdover hrun]
    have horiginated := originated_originate (p := enterLocal 0 (s.part.reach m)) (.inr rfl)
    rw [show (enterLocal 0 (s.part.reach m)).tracker.runCount = 16 from hrun] at horiginated
    exact ⟨horiginated, originate_context _,
      pendingEvent_originate (p := enterLocal 0 (s.part.reach m)) (Estimation.pendingEvent_raise_self ..)⟩
  · refine ⟨_, exec_missTimerExpiry hm, rfl, ?_⟩
    dsimp only
    rw [missExpiry_local (p := s.part.reach m) hlocal]
    have horiginated := originated_originate (p := s.part.reach m) (.inr hlocal)
    rw [show (s.part.reach m).tracker.state = .localState from hlocal] at horiginated
    exact ⟨horiginated, originate_context _⟩

end Sys2Proof.Substitutes

/-! # A CYC starts a cycle (R2 to R5, R14, R152, R156) -/

namespace Sys2Proof.CycStarts

open Sys2Proof Sys2Proof.Machine Sys2Proof.Claims Sys2Proof.LinkPorts Sys2Proof.LinkResets Sys2Proof.Closures
  Sys2Proof.CycleStarts Sys2Proof.CycArrivals Sys2Proof.Substitutes

/-! ## The frame forwarded (R5, R152, R156) -/

/-- A frame placed in the wheel-bound queue is forwarded as the statements say. -/
theorem cycForwarded_placeWheelBound {f : Frame} {p q : Part} {instant : Nat} (hticks : q.now + sendTicks f = instant + 440)
    (hwheel : q.link.wheelBound = p.link.wheelBound) (hsubstitute : q.link.substitute = p.link.substitute)
    (hportW : q.portW = p.portW) : cycForwarded p (placeWheelBound f q) instant f := by
  refine ⟨fun hw hroom => ?_, fun hfull => ?_, fun hw hempty hnone => ?_⟩
  · rw [placeWheelBound_of_room (by rwa [hwheel]), arbitrateW_of_sending (by change q.portW.sending.isSome = true; rwa [hportW])]
    refine ⟨?_, hsubstitute, hportW⟩
    rw [← hwheel]
    rfl
  · rw [placeWheelBound_of_full (by rwa [hwheel]), ← hwheel, ← hsubstitute, ← hportW]
    exact ⟨rfl, rfl, rfl⟩
  · rw [placeWheelBound_of_idle (by rwa [hportW]) (by rwa [hwheel]) (by rwa [hsubstitute]), ← hticks, ← hportW]
    exact ⟨hwheel.trans hempty, hsubstitute.trans hnone, rfl⟩

/-! ## The cycle that a CYC starts -/

theorem blanks_eq_false {p : Part} (h : ∀ a, p.tracker.lastStart = some a → a + 10000 ≤ p.now) : p.blanks = false := by
  unfold Part.blanks
  split
  · rfl
  next a ha => exact decide_eq_false (not_lt.mpr (h a ha))

/-- The cycle that a CYC starts, its frame not yet forwarded. -/
def cycStarted (x : CycPayload) (p : Part) : Part :=
  cycleStart .controller x.number ((adopt x (closeOpen p)).modTracker Tracker.lock)

theorem takeCyc_of_not_blanks {p : Part} (h : p.blanks = false) (dst src : Byte) (x : CycPayload) :
    takeCyc dst src x p = placeWheelBound (cycFrame x dst src) (cycStarted x p) := if_neg (by simp [h])

theorem startedAt_cycStarted (x : CycPayload) (p : Part) (c : Corner) : StartedAt c (closeOpen p) (cycStarted x p) :=
  have h := startedAt_cycleStart .controller x.number c ((adopt x (closeOpen p)).modTracker Tracker.lock)
  ⟨h.corner, h.swapped, h.recovered⟩

/-- What the start leaves beside the corners, where the cycle before it was open or closed. -/
theorem cycStarted_frame (x : CycPayload) (p : Part) : (cycStarted x p).now = p.now ∧
    (cycStarted x p).context = adopted p.context x ∧ (cycStarted x p).portW = p.portW ∧
    (cycStarted x p).link.wheelBound = p.link.wheelBound ∧ (cycStarted x p).link.substitute = p.link.substitute ∧
    (cycStarted x p).globals = { p.globals with
      contextClamp := min 4294967295 (p.globals.contextClamp + clampCount x)
      reportOverrun := (cycStarted x p).globals.reportOverrun } ∧ cycleFrame p (cycStarted x p) := by
  obtain ⟨record, deadlineAt, h⟩ := closeOpen_frame p
  rw [cycStarted, cycleStart_eq, adopt_eq, h]
  exact ⟨rfl, rfl, rfl, rfl, rfl, rfl, rfl, rfl, rfl, rfl, rfl, rfl, rfl, rfl, rfl⟩

theorem cycStarted_tracker (x : CycPayload) (p : Part) : (cycStarted x p).tracker = {
    state := .locked
    previous := some p.tracker.record.number
    record := ⟨x.number, .controller, .fill false, .fill false, false⟩
    lastStart := some p.now
    runCount := 0
    missAt := some (p.now + 25000)
    deadlineAt := some (p.now + 40 * p.params.deadline) } := by
  obtain ⟨record, deadlineAt, h⟩ := closeOpen_frame p
  rw [cycStarted, cycleStart_eq, adopt_eq, h, Nat.mul_comm 40]
  rfl

/-- With no cycle to close, ports, link and counters stay as the arrival leaves them. -/
theorem cycStarted_of_closed {p : Part} (h : p.tracker.record.closed = true) (x : CycPayload) :
    (cycStarted x p).portS = p.portS ∧ (cycStarted x p).link = p.link ∧
      (cycStarted x p).globals.reportOverrun = p.globals.reportOverrun := by
  rw [cycStarted, cycleStart_eq, closeOpen_of_closed h]
  exact ⟨rfl, rfl, rfl⟩

/-! ## A closure and a good frame at Port S commute (R14, R149) -/

/-- An operation that the good frame before it or after it leaves the same. -/
def Commutes (f : Part → Part) : Prop := ∀ p, f (goodFrame .s p) = goodFrame .s (f p)

theorem Commutes.trans {f g : Part → Part} (hf : Commutes f) (hg : Commutes g) : Commutes fun p => g (f p) := fun p => by
  dsimp only
  rw [hf, hg]

theorem Commutes.forCorners {f : Corner → Part → Part} (h : ∀ c, Commutes (f c)) : Commutes (Machine.forCorners f) := fun p => by
  simp only [Machine.forCorners, h _ _]

theorem sending_goodFrame (p : Part) : (goodFrame .s p).portS.sending = p.portS.sending := rfl

theorem loaded_goodFrame (p : Part) : (goodFrame .s p).loaded = p.loaded := rfl

theorem supervise_goodFrame (c : Corner) : Commutes (supervise c) := by
  intro p
  unfold supervise
  rw [goodFrame_corner, goodFrame_control]
  split
  case h_5 => rfl
  all_goals split <;> rfl

theorem judgeLoaded_goodFrame : Commutes judgeLoaded := by
  intro p
  unfold judgeLoaded
  rw [goodFrame_control, loaded_goodFrame]
  split
  · split <;> rfl
  · split <;> rfl
  · rfl

theorem corruptActive_goodFrame (c : Corner) (id : BankId) : Commutes (corruptActive c id) := by
  have hcorrupted : Commutes fun p => raise (.mapParity c) id.code (p.modCorner c (fun k =>
    { k.modBanks (Banks.modBank id (fun b => { b with state := .corrupt })) with reasons := k.reasons.put .map true })) :=
    fun _ => rfl
  exact (hcorrupted.trans (supervise_goodFrame c)).trans judgeLoaded_goodFrame

theorem formTarget_goodFrame (c : Corner) (demand : Nat) (apply : Bool) : Commutes (formTarget c demand apply) := by
  intro p
  unfold formTarget
  dsimp only
  rw [goodFrame_corner]
  split
  · rfl
  · split
    · rfl
    · exact corruptActive_goodFrame c _ (p.modCorner c fun k => { k with lastTarget := 0 })

theorem formDemand_goodFrame (c : Corner) (sky ground apply : Bool) : Commutes (formDemand c sky ground apply) := by
  intro p
  rw [formDemand_eq, formDemand_eq, ← formTarget_goodFrame]
  rfl

theorem demandStep_goodFrame (c : Corner) (sky ground : Bool) : Commutes (demandStep c sky ground) := by
  intro p
  unfold demandStep
  rw [goodFrame_corner, goodFrame_control]
  split
  · exact formDemand_goodFrame c sky ground true p
  · exact formDemand_goodFrame c sky ground false p
  · rfl

theorem heldComputation_goodFrame (c : Corner) : Commutes (heldComputation c) := by
  intro p
  have hheld : Commutes (Estimation.heldPart c) := fun _ => rfl
  rw [Estimation.heldComputation_eq, hheld, supervise_goodFrame, demandStep_goodFrame]
  rfl

theorem computeHeld_goodFrame (c : Corner) : Commutes (computeHeld c) := by
  intro p
  unfold computeHeld
  rw [goodFrame_control, goodFrame_tracker]
  split
  · exact heldComputation_goodFrame c p
  · rfl

theorem arbitrateS_goodFrame : Commutes arbitrateS := by
  intro p
  unfold arbitrateS
  rw [sending_goodFrame, goodFrame_link]
  split
  · rfl
  · split <;> rfl

theorem placeReport_goodFrame (f : Frame) : Commutes (placeReport f) := by
  intro p
  cases h : p.link.report with
  | none =>
    rw [placeReport_of_free h, placeReport_of_free (p := goodFrame .s p) h]
    exact arbitrateS_goodFrame (p.modLink fun k => { k with report := some f })
  | some g =>
    have htaken : p.link.report.isSome = true := by rw [h]; rfl
    rw [placeReport_of_taken htaken, placeReport_of_taken (p := goodFrame .s p) htaken]
    exact arbitrateS_goodFrame ((p.modGlobals fun g => { g with reportOverrun := inc g.reportOverrun }).modLink
      fun k => { k with report := some f })

/-- The report tells nothing that a good frame changes. -/
theorem reportFrame_goodFrame (p : Part) : reportFrame (goodFrame .s p) = reportFrame p := rfl

theorem closeCycle_goodFrame : Commutes closeCycle := by
  intro p
  have hshut : Commutes fun p : Part => p.modTracker Tracker.shut := fun _ => rfl
  have hheld : Commutes allHeld := hshut.trans (.forCorners computeHeld_goodFrame)
  have hstopped : Commutes meansStopped := fun _ => rfl
  rw [closeCycle_eq, hheld, reportFrame_goodFrame, placeReport_goodFrame, hstopped]
  rfl

/-! ## The obligation -/

/-- The part as a CYC finds it: its instant reached, and its frame counted. -/
def arrived (instant : Nat) (p : Part) : Part := { afterGood .s p with now := instant }

/-- The part with its deadline at this instant. -/
def deadlineSet (d : Nat) (p : Part) : Part := p.modTracker fun t => { t with deadlineAt := some d }

theorem exec_deadlineExpiry_open {d : Nat} {s : State} (hd : s.part.tracker.deadlineAt = some d)
    (h : s.part.tracker.record.closed = false) :
    exec .deadlineExpiry s = .next ⟨closeCycle (s.part.reach d), s.pending⟩ := by
  have hopen : ¬ (s.part.reach d).tracker.record.closed = true := by
    change ¬ s.part.tracker.record.closed = true
    simp [h]
  change s.onPart (expire s.part.tracker.deadlineAt fun p =>
    if p.tracker.record.closed then p.modTracker (fun t => { t with deadlineAt := none }) else closeCycle p) = _
  simp only [State.onPart_eq, hd, expire, if_neg hopen]

theorem arrived_of_now {instant : Nat} {p : Part} (h : p.now = instant) : arrived instant p = goodFrame .s p := by
  subst h
  rfl

/-- A closure at the arrival's instant is the same before the frame's count and after it. -/
theorem arrived_closeCycle {instant : Nat} {p : Part} (h : p.now = instant) :
    arrived instant (closeCycle p) = closeCycle (arrived instant p) := by
  rw [arrived_of_now h, arrived_of_now ((closeCycle_now p).trans h), closeCycle_goodFrame]

theorem closeCycle_lastStart (p : Part) : (closeCycle p).tracker.lastStart = p.tracker.lastStart := by
  rw [closeCycle_tracker, allHeld_tracker]

theorem closeCycle_closed (p : Part) : (closeCycle p).tracker.record.closed = true := by
  rw [closeCycle_tracker, allHeld_tracker]

/-- A closure forgets the deadline it closes at. -/
theorem closeCycle_deadlineSet (d : Nat) (p : Part) : closeCycle (deadlineSet d p) = closeCycle p := by
  have hheld : allHeld (deadlineSet d p) = allHeld p := rfl
  rw [closeCycle_eq, hheld, closeCycle_eq]

section Arrival

variable {instant : Nat} {s : State} (hnow : s.part.now ≤ instant)
  (hspaced : ∀ a, s.part.tracker.lastStart = some a → a + 10000 ≤ instant)

include hnow hspaced

theorem exec_cycArrival_starts (dst src : Byte) (x : CycPayload) : exec (.cycArrival instant dst src x) s =
    .next ⟨placeWheelBound (cycFrame x dst src) (cycStarted x (arrived instant s.part)), s.pending⟩ := by
  rw [exec_cycArrival hnow, takeCyc_of_not_blanks (blanks_eq_false hspaced)]
  rfl

/-- An open cycle closed first by its deadline at the arrival leaves the CYC to do the same. -/
theorem exec_cycArrival_after_deadline (dst src : Byte) (x : CycPayload) (hopen : s.part.tracker.record.closed = false)
    {u : State} (hu : exec .deadlineExpiry ⟨deadlineSet instant s.part, s.pending⟩ = .next u) :
    exec (.cycArrival instant dst src x) u =
      .next ⟨placeWheelBound (cycFrame x dst src) (cycStarted x (arrived instant s.part)), s.pending⟩ := by
  have hcloses := exec_deadlineExpiry_open (d := instant) (s := ⟨deadlineSet instant s.part, s.pending⟩) rfl hopen
  obtain rfl := Host.Outcome.next.inj (hcloses.symm.trans hu)
  have hclosed : closeCycle ((deadlineSet instant s.part).reach instant) = closeCycle { s.part with now := instant } := by
    rw [reach_eq (p := deadlineSet instant s.part) hnow]
    exact closeCycle_deadlineSet instant { s.part with now := instant }
  have hopened : closeOpen (arrived instant s.part) = arrived instant (closeCycle { s.part with now := instant }) := by
    rw [arrived_closeCycle (p := { s.part with now := instant }) rfl]
    exact closeOpen_of_open hopen
  have hstays : closeOpen (arrived instant (closeCycle { s.part with now := instant })) =
      arrived instant (closeCycle { s.part with now := instant }) :=
    closeOpen_of_closed (p := arrived instant _) (closeCycle_closed { s.part with now := instant })
  rw [exec_cycArrival_starts]
  · rw [hclosed, cycStarted, hstays, cycStarted, hopened]
  · rw [hclosed, closeCycle_now]
  · rw [hclosed, closeCycle_lastStart]
    exact hspaced

end Arrival

/-- Settles O4: the cycle starts as `cycStarted` has it, and its frame joins the wheel-bound queue. -/
theorem cycStartsACycle : Obligations.CycStartsACycle := by
  intro instant dst src x s hnow hspaced
  obtain ⟨hat, hcontext, hportW, hwheel, hsubstitute, hglobals, hframe⟩ := cycStarted_frame x (arrived instant s.part)
  have htracker := cycStarted_tracker x (arrived instant s.part)
  have hstarted (c : Corner) : StartedAt c (closeOpen (arrived instant s.part))
      (placeWheelBound (cycFrame x dst src) (cycStarted x (arrived instant s.part))) :=
    (startedAt_cycStarted x _ c).congr (placeWheelBound_corner ..) (placeWheelBound_events ..)
  refine ⟨_, exec_cycArrival_starts hnow hspaced dst src x, rfl, ?_, ?_, ?_, ?_, cornersStarted_of_startedAt hstarted, ?_, ?_,
    fun hclosed => ?_, fun hopen u hu => exec_cycArrival_after_deadline hnow hspaced dst src x hopen hu⟩
  · exact (placeWheelBound_now ..).trans hat
  · exact (placeWheelBound_tracker ..).trans htracker
  · exact (placeWheelBound_context ..).trans hcontext
  · dsimp only
    rw [placeWheelBound_eq]
    exact hframe
  · exact cycForwarded_placeWheelBound (p := s.part) (by rw [hat]; exact congrArg (instant + ·) (sendTicks_cyc ..)) hwheel
      hsubstitute hportW
  · dsimp only
    rw [placeWheelBound_globals]
    exact hglobals
  · obtain ⟨hportS, hlink, hoverrun⟩ := cycStarted_of_closed (p := arrived instant s.part) hclosed x
    rw [closeOpen_of_closed (p := arrived instant s.part) hclosed] at hstarted
    refine ⟨(placeWheelBound_portS ..).trans hportS, ?_, ?_, fun c => (hstarted c).cornerStarted⟩
    · dsimp only
      rw [placeWheelBound_eq, hlink]
      rfl
    · dsimp only
      rw [placeWheelBound_globals]
      exact hoverrun

end Sys2Proof.CycStarts

/-! # The report of a closure, and the closure at the deadline (R14, R15, R31, R32, R92, R184, R189) -/

namespace Sys2Proof.Deadlines

open Sys2Proof Sys2Proof.Machine Sys2Proof.Claims Sys2Proof.Estimation Sys2Proof.StatusViews Sys2Proof.Closures
  Sys2Proof.CycStarts

/-! ## The report's fields (R182, R184, R189) -/

theorem startKind_code (x : StartKind) : x.code = if x = .controller then 0 else 1 := by cases x <;> rfl

theorem attention_eq (mask : Nat) (events : List Entry) :
    attention mask events = events.any (fun x => !mask.testBit (x.event.kindCode - 1)) := by
  simp only [attention, masked, Nat.testBit_eq_decide_div_mod_eq]

theorem totalLate_eq (p : Part) : totalLate p = min 4294967295 ((p.corner .fl).counters.late + (p.corner .fr).counters.late +
    (p.corner .rl).counters.late + (p.corner .rr).counters.late) := by
  change min 4294967295 (_ + _ + (_ + _)) = _
  rw [← Nat.add_assoc]
  rfl

/-- The stuck set stands in bits 0 to 2, the computation in bits 4 and 5. -/
theorem stuckByte_eq (x : Channels) (computed fresh : Bool) : x.byte ||| (computationCode computed fresh <<< 4) =
    byteOf (stuckSet x + 16 * (if fresh then 1 else if computed then 2 else 0)) := by
  change maskByte [x.ab.stuck, x.aw.stuck, x.h.stuck] ||| _ = byteOf (setOf x.ab.stuck x.aw.stuck x.h.stuck false false + _)
  generalize x.ab.stuck = ab, x.aw.stuck = aw, x.h.stuck = h
  revert ab aw h computed fresh
  decide

theorem reportCorner_eq (k : CornerPart) (computed fresh : Bool) :
    reportCorner k computed fresh = reportCornerBytes k computed fresh := by
  rw [reportCorner, reportCornerBytes, cornerState_code, stuckByte_eq, s16_eq, u16_eq, u16_eq, s16_eq, Reasons.byte,
    maskByte_five]
  rfl

theorem reportHead_eq (p : Part) : reportHead p = field16 p.tracker.record.number.toNat ++
    [if p.tracker.record.kind = .controller then 0 else 1, byteOf (controlCode p.control), byteOf (trackerCode p.tracker.state),
      byteOf (sourceCode p.context.source),
      byteOf (setOf (p.events.any (fun x => !p.params.eventMask.testBit (x.event.kindCode - 1))) p.portS.alarm p.portW.alarm
        false false), byteOf p.events.length, countByte p.portS.counters.check, countByte p.portW.counters.check,
      countByte (min 4294967295 ((p.corner .fl).counters.late + (p.corner .fr).counters.late +
        (p.corner .rl).counters.late + (p.corner .rr).counters.late))] := by
  rw [reportHead, wordBytes_eq, startKind_code, controlState_code, trackerState_code, contextSource_code, maskByte_three,
    totalLate_eq, attention_eq]
  rfl

theorem reportFrame_eq (p : Part) : reportFrame p = ⟨0x01, p.address, 0x12, reportBytes p⟩ := by
  simp only [reportFrame, reportCorner_eq, reportHead_eq, reportBytes, Corner.all, List.flatMap_cons, List.flatMap_nil,
    List.append_nil, List.append_assoc]
  rfl

theorem reportBytes_length (p : Part) : (reportBytes p).length = 55 := rfl

/-! ## The report's place (R154, R184) -/

theorem reportPlaced_arbitrateS {f : Frame} {p : Part} (h : p.link.report = some f) : reportPlaced (arbitrateS p) f := by
  unfold arbitrateS
  split
  · exact .inl h
  · rw [h]
    split
    · exact .inl h
    · exact .inl h
    next heq =>
      obtain rfl := Option.some.inj heq
      exact .inr ⟨_, rfl⟩
    next heq => cases heq

theorem reportPlaced_placeReport (f : Frame) (p : Part) : reportPlaced (placeReport f p) f := reportPlaced_arbitrateS rfl

theorem reportBytes_placeReport (f : Frame) (p : Part) : reportBytes (placeReport f p) = reportBytes p := by
  rw [placeReport_eq]
  rfl

/-- A mean that stops keeps its value. -/
theorem reportBytes_meansStopped (p : Part) : reportBytes (meansStopped p) = reportBytes p := by
  have hcorner (c : Corner) (computed fresh : Bool) : reportCornerBytes ((meansStopped p).corner c) computed fresh =
      reportCornerBytes (p.corner c) computed fresh := by
    rw [meansStopped_corner]
    rfl
  have hlate (c : Corner) : ((meansStopped p).corner c).counters.late = (p.corner c).counters.late := by
    rw [meansStopped_corner]
  simp only [reportBytes, hcorner, hlate]
  rfl

/-- The report tells the part as the closure leaves it. -/
theorem reportBytes_closeCycle (p : Part) : reportBytes (closeCycle p) = reportBytes (allHeld p) := by
  rw [closeCycle_eq, reportBytes_meansStopped, reportBytes_placeReport]

theorem reportPlaced_meansStopped {f : Frame} {p : Part} (h : reportPlaced p f) : reportPlaced (meansStopped p) f := h

theorem reportPlaced_closeCycle (p : Part) : reportPlaced (closeCycle p) ⟨0x01, p.address, 0x12, reportBytes (closeCycle p)⟩ := by
  have haddress : (allHeld p).address = p.address := by
    rw [allHeld_eq]
    rfl
  have hplaced := reportPlaced_placeReport (reportFrame (allHeld p)) (allHeld p)
  rw [reportFrame_eq, haddress] at hplaced
  rw [reportBytes_closeCycle, closeCycle_eq, reportFrame_eq, haddress]
  exact reportPlaced_meansStopped hplaced

/-! ## The corners (R15, R31, R32) -/

/-- A corner not yet reached by a closure stands as the closure found it. -/
structure Awaiting (c : Corner) (p q : Part) : Prop where
  corner : q.corner c = p.corner c
  computed : q.tracker.record.computed.get c = p.tracker.record.computed.get c
  control : q.control = p.control
  params : q.params = p.params

theorem Awaiting.andHeld {c d : Corner} {p q : Part} (h : Awaiting c p q) (hne : c ≠ d) : Awaiting c p (computeHeld d q) where
  corner := (computeHeld_corner_of_ne hne q).trans h.corner
  computed := by
    rw [← h.computed, computeHeld_tracker]
    dsimp only
    split
    · exact Quad.get_set_of_ne hne _ _
    · rfl
  control := (computeHeld_control d q).trans h.control
  params := (computeHeld_params d q).trans h.params

theorem awaiting_shut (c : Corner) (p : Part) : Awaiting c p (p.modTracker Tracker.shut) := ⟨rfl, rfl, rfl, rfl⟩

/-- What a corner's own computation makes of it stands at the end of the closure. -/
theorem allHeld_corner {c : Corner} {p : Part} {P : CornerPart → Prop}
    (own : ∀ q, Awaiting c p q → P ((computeHeld c q).corner c)) : P ((allHeld p).corner c) :=
  forCorners_establishes_own (R := Awaiting c p) (P := fun q => P (q.corner c)) (fun _ _ hne hq => hq.andHeld hne) own
    (fun d q hne hq => by rwa [computeHeld_corner_of_ne hne]) (awaiting_shut c p)

theorem allHeld_corner_of_not_due {c : Corner} {p : Part}
    (h : p.tracker.record.computed.get c = true ∨ p.control.computes = false) : (allHeld p).corner c = p.corner c := by
  refine allHeld_corner (P := fun k => k = p.corner c) fun q hq => ?_
  have hsame : computeHeld c q = q := by
    rcases h with h | h
    · exact computeHeld_of_computed (hq.computed.trans h)
    · exact computeHeld_of_not_computes (by rwa [hq.control])
  rw [hsame, hq.corner]

theorem allHeld_corner_of_due {c : Corner} {p : Part} (hn : p.tracker.record.computed.get c = false)
    (hc : p.control.computes = true) :
    SameEstimate ((p.corner c).heldUpdate p.params false false) ((allHeld p).corner c) := by
  refine allHeld_corner fun q hq => ?_
  have hsame := (heldComputation_kept c q).same
  rw [heldPart_corner, hq.corner, hq.params] at hsame
  rwa [computeHeld_of_due (by rwa [hq.control]) (hq.computed.trans hn)]

/-- Settles O8: the closure computes each corner once, on the estimate it found, and reports the part it leaves. -/
theorem deadlineCloses : Obligations.DeadlineCloses := by
  intro d s hd hopen
  refine ⟨_, exec_deadlineExpiry_open hd hopen, rfl, closeCycle_now _, ?_, fun c => ?_, closeCycle_context _, ?_,
    closeCycle_portW _, reportBytes_length _, reportPlaced_closeCycle _⟩
  · exact (closeCycle_tracker _).trans (allHeld_tracker _)
  · dsimp only
    rw [closeCycle_corner]
    refine ⟨rfl, fun hstays => ?_, fun ⟨hn, hc⟩ => ?_⟩
    · rw [allHeld_corner_of_not_due (p := s.part.reach d) hstays]
      exact ⟨rfl, rfl⟩
    · have hsame := allHeld_corner_of_due (p := s.part.reach d) hn hc
      obtain ⟨-, -, -, hcount⟩ := heldUpdate_frame (s.part.corner c) s.part.params false false
      refine ⟨hsame.held.trans ?_, fun hstale => ?_, fun hfresh hlimit => ?_⟩
      · change ((s.part.corner c).heldUpdate s.part.params false false).counters.held = _
        rw [hcount]
        rfl
      · obtain ⟨hmotion, hreason⟩ := heldUpdate_stale (s.part.corner c) s.part.params false false hstale
        exact ⟨hsame.motion.trans hmotion, hsame.stale.trans hreason⟩
      · obtain ⟨hmotion, hreason⟩ := heldUpdate_heldOn (s.part.corner c) s.part.params false false hfresh hlimit
        exact ⟨hsame.stale.trans hreason, hsame.motion.trans hmotion⟩
  · rw [closeCycle_frame]
    exact ⟨rfl, rfl, rfl, rfl, rfl, rfl, rfl, rfl, rfl⟩

end Sys2Proof.Deadlines

/-! # The demand and target of a computation (R48 to R56, R62, R67, R83, R125) -/

namespace Sys2Proof.Demands

open Sys2Proof Sys2Proof.Machine Sys2Proof.Claims Sys2Proof.Estimation Sys2Proof.DamperMaps Sys2Proof.Supervisory
  Sys2Proof.ParityFailures Sys2Proof.Closures Sys2Proof.Deadlines Sys2Proof.CycStarts

/-! ## The selection (R48 to R50) -/

/-- The model's candidate is the one of the statements. -/
theorem candidate_eq {b : Bands} {speed n : Nat} (h : candidate b speed n) : b.candidate speed = n := by
  obtain ⟨hn, hpresent, hbound, hlast⟩ := h
  obtain ⟨hle, htest, hnone⟩ := lastIndex_spec (fun k => (b.get k).present && decide ((b.get k).bound ≤ speed)) 7
  have hmeets : ((b.get n).present && decide ((b.get n).bound ≤ speed)) = true := by simp [hpresent, hbound]
  change lastIndex _ 8 = n
  refine le_antisymm ?_ (not_lt.mp fun hlt => ?_)
  · rcases htest with h0 | htest
    · rw [h0]
      exact Nat.zero_le _
    · obtain ⟨hp, hb⟩ := Bool.and_eq_true_iff.mp htest
      exact hlast _ hle hp (of_decide_eq_true hb)
  · exact Bool.false_ne_true ((hnone n hlt hn).symm.trans hmeets)

section Selection

variable {b : Bands} {mode : Mode} {speed hyst n : Nat}

theorem selectBand_eq (h : candidate b speed n) (x : Option Selection) :
    selectBand b mode speed hyst x = selected b mode speed hyst n x := by
  have hcandidate := candidate_eq h
  cases x with
  | none => simp only [selectBand, selected, hcandidate]
  | some x =>
    have hhyst : speed + hyst < (b.get x.band).bound ↔ speed < (b.get x.band).bound - hyst := by omega
    simp only [selectBand, selected, hcandidate, hhyst]
    by_cases hm : x.mode ≠ mode
    · rw [if_pos hm, if_pos (.inl hm)]
    · by_cases hup : x.band < n
      · rw [if_neg hm, if_pos hup, if_pos (.inr (.inl hup))]
      · rw [if_neg hm, if_neg hup]
        simp only [hm, hup, false_or]

/-- A selection just made is made again. -/
theorem selected_selected (x : Option Selection) :
    selected b mode speed hyst n (some (selected b mode speed hyst n x)) = selected b mode speed hyst n x := by
  have hcandidate : selected b mode speed hyst n (some ⟨n, mode⟩) = ⟨n, mode⟩ := by
    rw [selected]
    exact if_neg (by simp)
  cases x with
  | none => exact hcandidate
  | some x =>
    by_cases h : x.mode ≠ mode ∨ x.band < n ∨ (n < x.band ∧ speed < (b.get x.band).bound - hyst)
    · have hx : selected b mode speed hyst n (some x) = ⟨n, mode⟩ := if_pos h
      rw [hx, hcandidate]
    · have hx : selected b mode speed hyst n (some x) = x := if_neg h
      rw [hx, hx]

end Selection

/-! ## The sum (R52 to R56) -/

theorem mul_pos_iff_signs (h v : Int) : ((0 < h ∧ 0 < v) ∨ (h < 0 ∧ v < 0)) ↔ 0 < h * v := mul_pos_iff.symm

/-- Above the end zone the truncated quotient is the floor (R55). -/
theorem endStopTerm_eq (gain zone : Nat) (h v : Int) : endStopTerm gain zone h v =
    if (zone : Int) < |h| ∧ 0 < h * v then gain * (|h| - zone) / 1000 else 0 := by
  simp only [endStopTerm, mul_pos_iff_signs]
  split
  next hzone =>
    obtain ⟨hz, -⟩ := hzone
    exact Int.tdiv_eq_ediv_of_nonneg (mul_nonneg (Int.natCast_nonneg _) (by omega))
  next => rfl

theorem demandOf_eq (params : Params) (x : BandEntry) (m : Motion) (sky ground : Bool) (offset : Int) :
    demandOf params x m sky ground offset =
      (max 0 (min (params.demandMax : Int) (demandSum params x m sky ground offset))).toNat := by
  rw [demandOf, clampInt_eq_max_min (Int.natCast_nonneg _), endStopTerm_eq]
  rfl

/-! ## A demand formed, and its target (R51, R56, R62, R67, R70) -/

theorem inUse_eq_none {k : Banks} (h : ∀ id, k.active = some id → (k.get id).state ≠ .active) : k.inUse = none := by
  rw [← Option.not_isSome_iff_eq_none, inUse_isSome_iff]
  rintro ⟨id, ha, hs⟩
  exact h id ha hs

theorem inUse_eq_some {k : Banks} {id : BankId} (ha : k.active = some id) (hs : (k.get id).state = .active) :
    k.inUse = some id := by
  simp only [Banks.inUse, ha, hs, if_true]

theorem state_of_inUse {k : Banks} {id : BankId} (h : k.inUse = some id) : (k.get id).state = .active := by
  unfold Banks.inUse at h
  split at h
  · cases h
  · split at h
    · obtain rfl := Option.some.inj h
      assumption
    · cases h

theorem get_modBank_self (k : Banks) (id : BankId) (f : Bank → Bank) : (k.modBank id f).get id = f (k.get id) := by
  cases id <;> rfl

/-- A parity failure leaves other banks than it found. -/
theorem corrupted_banks_ne {k : CornerPart} {id : BankId} (h : k.banks.inUse = some id) : (corrupted id k).banks ≠ k.banks := by
  intro hsame
  have hstate := state_of_inUse h
  rw [← hsame] at hstate
  simp only [corrupted, get_modBank_self, reduceCtorEq] at hstate

/-- The parity failure's reason makes a regulating corner PASSIVE, and leaves a PASSIVE one. -/
theorem reaction_corrupted_state {k : CornerPart} (id : BankId) (h : k.state = .control ∨ k.state = .passive false) :
    (reaction true (corrupted id k)).state = .passive false := by
  rcases h with h | h
  · rw [reaction_of_control (k := corrupted id k) h (corrupted_reasons_none id k)]
    rfl
  · rw [PeriodStarts.reaction_of_passive (k := corrupted id k) true h (corrupted_reasons_none id k)]
    exact h

/-- What a demand formed in ENGAGED leaves of its corner and of the selection. -/
structure Formed (c : Corner) (demand : Nat) (apply : Bool) (p q : Part) : Prop where
  selection : q.selection = some p.selectBand
  lastDemand : (q.corner c).lastDemand = demand
  motion : (q.corner c).motion = (p.corner c).motion
  state : (q.corner c).state = (p.corner c).state ∨ (q.corner c).state = .passive false
  targetless : (p.corner c).banks.inUse = none → (q.corner c).lastTarget = 0 ∧ (q.corner c).reg = (p.corner c).reg ∧
    (q.corner c).state = (p.corner c).state
  target : ∀ id, (p.corner c).banks.inUse = some id → (q.corner c).banks = (p.corner c).banks →
    (q.corner c).lastTarget =
        (min (((p.corner c).banks.get id).interpolate (p.corner c).motion.vf demand) p.params.currentLimit).toNat ∧
      (q.corner c).reg.target = (if apply then (q.corner c).lastTarget else (p.corner c).reg.target) ∧
      (q.corner c).state = (p.corner c).state

theorem demandFormed_corner (c : Corner) (demand : Nat) (p : Part) :
    (demandFormed c demand p).corner c = { p.corner c with lastDemand := demand } := Part.corner_modCorner_self _ _ _

theorem formTarget_selection (c : Corner) (demand : Nat) (apply : Bool) (p : Part) :
    (formTarget c demand apply p).selection = p.selection := by
  unfold formTarget
  dsimp only
  split
  · rfl
  · split
    · rfl
    · exact corruptActive_selection ..

theorem formTarget_corner_of_none {c : Corner} {p : Part} (h : (p.corner c).banks.inUse = none) (demand : Nat) (apply : Bool) :
    (formTarget c demand apply p).corner c = { p.corner c with lastTarget := 0 } := by
  simp only [formTarget, h, Part.corner_modCorner_self]

section InUse

variable {c : Corner} {p : Part} {id : BankId} {demand : Nat} (h : (p.corner c).banks.inUse = some id)

include h

theorem formTarget_corner_of_intact
    (hi : ((p.corner c).banks.get id).interpolationIntact (p.corner c).motion.vf demand = true) (apply : Bool) :
    (formTarget c demand apply p).corner c = (p.corner c).takeTarget
      (min (((p.corner c).banks.get id).interpolate (p.corner c).motion.vf demand) p.params.currentLimit).toNat apply := by
  simp only [formTarget, h, hi, if_true, Part.corner_modCorner_self]

theorem formTarget_corner_of_upset (hc : p.control = .engaged)
    (hi : ((p.corner c).banks.get id).interpolationIntact (p.corner c).motion.vf demand = false) (apply : Bool) :
    ∃ m, (formTarget c demand apply p).corner c =
      { reaction true (corrupted id { p.corner c with lastTarget := 0 }) with motion := m } := by
  obtain ⟨m, hm⟩ := corruptActive_corner_self c id (p.modCorner c fun k => { k with lastTarget := 0 })
  rw [Part.modCorner_control, Part.corner_modCorner_self, decide_eq_true hc] at hm
  refine ⟨m, hm ▸ ?_⟩
  simp only [formTarget, h, hi, Bool.false_eq_true, if_false]

end InUse

theorem formed_formDemand {c : Corner} {sky ground apply : Bool} {p : Part} (hc : p.control = .engaged)
    (hs : (p.corner c).state = .control ∨ (p.corner c).state = .passive false) :
    Formed c (demandAt c sky ground p) apply p (formDemand c sky ground apply p) := by
  have hmotion := (formDemand_kept c sky ground apply hc).same.motion
  rw [formDemand_eq] at hmotion ⊢
  generalize demandAt c sky ground p = demand at hmotion ⊢
  have hselection : (formTarget c demand apply (demandFormed c demand p)).selection = some p.selectBand :=
    formTarget_selection ..
  have hcorner := demandFormed_corner c demand p
  rcases huse : (p.corner c).banks.inUse with _ | id
  · have hresult := formTarget_corner_of_none (c := c) (p := demandFormed c demand p) (by rw [hcorner]; exact huse) demand apply
    rw [hcorner] at hresult
    rw [hresult] at hmotion
    refine ⟨hselection, ?_, ?_, ?_, fun _ => ?_, fun id hid => absurd (huse.symm.trans hid) nofun⟩ <;> rw [hresult]
    · exact .inl rfl
    · exact ⟨rfl, rfl, rfl⟩
  · have hused : ((demandFormed c demand p).corner c).banks.inUse = some id := by rw [hcorner]; exact huse
    cases hi : ((p.corner c).banks.get id).interpolationIntact (p.corner c).motion.vf demand with
    | true =>
      have hresult := formTarget_corner_of_intact hused (demand := demand) (by rw [hcorner]; exact hi) apply
      rw [hcorner] at hresult
      refine ⟨hselection, ?_, ?_, ?_, fun hnone => absurd (huse.symm.trans hnone) nofun, fun id' hid _ => ?_⟩ <;> rw [hresult]
      · rfl
      · rfl
      · exact .inl rfl
      · obtain rfl := Option.some.inj (huse.symm.trans hid)
        refine ⟨rfl, ?_, rfl⟩
        cases apply <;> rfl
    | false =>
      obtain ⟨m, hresult⟩ := formTarget_corner_of_upset hused hc (demand := demand) (by rw [hcorner]; exact hi) apply
      rw [hcorner] at hresult
      refine ⟨hselection, ?_, hmotion, .inr ?_, fun hnone => absurd (huse.symm.trans hnone) nofun, fun id' hid hbanks => ?_⟩
      · rw [hresult, LinkResets.reaction_eq]
        rfl
      · rw [hresult]
        exact reaction_corrupted_state (k := { p.corner c with lastDemand := demand, lastTarget := 0 }) id hs
      · rw [hresult] at hbanks
        dsimp only at hbanks
        rw [reaction_banks] at hbanks
        exact absurd hbanks (corrupted_banks_ne (k := { p.corner c with lastDemand := demand, lastTarget := 0 }) huse)

/-! ## The supervisor's act before it (R122, R124) -/

/-- The target of a corner through the supervisor's act: kept in CONTROL and PASSIVE, 0 at the entry to PASSIVE. -/
theorem reaction_target (k : CornerPart) :
    ((reaction true k).state = .control → (reaction true k).reg.target = k.reg.target) ∧
    ((reaction true k).state = .passive false → k.state = .passive false → (reaction true k).reg.target = k.reg.target) ∧
    ((reaction true k).state = .passive false → k.state = .control → (reaction true k).reg.target = 0) := by
  rcases reaction_cases true k with h | ⟨-, -, hs, h⟩ | ⟨-, -, -, h⟩ <;> rw [h]
  · exact ⟨fun _ => rfl, fun _ _ => rfl, fun hp hc => absurd (hc.symm.trans hp) nofun⟩
  · refine ⟨nofun, fun _ hp => ?_, fun _ _ => rfl⟩
    rcases hs with hs | hs | ⟨b, hs⟩ <;> exact absurd (hs.symm.trans hp) nofun
  · exact ⟨fun _ => rfl, nofun, nofun⟩

/-! ## The end of a computation (R125) -/

/-- A part that a computation of a corner has reached, its supervisor's act and its demand still to come. -/
structure Updated (c : Corner) (p q : Part) : Prop where
  control : q.control = p.control
  params : q.params = p.params
  context : q.context = p.context
  schedule : q.schedule = p.schedule
  state : (q.corner c).state = (p.corner c).state
  banks : (q.corner c).banks = (p.corner c).banks
  reg : (q.corner c).reg = (p.corner c).reg

theorem demandStep_of_control {c : Corner} {p : Part} (hc : p.control = .engaged) (hs : (p.corner c).state = .control)
    (sky ground : Bool) : demandStep c sky ground p = formDemand c sky ground true p := by
  simp only [demandStep, hc, hs]

theorem demandStep_of_passive {c : Corner} {p : Part} (hc : p.control = .engaged) (hs : (p.corner c).state = .passive false)
    (sky ground : Bool) : demandStep c sky ground p = formDemand c sky ground false p := by
  simp only [demandStep, hc, hs]

theorem demandStep_of_other {c : Corner} {p : Part}
    (h : p.control ≠ .engaged ∨ (p.corner c).state ≠ .control ∧ (p.corner c).state ≠ .passive false) (sky ground : Bool) :
    demandStep c sky ground p = p.modCorner c fun k => { k with lastDemand := 0, lastTarget := 0 } := by
  unfold demandStep
  split
  next hc hs =>
    rcases h with h | ⟨h, -⟩
    · exact absurd hc h
    · exact absurd hs h
  next hc hs =>
    rcases h with h | ⟨-, h⟩
    · exact absurd hc h
    · exact absurd hs h
  next => rfl

/-- The selection that the statements name for a candidate. -/
def selection (p : Part) (n : Nat) : Selection :=
  selected (p.schedule.get p.context.mode) p.context.mode p.context.speed p.params.bandHyst n p.selection

theorem selectBand_eq_selection {p : Part} {n : Nat} (h : candidate (p.schedule.get p.context.mode) p.context.speed n) :
    p.selectBand = selection p n := selectBand_eq h p.selection

/-- In ENGAGED a demand is formed at a corner in CONTROL, its target applied, and at one whose ramp is in progress (R125). -/
theorem formed_demandStep {c : Corner} {p : Part} (hc : p.control = .engaged)
    (hs : (p.corner c).state = .control ∨ (p.corner c).state = .passive false) (sky ground : Bool) :
    ∃ apply, Formed c (demandAt c sky ground p) apply p (demandStep c sky ground p) ∧
      ((p.corner c).state = .control → apply = true) ∧ ((p.corner c).state = .passive false → apply = false) := by
  have hformed := hs
  rcases hs with hs | hs
  · refine ⟨true, ?_, fun _ => rfl, fun h => absurd (hs.symm.trans h) nofun⟩
    rw [demandStep_of_control hc hs]
    exact formed_formDemand hc hformed
  · refine ⟨false, ?_, fun h => absurd (hs.symm.trans h) nofun, fun _ => rfl⟩
    rw [demandStep_of_passive hc hs]
    exact formed_formDemand hc hformed

theorem Updated.supervise_frame {c : Corner} {p q : Part} (h : Updated c p q) :
    (supervise c q).control = p.control ∧ (supervise c q).params = p.params ∧ (supervise c q).context = p.context ∧
      (supervise c q).schedule = p.schedule ∧ ((supervise c q).corner c).banks = (p.corner c).banks :=
  ⟨(supervise_control c q).trans h.control, (supervise_params c q).trans h.params, (supervise_context c q).trans h.context,
    (supervise_schedule c q).trans h.schedule, (supervise_corner_banks c c q).trans h.banks⟩

/-- The supervisor's act on the corner of an update, in ENGAGED, by the state it had before the computation. -/
theorem Updated.supervise_target {c : Corner} {p q : Part} (h : Updated c p q) (hc : p.control = .engaged) :
    (((supervise c q).corner c).state = .control → ((supervise c q).corner c).reg.target = (p.corner c).reg.target) ∧
    (((supervise c q).corner c).state = .passive false → (p.corner c).state = .passive false →
      ((supervise c q).corner c).reg.target = (p.corner c).reg.target) ∧
    (((supervise c q).corner c).state = .passive false → (p.corner c).state = .control →
      ((supervise c q).corner c).reg.target = 0) := by
  rw [supervise_corner_self, h.control, decide_eq_true hc, ← h.reg, ← h.state]
  exact reaction_target (q.corner c)

section Step

variable {c : Corner} {n : Nat} {sky ground : Bool} {p q : Part} (h : Updated c p q)

include h

theorem demandMade_of_other
    (hother : p.control ≠ .engaged ∨
      ((supervise c q).corner c).state ≠ .control ∧ ((supervise c q).corner c).state ≠ .passive false) :
    demandMade c n sky ground p (demandStep c sky ground (supervise c q)) := by
  obtain ⟨hcontrol, -⟩ := h.supervise_frame
  rw [demandStep_of_other (by rwa [hcontrol])]
  have hcorner := Part.corner_modCorner_self c (fun k => { k with lastDemand := 0, lastTarget := 0 }) (supervise c q)
  refine ⟨fun _ => ?_, fun hc hs => ?_⟩
  · rw [hcorner]
    exact ⟨rfl, rfl⟩
  · rw [hcorner] at hs
    obtain ⟨hnc, hnp⟩ := hother.resolve_left fun hne => hne hc
    rcases hs with hs | hs
    · exact absurd hs hnc
    · exact absurd hs hnp

variable (hsel : candidate (p.schedule.get p.context.mode) p.context.speed n → selection q n = selection p n)

include hsel

theorem selectBand_supervise (hcandidate : candidate (p.schedule.get p.context.mode) p.context.speed n) :
    (supervise c q).selectBand = selection p n := by
  obtain ⟨-, -, hcontext, hschedule, -⟩ := h.supervise_frame
  rw [selectBand_eq_selection (by rwa [hcontext, hschedule]), ← hsel hcandidate]
  simp only [selection, supervise_schedule, supervise_context, supervise_params, supervise_selection]

theorem demandMade_of_formed (hc : p.control = .engaged)
    (hs : ((supervise c q).corner c).state = .control ∨ ((supervise c q).corner c).state = .passive false) :
    demandMade c n sky ground p (demandStep c sky ground (supervise c q)) := by
  obtain ⟨hcontrol, hparams, hcontext, hschedule, hbanks⟩ := h.supervise_frame
  obtain ⟨apply, hformed, hcontrolled, hpassive⟩ := formed_demandStep (hcontrol.trans hc) hs sky ground
  obtain ⟨hkept, hramping, hzero⟩ := h.supervise_target hc
  refine ⟨fun hother => ?_, fun _ _ hcandidate => ⟨selection p n, ?_, rfl, ?_, fun hnone => ?_, fun id ha hactive hsame => ?_⟩⟩
  · obtain ⟨hnc, hnp⟩ := hother.resolve_left fun hne => hne hc
    rcases hformed.state with hstate | hstate
    · rw [hstate] at hnc hnp
      exact absurd hs (not_or.mpr ⟨hnc, hnp⟩)
    · exact absurd hstate hnp
  · rw [hformed.selection, selectBand_supervise h hsel hcandidate]
  · rw [hformed.lastDemand, demandAt, demandOf_eq, selectBand_supervise h hsel hcandidate, hparams, hschedule, hcontext,
      hformed.motion]
  · obtain ⟨htarget, hreg, hstate⟩ := hformed.targetless (by rw [hbanks]; exact inUse_eq_none hnone)
    refine ⟨htarget, fun hstays => ?_⟩
    rw [hreg]
    exact hkept (hstate ▸ hstays)
  · obtain ⟨htarget, hreg, hstate⟩ := hformed.target id (by rw [hbanks]; exact inUse_eq_some ha hactive) (hsame.trans hbanks.symm)
    refine ⟨?_, fun hstays => ?_, fun hwas hstays => ?_, fun hwas hstays => ?_⟩
    · rw [htarget, hformed.motion, hformed.lastDemand, hbanks, hparams]
    · rw [hreg, hcontrolled (hstate ▸ hstays), if_pos rfl]
    · rw [hreg, hpassive (hstate ▸ hstays)]
      exact hramping (hstate ▸ hstays) hwas
    · rw [hreg, hpassive (hstate ▸ hstays)]
      exact hzero (hstate ▸ hstays) hwas

/-- The end of a corner's computation is the demand of the statements. -/
theorem demandMade_demandStep : demandMade c n sky ground p (demandStep c sky ground (supervise c q)) := by
  by_cases hc : p.control = .engaged
  · by_cases hs : ((supervise c q).corner c).state = .control ∨ ((supervise c q).corner c).state = .passive false
    · exact demandMade_of_formed h hsel hc hs
    · exact demandMade_of_other h (.inr (not_or.mp hs))
  · exact demandMade_of_other h (.inl hc)

end Step

/-! ## The two computations (R24, R32) -/

/-- A held update leaves state, banks and regulator of its corner. -/
theorem heldUpdate_rest (k : CornerPart) (params : Params) (dropB dropW : Bool) :
    (k.heldUpdate params dropB dropW).state = k.state ∧ (k.heldUpdate params dropB dropW).banks = k.banks ∧
      (k.heldUpdate params dropB dropW).reg = k.reg := by
  unfold CornerPart.heldUpdate
  dsimp only
  split
  · exact ⟨rfl, rfl, rfl⟩
  · split <;> exact ⟨rfl, rfl, rfl⟩

theorem updatedCorner_rest (params : Params) (x : Sample) (y : Channels) (k : CornerPart) :
    (updatedCorner params x y k).state = k.state ∧ (updatedCorner params x y k).banks = k.banks ∧
      (updatedCorner params x y k).reg = k.reg := by
  unfold updatedCorner sampleUpdate
  dsimp only
  split
  · exact heldUpdate_rest (sampledCorner y k) params _ _
  · exact ⟨rfl, rfl, rfl⟩

theorem updated_heldPart (c : Corner) (p : Part) : Updated c p (heldPart c p) := by
  obtain ⟨hstate, hbanks, hreg⟩ := heldUpdate_rest (p.corner c) p.params false false
  exact ⟨rfl, rfl, rfl, rfl, by rw [heldPart_corner, hstate], by rw [heldPart_corner, hbanks], by rw [heldPart_corner, hreg]⟩

theorem updated_sampledPart (c : Corner) (x : Sample) (p : Part) : Updated c p (Estimation.sampledPart c x p) := by
  obtain ⟨hstate, hbanks, hreg⟩ := updatedCorner_rest p.params x (channelsAfter p.params x (p.corner c).stuck) (p.corner c)
  refine ⟨?_, ?_, ?_, ?_, by rw [sampledPart_corner, hstate], by rw [sampledPart_corner, hbanks],
    by rw [sampledPart_corner, hreg]⟩ <;>
    simp [Estimation.sampledPart, feedChannels, countCorner]

theorem selection_sampledPart (c : Corner) (x : Sample) (p : Part) (n : Nat) :
    selection (Estimation.sampledPart c x p) n = selection p n := by
  simp [selection, Estimation.sampledPart, feedChannels, countCorner]

theorem freshComputation_eq_demandStep (c : Corner) (x : Sample) (p : Part) (y : Channels)
    (hy : y = channelsAfter p.params x (p.corner c).stuck) : freshComputation c x p =
      demandStep c (!drops (p.corner c).stuck.ab.stuck y.ab.stuck x.abInvalid)
        (!drops (p.corner c).stuck.aw.stuck y.aw.stuck x.awInvalid) (supervise c (Estimation.sampledPart c x p)) := by
  have hafter : ((feedChannels c x (addComputed c true (countCorner c (fun k => { k with fresh := inc k.fresh }) p))).corner
      c).stuck = y := by
    rw [hy, feedChannels_corner]
    simp [countCorner]
  rw [← hafter]
  rfl

theorem demandMade_freshComputation (c : Corner) (n : Nat) (x : Sample) (p : Part) (y : Channels)
    (hy : y = channelsAfter p.params x (p.corner c).stuck) :
    demandMade c n (!drops (p.corner c).stuck.ab.stuck y.ab.stuck x.abInvalid)
      (!drops (p.corner c).stuck.aw.stuck y.aw.stuck x.awInvalid) p (freshComputation c x p) := by
  rw [freshComputation_eq_demandStep c x p y hy]
  exact demandMade_demandStep (updated_sampledPart c x p) fun _ => selection_sampledPart c x p n

theorem demandMade_congr {c : Corner} {n : Nat} {sky ground : Bool} {p q q' : Part} (h : demandMade c n sky ground p q)
    (hcorner : q'.corner c = q.corner c) (hselection : q'.selection = q.selection) : demandMade c n sky ground p q' := by
  unfold demandMade
  rw [hcorner, hselection]
  exact h

/-! ## The closure -/

/-- Where a closure finds a part between two corners: what a demand reads stands, and the selection is the one it found or the
one that a demand of the closure made. -/
structure Midway (n : Nat) (p q : Part) : Prop where
  control : q.control = p.control
  params : q.params = p.params
  context : q.context = p.context
  schedule : q.schedule = p.schedule
  selection : candidate (p.schedule.get p.context.mode) p.context.speed n →
    q.selection = p.selection ∨ q.selection = some (selection p n)

theorem midway_shut (n : Nat) (p : Part) : Midway n p (p.modTracker Tracker.shut) := ⟨rfl, rfl, rfl, rfl, fun _ => .inl rfl⟩

theorem Midway.selection_eq {n : Nat} {p q : Part} (h : Midway n p q)
    (hcandidate : candidate (p.schedule.get p.context.mode) p.context.speed n) : Demands.selection q n = Demands.selection p n := by
  unfold Demands.selection
  rw [h.schedule, h.context, h.params]
  rcases h.selection hcandidate with hs | hs
  · rw [hs]
  · rw [hs]
    exact selected_selected _

theorem demandStep_selection (c : Corner) (sky ground : Bool) (p : Part) :
    (demandStep c sky ground p).selection = p.selection ∨ (demandStep c sky ground p).selection = some p.selectBand := by
  unfold demandStep
  split
  · exact .inr (formTarget_selection ..)
  · exact .inr (formTarget_selection ..)
  · exact .inl rfl

theorem computeHeld_selection (c : Corner) (p : Part) :
    (computeHeld c p).selection = p.selection ∨ (computeHeld c p).selection = some p.selectBand := by
  unfold computeHeld
  split
  · rw [heldComputation_eq]
    have hstep := demandStep_selection c (!(p.corner c).stuck.ab.stuck) (!(p.corner c).stuck.aw.stuck) (supervise c (heldPart c p))
    rw [Part.selectBand, supervise_selection, supervise_schedule, supervise_context, supervise_params] at hstep
    exact hstep
  · exact .inl rfl

theorem Midway.andHeld {n : Nat} {p q : Part} (h : Midway n p q) (d : Corner) : Midway n p (computeHeld d q) where
  control := (computeHeld_control d q).trans h.control
  params := (computeHeld_params d q).trans h.params
  context := (computeHeld_context d q).trans h.context
  schedule := (computeHeld_schedule d q).trans h.schedule
  selection hcandidate := by
    rcases computeHeld_selection d q with hs | hs
    · rw [hs]
      exact h.selection hcandidate
    · rw [hs, selectBand_eq_selection (by rwa [h.schedule, h.context]), h.selection_eq hcandidate]
      exact .inr rfl

/-- A corner's own computation in a closure forms the demand of the statements. -/
theorem demandMade_computeHeld {c : Corner} {n : Nat} {p q : Part} (hm : Midway n p q) (ha : Awaiting c p q)
    (hn : p.tracker.record.computed.get c = false) (hc : p.control.computes = true) :
    demandMade c n (!(p.corner c).stuck.ab.stuck) (!(p.corner c).stuck.aw.stuck) p (computeHeld c q) := by
  rw [computeHeld_of_due (by rwa [hm.control]) (ha.computed.trans hn), heldComputation_eq, ha.corner]
  have hu := updated_heldPart c q
  have hupdated : Updated c p (heldPart c q) := ⟨hu.control.trans hm.control, hu.params.trans hm.params,
    hu.context.trans hm.context, hu.schedule.trans hm.schedule, by rw [hu.state, ha.corner], by rw [hu.banks, ha.corner],
    by rw [hu.reg, ha.corner]⟩
  exact demandMade_demandStep hupdated fun hcandidate => hm.selection_eq hcandidate

/-- The computations of the other corners select the same band again. -/
theorem demandMade_andHeld {c d : Corner} {n : Nat} {sky ground : Bool} {p q : Part} (h : demandMade c n sky ground p q)
    (hm : Midway n p q) (hne : c ≠ d) : demandMade c n sky ground p (computeHeld d q) := by
  obtain ⟨hidle, hforms⟩ := h
  unfold demandMade
  rw [computeHeld_corner_of_ne hne]
  refine ⟨hidle, fun hc hs hcandidate => ?_⟩
  obtain ⟨x, hx, hselected, hrest⟩ := hforms hc hs hcandidate
  refine ⟨x, ?_, hselected, hrest⟩
  rcases computeHeld_selection d q with hsame | hagain
  · rw [hsame, hx]
  · rw [hagain, selectBand_eq_selection (by rwa [hm.schedule, hm.context]), hm.selection_eq hcandidate, hselected]
    rfl

theorem demandMade_allHeld {c : Corner} {p : Part} (n : Nat) (hn : p.tracker.record.computed.get c = false)
    (hc : p.control.computes = true) :
    demandMade c n (!(p.corner c).stuck.ab.stuck) (!(p.corner c).stuck.aw.stuck) p (allHeld p) := by
  refine (forCorners_establishes_own (c := c) (R := fun q => Midway n p q ∧ Awaiting c p q)
    (P := fun q => Midway n p q ∧ demandMade c n (!(p.corner c).stuck.ab.stuck) (!(p.corner c).stuck.aw.stuck) p q)
    (fun d q hne ⟨hm, ha⟩ => ⟨hm.andHeld d, ha.andHeld hne⟩)
    (fun q ⟨hm, ha⟩ => ⟨hm.andHeld c, demandMade_computeHeld hm ha hn hc⟩)
    (fun d q hne ⟨hm, hmade⟩ => ⟨hm.andHeld d, demandMade_andHeld hmade hm hne⟩) ⟨midway_shut n p, awaiting_shut c p⟩).2

theorem demandMade_closeCycle {c : Corner} {p : Part} (n : Nat) (hn : p.tracker.record.computed.get c = false)
    (hc : p.control.computes = true) :
    demandMade c n (!(p.corner c).stuck.ab.stuck) (!(p.corner c).stuck.aw.stuck) p (closeCycle p) := by
  have hselection : (closeCycle p).selection = (allHeld p).selection := by rw [closeCycle_frame]
  have hmade := demandMade_allHeld n hn hc
  unfold demandMade at hmade ⊢
  rw [closeCycle_corner, hselection]
  exact hmade

/-- Settles O42: both computations end in the same step, which forms what the state of its corner calls for. -/
theorem demandAndTarget : Obligations.DemandAndTarget := by
  refine ⟨fun c dst payload x n s hx hcomp hu hopen hnew htag => ?_, fun d n s hd hopen hcomp => ?_⟩
  · have htaken := takeSample_of_fresh c x (goodFrame .w s.part) hu hopen hnew htag
    have hoffer := (offerSample_of_computes hx (goodFrame .w s.part) hcomp).trans htaken
    obtain ⟨y, hy⟩ : ∃ y, y = channelsAfter s.part.params x (s.part.corner c).stuck := ⟨_, rfl⟩
    have hsame := (freshComputation_kept c x (goodFrame .w s.part)).same
    rw [sampledPart_corner, goodFrame_corner, goodFrame_params, ← hy] at hsame
    have hstuck := hsame.stuck.trans (updatedCorner_stuck ..)
    refine ⟨_, exec_sampleArrival c dst payload s, rfl, ?_⟩
    simp only [afterSample, show afterGood .w s.part = goodFrame .w s.part from rfl, hoffer, placeChassisBound_corner]
    refine ⟨hsame.fresh.trans (updatedCorner_fresh ..), hsame.held.trans (updatedCorner_held ..), ?_⟩
    rw [hstuck]
    exact demandMade_congr (p := goodFrame .w s.part)
      (demandMade_freshComputation c n x (goodFrame .w s.part) y (by rw [goodFrame_corner, goodFrame_params, hy]))
      (placeChassisBound_corner ..) (placeChassisBound_selection ..)
  · exact ⟨_, exec_deadlineExpiry_open hd hopen, rfl, fun c hn => demandMade_closeCycle (p := s.part.reach d) n hn hcomp⟩

end Sys2Proof.Demands

/-! # RELEASE (R10, R12, R117 to R119) -/

namespace Sys2Proof.Releases

open Sys2Proof Sys2Proof.Machine Sys2Proof.Claims Sys2Proof.Estimation Sys2Proof.GainSchedule Sys2Proof.CornerOutcomes
  Sys2Proof.Supervisory Sys2Proof.Reasons Sys2Proof.Closures Sys2Proof.Substitutes

/-! ## The corners (R117, R118) -/

theorem dropEngage_eq (k : CornerPart) : k.dropEngage =
    match k.state with
    | .calibrating _ _ => turnedOff k
    | _ => k := by
  unfold CornerPart.dropEngage
  rw [turnOff_eq]
  cases k.state <;> rfl

theorem release_eq (k : CornerPart) : { k.release with motion := .unprimed } = released k := by
  unfold CornerPart.release released
  simp only [turnOff_eq, abandon_eq]
  rfl

/-- Every calibrating corner is OFF (R117). -/
def engageDropped (p : Part) : Part := forCorners (fun c q => q.modCorner c CornerPart.dropEngage) p

/-- The corners after R118, the control state RELEASING. -/
def cornersReleased (p : Part) : Part :=
  forCorners unprime (forCorners (fun c q => q.modCorner c CornerPart.release) (p.setControl .releasing))

theorem modCorners_corner (f : CornerPart → CornerPart) (c : Corner) (p : Part) :
    (forCorners (fun c q => q.modCorner c f) p).corner c = f (p.corner c) :=
  forCorners_corner (f := fun c q => q.modCorner c f) (g := fun _ k => f k) (fun _ _ => Part.corner_modCorner_self _ _ _)
    (fun _ _ _ h => Part.corner_modCorner_of_ne h _ _) (fun _ _ _ => rfl) c p

theorem engageDropped_corner (c : Corner) (p : Part) : (engageDropped p).corner c = (p.corner c).dropEngage :=
  modCorners_corner CornerPart.dropEngage c p

theorem cornersReleased_corner (c : Corner) (p : Part) : (cornersReleased p).corner c = released (p.corner c) := by
  rw [cornersReleased, unprimed_corner, modCorners_corner, release_eq]
  rfl

theorem cornersReleased_eq (p : Part) :
    cornersReleased p = { p with corners := p.corners.map released, control := .releasing } := by
  have hcorners : (cornersReleased p).corners = p.corners.map released := by
    refine Quad.ext_get fun c => ?_
    rw [Quad.get_map]
    exact cornersReleased_corner c p
  have hframe : cornersReleased p = { p with corners := (cornersReleased p).corners, control := .releasing } :=
    forCorners_keeps (P := fun q => q = { p with corners := q.corners, control := .releasing }) (fun _ _ hq => by rw [hq]; rfl)
      (forCorners_keeps (P := fun q => q = { p with corners := q.corners, control := .releasing })
        (fun _ _ hq => by rw [hq]; rfl) rfl)
  exact hframe.trans (by rw [hcorners])

theorem released_frame (k : CornerPart) : (released k).banks = k.banks ∧ (released k).reasons = k.reasons ∧
    (released k).reg.meanRunning = k.reg.meanRunning := by
  unfold released
  dsimp only
  split <;> exact ⟨rfl, rfl, rfl⟩

theorem engageDropped_loaded (p : Part) : (engageDropped p).loaded = p.loaded := by
  refine Upkeep.loaded_congr (fun c => ?_) rfl
  rw [engageDropped_corner]
  unfold CornerPart.dropEngage
  split <;> rfl

/-! ## The end of RELEASING (R119) -/

/-- With every record unprimed, the end of RELEASING moves the control state alone. -/
theorem judgeReleased_of_unprimed {p : Part} (h : ∀ c, (p.corner c).motion = .unprimed) :
    judgeReleased p = { p with control := (judgeReleased p).control } := by
  have hsettled : settleUnengaged p = { p with control := (settleUnengaged p).control } := by
    unfold settleUnengaged
    split
    · rfl
    · have hcorners : (enterUnloaded p).corners = p.corners := by
        refine Quad.ext_get fun c => (enterUnloaded_corner p c).trans ?_
        rw [← h c]
        rfl
      rw [← hcorners]
      rfl
  unfold judgeReleased
  split
  · exact hsettled
  · rfl

theorem judgeReleased_control_of_released {p : Part} (hc : p.control = .releasing)
    (h : ∀ c, (p.corner c).state = .off ∨ (p.corner c).state = .fault) :
    (judgeReleased p).control = if p.loaded then .standby else .unloaded := by
  obtain ⟨⟨hcontrol, -⟩, -⟩ := settled_settleUnengaged p
  rw [judgeReleased_of_released hc h, hcontrol]

/-! ## Substitution stops (R10, R12) -/

theorem stopSubstitution_of_ne {p : Part} (hh : p.tracker.state ≠ .holdover) (hl : p.tracker.state ≠ .localState) :
    stopSubstitution p = p := by
  unfold stopSubstitution
  split
  next h => exact absurd h hh
  next h => exact absurd h hl
  next => rfl

theorem stopSubstitution_of_substituting {p : Part} (h : p.tracker.state = .holdover ∨ p.tracker.state = .localState) :
    stopSubstitution p = enterUnlocked (closeOpen p) := by
  unfold stopSubstitution
  rcases h with h | h <;> rw [h]

theorem supervise_of_not_engaged {p : Part} (h : p.control ≠ .engaged) (c : Corner) : supervise c p = p := by
  unfold supervise
  split
  case h_5 => rfl
  all_goals exact absurd (by assumption) h

/-- Outside ENGAGED no change of a reason raises an event. -/
theorem putReasons_events {p : Part} (h : p.control ≠ .engaged) (which : Reason) (present : Bool) :
    (forCorners (putReason which present) p).events = p.events := by
  refine (forCorners_keeps (P := fun q => q.events = p.events ∧ q.control = p.control) (fun c q ⟨hevents, hcontrol⟩ => ?_)
    ⟨rfl, rfl⟩).1
  refine ⟨?_, (putReason_control ..).trans hcontrol⟩
  have hidle : (q.modCorner c fun k => { k with reasons := k.reasons.put which present }).control ≠ .engaged := by
    rw [Part.modCorner_control, hcontrol]
    exact h
  rw [putReason, supervise_of_not_engaged hidle]
  exact hevents

section NotComputing

variable {p : Part} (h : p.control.computes = false)

include h

/-- In a control state that computes no corner a closure computes none. -/
theorem allHeld_of_not_computes : allHeld p = p.modTracker Tracker.shut := by
  refine forCorners_keeps (P := fun q => q = p.modTracker Tracker.shut) (fun c q hq => ?_) rfl
  subst hq
  exact computeHeld_of_not_computes h

theorem closeOpen_events_of_not_computes : (closeOpen p).events = p.events := by
  unfold closeOpen
  split
  · rfl
  · rw [closeCycle_frame, allHeld_of_not_computes h]
    rfl

theorem closeOpen_corner_of_not_computes (c : Corner) :
    ∃ r, (closeOpen p).corner c = { p.corner c with reg := { (p.corner c).reg with meanRunning := r } } := by
  unfold closeOpen
  split
  · exact ⟨_, rfl⟩
  · refine ⟨false, ?_⟩
    rw [closeCycle_corner, allHeld_of_not_computes h]
    rfl

/-- The tracker is UNLOCKED with its record closed, whether or not the cycle was open. -/
theorem closeOpen_unlock_of_not_computes : (closeOpen p).tracker.unlock = p.tracker.unlock := by
  unfold closeOpen
  split
  · rfl
  · rw [closeCycle_tracker, allHeld_of_not_computes h]
    rfl

/-- Substitution that stops in RELEASING: closed, UNLOCKED and STALE, with nothing computed and nothing raised. -/
theorem enterUnlocked_closeOpen (hne : p.control ≠ .engaged) :
    (enterUnlocked (closeOpen p)).tracker = p.tracker.unlock ∧ (enterUnlocked (closeOpen p)).events = p.events ∧
      (enterUnlocked (closeOpen p)).control = p.control ∧
      ∀ c, ∃ r, (enterUnlocked (closeOpen p)).corner c = { p.corner c with
        motion := .unprimed
        reg := { (p.corner c).reg with meanRunning := r }
        reasons := { (p.corner c).reasons with stale := true } } := by
  have hcontrol : (closeOpen p).control = p.control := by
    obtain ⟨record, deadlineAt, hframe⟩ := closeOpen_frame p
    rw [hframe]
  refine ⟨?_, ?_, (enterUnlocked_control _).trans hcontrol, fun c => ?_⟩
  · rw [enterUnlocked_eq]
    exact closeOpen_unlock_of_not_computes h
  · rw [enterUnlocked, putReasons_events (by rw [← hcontrol] at hne; exact hne)]
    exact closeOpen_events_of_not_computes h
  · obtain ⟨r, hr⟩ := closeOpen_corner_of_not_computes h c
    refine ⟨r, ?_⟩
    rw [enterUnlocked_corner, hcontrol, decide_eq_false hne, hr]
    rfl

end NotComputing

/-! ## The reply (R154, R165) -/

/-- A reply placed waits or is being sent. -/
theorem placed_placeReply (f : Frame) (p : Part) :
    f ∈ (placeReply f p).link.replies ∨ ∃ x, (placeReply f p).portS.sending = some ⟨f, x⟩ := by
  rcases hs : p.portS.sending with _ | x
  · rcases hr : p.link.replies with _ | ⟨g, rest⟩
    · rw [LinkPorts.placeReply_of_idle hs hr]
      exact .inr ⟨_, rfl⟩
    · have hjoined : (p.link.replies ++ [f]) = g :: (rest ++ [f]) := by rw [hr, List.cons_append]
      have hplaced : placeReply f p = _ := LinkPorts.arbitrateS_reply (p := p.modLink fun k =>
        { k with replies := k.replies ++ [f] }) hs hjoined
      rw [hplaced]
      exact .inl (List.mem_append_right rest (List.mem_singleton.mpr rfl))
  · have hbusy : p.portS.sending.isSome = true := by rw [hs]; rfl
    have hplaced : placeReply f p = _ := LinkPorts.arbitrateS_of_sending (p := p.modLink fun k =>
      { k with replies := k.replies ++ [f] }) hbusy
    rw [hplaced]
    exact .inl (List.mem_append_right _ (List.mem_singleton.mpr rfl))

theorem cycleFrame_placeReply {p q : Part} (f : Frame) (h : cycleFrame p q) : cycleFrame p (placeReply f q) := by
  unfold cycleFrame at h ⊢
  rw [placeReply_params, placeReply_schedule, placeReply_straps, placeReply_pwm, placeReply_supply, placeReply_store,
    placeReply_slot, placeReply_pins, placeReply_intervalAt]
  exact h

/-! ## RELEASE in ENGAGING (R117) -/

theorem release_of_args {args : List Byte} (h : args ≠ []) (p : Part) : Machine.release args p = (p, .refusedArgument []) := by
  cases args with
  | nil => exact absurd rfl h
  | cons => rfl

theorem release_elsewhere {p : Part} (hg : p.control ≠ .engaging) (he : p.control ≠ .engaged) :
    Machine.release [] p = (p, .refusedState []) := by
  unfold Machine.release
  dsimp only
  split
  next h => exact absurd h hg
  next h => exact absurd h he
  next => rfl

/-- What RELEASE makes of a part in ENGAGING. -/
def releaseEngaging (p : Part) : Part := settleUnengaged (engageDropped p)

theorem release_engaging {p : Part} (h : p.control = .engaging) : Machine.release [] p = (releaseEngaging p, .done []) := by
  simp only [Machine.release, h]
  rfl

theorem releaseEngaging_outcome (p : Part) : settled p.loaded (releaseEngaging p) ∧
    releaseEngaging p = { p with corners := (releaseEngaging p).corners, control := (releaseEngaging p).control } ∧
      ∀ c, ∃ m, (releaseEngaging p).corner c = { (p.corner c).dropEngage with motion := m } := by
  obtain ⟨hsettled, hframe, hcorner⟩ := settled_settleUnengaged (engageDropped p)
  rw [engageDropped_loaded] at hsettled
  refine ⟨hsettled, hframe, fun c => ?_⟩
  obtain ⟨m, hm⟩ := hcorner c
  exact ⟨m, hm.trans (by rw [engageDropped_corner])⟩

theorem releaseEngaging_motion_of_loaded {p : Part} (h : p.loaded = true) (c : Corner) :
    ((releaseEngaging p).corner c).motion = (p.corner c).motion := by
  have hloaded : releaseEngaging p = (engageDropped p).setControl .standby := if_pos ((engageDropped_loaded p).trans h)
  rw [hloaded]
  change ((engageDropped p).corner c).motion = _
  rw [engageDropped_corner]
  unfold CornerPart.dropEngage
  split <;> rfl

/-! ## RELEASE in ENGAGED (R10, R118, R119) -/

/-- The part with its corners released and substitution stopped, RELEASING not yet judged. -/
def substitutionStopped (p : Part) : Part := stopSubstitution (cornersReleased p)

/-- What RELEASE makes of a part in ENGAGED. -/
def releaseEngaged (p : Part) : Part := judgeReleased (substitutionStopped p)

theorem release_engaged {p : Part} (h : p.control = .engaged) : Machine.release [] p = (releaseEngaged p, .done []) := by
  simp only [Machine.release, h]
  rfl

section Stopped

variable (p : Part)

theorem cornersReleased_control : (cornersReleased p).control = .releasing := by rw [cornersReleased_eq]

theorem substitutionStopped_of_ne (hh : p.tracker.state ≠ .holdover) (hl : p.tracker.state ≠ .localState) :
    substitutionStopped p = cornersReleased p := by
  refine stopSubstitution_of_ne ?_ ?_ <;> rw [cornersReleased_eq]
  · exact hh
  · exact hl

theorem substitutionStopped_of_substituting (h : p.tracker.state = .holdover ∨ p.tracker.state = .localState) :
    substitutionStopped p = enterUnlocked (closeOpen (cornersReleased p)) :=
  stopSubstitution_of_substituting (by rw [cornersReleased_eq]; exact h)

theorem stopped_of_substituting : (enterUnlocked (closeOpen (cornersReleased p))).tracker = p.tracker.unlock ∧
    (enterUnlocked (closeOpen (cornersReleased p))).events = p.events ∧
    (enterUnlocked (closeOpen (cornersReleased p))).control = .releasing ∧
    ∀ c, ∃ r, (enterUnlocked (closeOpen (cornersReleased p))).corner c = { released (p.corner c) with
      reg := { (released (p.corner c)).reg with meanRunning := r }
      reasons := { (p.corner c).reasons with stale := true } } := by
  have hcontrol := cornersReleased_control p
  obtain ⟨htracker, hevents, hstays, hcorner⟩ :=
    enterUnlocked_closeOpen (p := cornersReleased p) (by rw [hcontrol]; rfl) (by rw [hcontrol]; nofun)
  have hsame : (cornersReleased p).tracker = p.tracker ∧ (cornersReleased p).events = p.events := by
    rw [cornersReleased_eq]
    exact ⟨rfl, rfl⟩
  refine ⟨htracker.trans (by rw [hsame.1]), hevents.trans hsame.2, hstays.trans hcontrol, fun c => ?_⟩
  obtain ⟨r, hr⟩ := hcorner c
  obtain ⟨-, hreasons, -⟩ := released_frame (p.corner c)
  refine ⟨r, hr.trans ?_⟩
  rw [cornersReleased_corner, hreasons]
  rfl

/-- Where RELEASING begins: what R118 makes of the corners stands, their mean accumulators and STALE aside. -/
theorem substitutionStopped_state : (substitutionStopped p).control = .releasing ∧
    (substitutionStopped p).loaded = p.loaded ∧ ∀ c, ((substitutionStopped p).corner c).motion = .unprimed ∧
      ((substitutionStopped p).corner c).state = (released (p.corner c)).state := by
  have hcorners : (substitutionStopped p).control = .releasing ∧ ∀ c, ∃ r x, (substitutionStopped p).corner c =
      { released (p.corner c) with reg := r, reasons := x } := by
    by_cases h : p.tracker.state = .holdover ∨ p.tracker.state = .localState
    · obtain ⟨-, -, hcontrol, hcorner⟩ := stopped_of_substituting p
      rw [substitutionStopped_of_substituting p h]
      exact ⟨hcontrol, fun c => let ⟨_, hr⟩ := hcorner c; ⟨_, _, hr⟩⟩
    · obtain ⟨hh, hl⟩ := not_or.mp h
      rw [substitutionStopped_of_ne p hh hl]
      exact ⟨cornersReleased_control p, fun c => ⟨_, _, cornersReleased_corner c p⟩⟩
  have hschedule : (substitutionStopped p).schedule = p.schedule := by
    by_cases h : p.tracker.state = .holdover ∨ p.tracker.state = .localState
    · rw [substitutionStopped_of_substituting p h, enterUnlocked_schedule, closeOpen_schedule, cornersReleased_eq]
    · obtain ⟨hh, hl⟩ := not_or.mp h
      rw [substitutionStopped_of_ne p hh hl, cornersReleased_eq]
  refine ⟨hcorners.1, Upkeep.loaded_congr (fun c => ?_) hschedule, fun c => ?_⟩
  · obtain ⟨r, x, hc⟩ := hcorners.2 c
    obtain ⟨hbanks, -⟩ := released_frame (p.corner c)
    rw [hc]
    dsimp only
    rw [hbanks]
  · obtain ⟨r, x, hc⟩ := hcorners.2 c
    rw [hc]
    exact ⟨rfl, rfl⟩

theorem releaseEngaged_eq :
    releaseEngaged p = { substitutionStopped p with control := (releaseEngaged p).control } := by
  obtain ⟨-, -, hcorner⟩ := substitutionStopped_state p
  exact judgeReleased_of_unprimed fun c => (hcorner c).1

theorem releaseEngaged_control_of_released (h : ∀ c, (released (p.corner c)).state = .off ∨ (released (p.corner c)).state = .fault) :
    (releaseEngaged p).control = if p.loaded then .standby else .unloaded := by
  obtain ⟨hcontrol, hloaded, hcorner⟩ := substitutionStopped_state p
  rw [← hloaded]
  refine judgeReleased_control_of_released hcontrol fun c => ?_
  rw [(hcorner c).2]
  exact h c

theorem releaseEngaged_control_of_waiting {c : Corner} (ho : (released (p.corner c)).state ≠ .off)
    (hf : (released (p.corner c)).state ≠ .fault) : (releaseEngaged p).control = .releasing := by
  obtain ⟨hcontrol, -, hcorner⟩ := substitutionStopped_state p
  rw [releaseEngaged, judgeReleased_of_waiting (d := c) (by rwa [(hcorner c).2]) (by rwa [(hcorner c).2])]
  exact hcontrol

end Stopped

/-! ## The obligation -/

theorem afterOrder_control (o : OrderIn) (code result reason : Byte) (data : List Byte) (effect : Part → Part) (p : Part) :
    (afterOrder o code result reason data effect p).control = (effect (goodFrame .s p)).control := placeReply_control _ _

theorem straps_releaseEngaging (p : Part) : (releaseEngaging p).straps = p.straps := by
  obtain ⟨-, hframe, -⟩ := releaseEngaging_outcome p
  rw [hframe]

theorem straps_releaseEngaged (p : Part) : (releaseEngaged p).straps = p.straps := by
  rw [releaseEngaged_eq]
  by_cases h : p.tracker.state = .holdover ∨ p.tracker.state = .localState
  · rw [substitutionStopped_of_substituting p h]
    dsimp only
    rw [enterUnlocked_straps, closeOpen_straps, cornersReleased_eq]
  · obtain ⟨hh, hl⟩ := not_or.mp h
    rw [substitutionStopped_of_ne p hh hl, cornersReleased_eq]

/-- In HOLDOVER and LOCAL everything but tracker, corners, control state and Port S's way stays. -/
theorem releaseEngaged_frame_of_substituting {p : Part} (h : p.tracker.state = .holdover ∨ p.tracker.state = .localState) :
    (releaseEngaged p).context = p.context ∧ cycleFrame p (releaseEngaged p) ∧ (releaseEngaged p).portW = p.portW := by
  obtain ⟨record, deadlineAt, hclosed⟩ := closeOpen_frame (cornersReleased p)
  rw [releaseEngaged_eq, substitutionStopped_of_substituting p h, enterUnlocked_eq, hclosed, cornersReleased_eq]
  exact ⟨rfl, ⟨rfl, rfl, rfl, rfl, rfl, rfl, rfl, rfl, rfl⟩, rfl⟩

/-- In HOLDOVER and LOCAL the tracker enters UNLOCKED, and every corner is released and STALE. -/
theorem releaseEngaged_of_substituting {p : Part} (h : p.tracker.state = .holdover ∨ p.tracker.state = .localState) :
    (releaseEngaged p).tracker = p.tracker.unlock ∧ (releaseEngaged p).events = p.events ∧
      ∀ c, ∃ r, (releaseEngaged p).corner c = { released (p.corner c) with
        reg := { (released (p.corner c)).reg with meanRunning := r }
        reasons := { (p.corner c).reasons with stale := true } } := by
  obtain ⟨htracker, hevents, -, hcorner⟩ := stopped_of_substituting p
  rw [releaseEngaged_eq, substitutionStopped_of_substituting p h]
  exact ⟨htracker, hevents, hcorner⟩

theorem releaseEngaged_of_ne {p : Part} (hh : p.tracker.state ≠ .holdover) (hl : p.tracker.state ≠ .localState) :
    releaseEngaged p = { p with corners := p.corners.map released, control := (releaseEngaged p).control } := by
  refine (releaseEngaged_eq p).trans ?_
  rw [substitutionStopped_of_ne p hh hl, cornersReleased_eq]

section Taken

variable {o : OrderIn} {s : State} (ht : takesOrders s.part) (ho : o.args = [])

include ht ho

theorem answers_release_engaging (h : s.part.control = .engaging) :
    answers (.release o) s (afterOrder o 0x31 0 0 [] releaseEngaging s.part) :=
  answers_of_handler rfl ht (by rw [ho]; exact release_engaging h) straps_releaseEngaging

theorem answers_release_engaged (h : s.part.control = .engaged) :
    answers (.release o) s (afterOrder o 0x31 0 0 [] releaseEngaged s.part) :=
  answers_of_handler rfl ht (by rw [ho]; exact release_engaged h) straps_releaseEngaged

end Taken

/-- Settles O37: by the control state at the arrival; in ENGAGED by whether the part substitutes. -/
theorem release : Obligations.Release := by
  intro o s ht
  refine ⟨fun ho => MapLoads.answers_of_refusal rfl ht rfl (release_of_args ho _),
    fun ho hg he => MapLoads.answers_of_refusal rfl ht ho (release_elsewhere (p := goodFrame .s s.part) hg he),
    fun ho hg => ⟨_, answers_release_engaging ht ho hg, rfl, ?_⟩, fun ho he => ⟨_, answers_release_engaged ht ho he, rfl, ?_⟩⟩
  · obtain ⟨⟨hcontrol, hmotion⟩, hframe, hcorner⟩ := releaseEngaging_outcome (goodFrame .s s.part)
    dsimp only
    refine ⟨afterOrder_congr _ _ _ _ _ ?_, ⟨?_, fun hl c => ?_⟩, fun c => ⟨?_, fun hl => ?_⟩⟩
    · rw [afterOrder_corners, afterOrder_control]
      exact hframe
    · rw [afterOrder_control]
      exact hcontrol
    · rw [afterOrder_corner]
      exact hmotion hl c
    · obtain ⟨m, hm⟩ := hcorner c
      rw [afterOrder_corner, hm]
      refine Eq.trans ?_ (dropEngage_eq (s.part.corner c))
      change { (s.part.corner c).dropEngage with motion := (s.part.corner c).motion } = (s.part.corner c).dropEngage
      unfold CornerPart.dropEngage
      split <;> rfl
    · rw [afterOrder_corner]
      exact releaseEngaging_motion_of_loaded (p := goodFrame .s s.part) hl c
  · dsimp only
    rw [afterOrder_control]
    refine ⟨releaseEngaged_control_of_released (goodFrame .s s.part), fun ⟨c, hoff, hfault⟩ =>
      releaseEngaged_control_of_waiting (goodFrame .s s.part) hoff hfault, fun hh hl => afterOrder_congr _ _ _ _ _ ?_, fun h => ?_⟩
    · exact releaseEngaged_of_ne (p := goodFrame .s s.part) hh hl
    · obtain ⟨htracker, hevents, hcorner⟩ := releaseEngaged_of_substituting (p := goodFrame .s s.part) h
      obtain ⟨hcontext, hframe, hportW⟩ := releaseEngaged_frame_of_substituting (p := goodFrame .s s.part) h
      refine ⟨?_, fun c => ?_, ?_, ?_, ?_, ?_, _, rfl, placed_placeReply _ _⟩
      · exact (placeReply_tracker ..).trans htracker
      · obtain ⟨r, hr⟩ := hcorner c
        obtain ⟨-, -, hmean⟩ := released_frame (s.part.corner c)
        rw [afterOrder_corner, hr, ← hmean]
        rfl
      · exact (placeReply_context ..).trans hcontext
      · exact (placeReply_events ..).trans hevents
      · exact cycleFrame_placeReply _ hframe
      · exact (placeReply_portW ..).trans hportW

end Sys2Proof.Releases
